-- ==== Sys2Proof/Word.lean ====
section
/-! DEFINITION. The widths of the JW-6410's words and memory records (0.7, 11.5), and nothing else. -/

namespace Sys2Proof

/-- One byte. -/
abbrev Byte := BitVec 8

/-- A 16-bit word of a reply, a tag or a trim image. -/
abbrev Half := BitVec 16

/-- A 32-bit register or sequence number. -/
abbrev Word := BitVec 32

/-- A 64-bit byte address of host memory (0.7). -/
abbrev Addr := BitVec 64

/-- A 64-byte record the device reads (setup block, request record, trim image), as one
little-endian number: byte k of the record is bits 8k+7 to 8k (0.7). -/
abbrev Record := BitVec 512

end Sys2Proof
end

