-- ==== Sys2Proof/Syntax.lean ====
section
/-! DEFINITION. The commands: one constructor per row of spec/opcode_table.json, with what the outside
world brings to the step. A request's operands stand in its 64-byte record, which the device has
fetched before it takes the request, so its taking has no operand of its own. -/

namespace Sys2Proof

/-- The response statuses of the AXI manager port (0.7, Memory responses). -/
inductive Resp where
  | okay
  | exokay
  | slverr
  | decerr
deriving DecidableEq, Repr

/-- The answer to a read of n bits: the responses of its beats and its data. `tracked` is false for an
answer to a read that the device no longer tracks (issued before a reset): it is discarded (log 12). -/
structure ReadAnswer (n : Nat) where
  tracked : Bool
  beats : List Resp
  data : BitVec n
deriving DecidableEq, Repr

/-- The answer to one write burst; `tracked` as in `ReadAnswer` (log 12). -/
structure WriteAnswer where
  tracked : Bool
  resp : Resp
deriving DecidableEq, Repr

/-- The commands of the block, in the order of the table. -/
inductive Instr where
  /-- POWER_ON_RESET (R179): the RST_N input; `straps` is FIT1 and FIT0 as sampled. -/
  | powerOnReset (straps : BitVec 2)
  /-- RESET (R179): a write of CONTROL with bit 1 set. -/
  | reset
  /-- ENABLE (R178): a write of CONTROL with bit 0 set and bit 1 clear. -/
  | enable
  /-- SETUP_BLOCK_READ_DONE (R178). -/
  | setupBlockReadDone (answer : ReadAnswer 512)
  /-- END_OF_INIT (R101). -/
  | endOfInit
  /-- REGISTER_WRITE (R176): a host write of `size` bytes at `offset` of the 64-byte window. -/
  | registerWrite (offset size : Nat) (value : Word)
  /-- RQ_TAIL_WRITE (R180). -/
  | rqTailWrite (value : Word)
  /-- BF_TAIL_WRITE (R180). -/
  | bfTailWrite (value : Word)
  /-- CP_HEAD_WRITE (R173, R180). -/
  | cpHeadWrite (value : Word)
  /-- ROW_END (R1). -/
  | rowEnd
  /-- MAINTENANCE_STROBE (R4). -/
  | maintenanceStrobe
  /-- TRIGGER_EDGE (R11). -/
  | triggerEdge
  /-- REPLY_RECEIVED (R74): the last bit of a reply on the port's CDAT line. `ownWindow` says that its
  start bit arrived in the window now open; `bits` are the 96 bits of words 0 to 5 in the order of
  arrival, the first received being the most significant (TABLE 5-2, TABLE 5-3). -/
  | replyReceived (port : Fin 4) (ownWindow : Bool) (bits : BitVec 96)
  /-- REQUEST_FETCH_ISSUE (R149). -/
  | requestFetchIssue
  /-- REQUEST_FETCH_DONE (R149). -/
  | requestFetchDone (answer : ReadAnswer 512)
  /-- BAD_KIND (R155): the taking of a head record of unknown kind. -/
  | badKind
  /-- BAD_FLAGS (R155): the taking of a head record of known kind with non-zero flags. -/
  | badFlags
  /-- STAGE (R32). -/
  | stage
  /-- STAGE_SCHEDULE (R63). -/
  | stageSchedule
  /-- COMMIT (R42). -/
  | commit
  /-- WITHDRAW (R54). -/
  | withdraw
  /-- START (R13). -/
  | start
  /-- STOP_END (R14): STOP whose manner is not ABORT. -/
  | stopEnd
  /-- STOP_ABORT (R16). -/
  | stopAbort
  /-- SET_CHANNEL (R83). -/
  | setChannel
  /-- PORT_ALIGN (R78). -/
  | portAlign
  /-- TRIM_PROGRAM (R102). -/
  | trimProgram
  /-- TRIM_IMAGE_READ_DONE (R103). -/
  | trimImageReadDone (answer : ReadAnswer 512)
  /-- TRIM_PROGRAM_VERIFY (R104): `image` and `check` are what the slot reads back as. -/
  | trimProgramVerify (image : Record) (check : Half)
  /-- TRIM_LOAD (R106). -/
  | trimLoad
  /-- TRIM_SLOT_READ_DONE (R107). -/
  | trimSlotReadDone
  /-- TRIM_HOST_READ_DONE (R107). -/
  | trimHostReadDone (answer : ReadAnswer 512)
  /-- READ_OUT (R158). -/
  | readOut
  /-- IMAGE_WRITE_DONE (R161): the responses of every burst of the image of pending-list entry `entry`. -/
  | imageWriteDone (entry : Nat) (responses : List Resp)
  /-- RECLAIM (R143). -/
  | reclaim
  /-- DESCRIPTOR_FETCH_ISSUE (R129, R144). -/
  | descriptorFetchIssue
  /-- DESCRIPTOR_FETCH_DONE (R130). -/
  | descriptorFetchDone (answer : ReadAnswer 128)
  /-- PAYLOAD_BURST_ISSUE (R120). -/
  | payloadBurstIssue
  /-- PAYLOAD_WRITE_DONE (R121): the answer to the payload burst in place `burst` of those in flight. -/
  | payloadWriteDone (burst : Nat) (answer : WriteAnswer)
  /-- HEADER_WRITE_DONE (R123): the answer to the header write in place `write` of those in flight. -/
  | headerWriteDone (write : Nat) (answer : WriteAnswer)
  /-- COMPLETION_WRITE_ISSUE (R166). -/
  | completionWriteIssue
  /-- COMPLETION_WRITE_DONE (R166). -/
  | completionWriteDone (answer : WriteAnswer)
  /-- NOTICE_TIMER_EXPIRY (R172). -/
  | noticeTimerExpiry
  /-- FRAME_REPORT_GRANT (R139). -/
  | frameReportGrant
  /-- COMMIT_LANDED (R52). -/
  | commitLanded
  /-- PORT_EVENT (R81). -/
  | portEvent
  /-- REJECTED_RETURN (R131). -/
  | rejectedReturn
  /-- DROP_SUMMARY_GRANT (R171). -/
  | dropSummaryGrant
  /-- RECLAIMED_RETURN (R144). -/
  | reclaimedReturn
  /-- LONG_REQUEST_DONE (R157). -/
  | longRequestDone
deriving DecidableEq, Repr

end Sys2Proof
end

