-- ==== Sys2Proof/Config.lean ====
section
/-! DEFINITION. What the spec leaves open: constants without a body, so that nothing can be proved of
their values. Each is named in a row of notes/assumptions. -/

namespace Sys2Proof.Config

/-- FREE. The revision field of IDENT, "a fixed value of the part" that R176 does not give (log 9). -/
opaque revision : BitVec 8

/-- FREE. The detail of a REQUEST_DONE for which the owning block's rule states none: START and STOP
(R13, R14, R16) and a completed PORT_ALIGN (R77). Applied to the counter `freeCount` (log 8). -/
opaque freeDetail : Nat → BitVec 8

/-- FREE. The aux of a REQUEST_DONE of START or STOP, for which R13 to R16 state none. Applied to the
counter `freeCount` (log 8). -/
opaque freeAux : Nat → BitVec 32

/-- FREE. The tick of a programming at which the image has been written: R104 orders the write between
the use mark and the check and gives no instant (log 10). -/
opaque imageWriteTick : Nat

end Sys2Proof.Config
end

