-- ==== Sys2Proof/Machine/State.lean ====
section
/-! DEFINITION. The state of the JW-6410: every item that TABLES 1-1, 5-4, 5-6, 7-1, 8-1, 8-2, 9-1, 10-1
and 11-1 and the rules of Chapters 1 to 11 name, as plain data, and the state after power-on reset. -/

namespace Sys2Proof.Machine

/-- The device states (TABLE 11-2). -/
inductive DeviceState where
  | init
  | disabled
  | setup
  | enabled
  | halted
deriving DecidableEq, Repr

/-- The causes shown in STATUS (TABLE 11-14). -/
inductive Cause where
  | none
  | setupReadError
  | setupInvalid
  | badIndex
  | bufferReadError
  | requestReadError
  | completionWriteError
  | dropOverflow
deriving DecidableEq, Repr

/-- The stream states (TABLE 1-2). -/
inductive StreamState where
  | stopped
  | running
  | waiting
  | draining
deriving DecidableEq, Repr

/-- The start modes (R13). -/
inductive StartMode where
  | free
  | triggered
deriving DecidableEq, Repr

/-- Why a frame was dropped (R134). -/
inductive DropReason where
  | noBuffer
  | overrun
  | backlog
deriving DecidableEq, Repr

/-- The sample formats (TABLE 2-1). -/
inductive SampleFormat where
  | raw16
  | pack12
  | delta8
deriving DecidableEq, Repr

/-- The damage policies (TABLE 2-1). -/
inductive DamagePolicy where
  | deliver
  | discard
deriving DecidableEq, Repr

/-- The nine frame-locked fields of a profile (TABLE 2-1). -/
structure Profile where
  rowPeriod : Nat
  frameRows : Nat
  rowFirst : Nat
  rowLast : Nat
  rowStep : Nat
  channelMask : BitVec 16
  sampleFormat : SampleFormat
  damagePolicy : DamagePolicy
  rowStamps : Bool
deriving DecidableEq, Repr

/-- The three copies of one profile (R21). -/
structure ProfileCopies where
  staged : Profile
  pend : Option Profile
  active : Profile
deriving DecidableEq, Repr

/-- The state of a commit group (R39). -/
inductive GroupState where
  | pending
  | landedUnreported
deriving DecidableEq, Repr

/-- A commit group (TABLE 3-1). Bit p of `profileSet` stands for Pp. -/
structure CommitGroup where
  tag : Half
  profileSet : BitVec 4
  scheduleFlag : Bool
  landingFrame : Word
  state : GroupState
  landedFrame : Option Word
deriving DecidableEq, Repr

/-- One entry of a schedule (R60). -/
structure ScheduleEntry where
  profile : Fin 4
  repeats : Nat
deriving DecidableEq, Repr

/-- The three copies of the schedule and the schedule position (R61, R67). -/
structure ScheduleUnit where
  staged : List ScheduleEntry
  pend : Option (List ScheduleEntry)
  active : List ScheduleEntry
  entry : Nat
  remaining : Nat
deriving DecidableEq, Repr

/-- What a frame slot holds (section 1.1). A buffered frame's slot keeps a copy of its bound profile
beside the reference to the record, since the record may be reported and freed before the frame's last
row has run (log 13). -/
inductive SlotFrame where
  | buffered (sequence : Word) (ref : Nat) (bound : Profile)
  | dropped (sequence : Word) (profile : Fin 4) (bound : Profile) (reason : DropReason)
deriving DecidableEq, Repr

/-- The stream controller (TABLE 1-1). `maintenance` is absent while the maintenance timer is stopped. -/
structure Stream where
  state : StreamState
  mode : StartMode
  rowIndex : Nat
  rowTimer : Nat
  next : Word
  current : Option SlotFrame
  setUp : Option SlotFrame
  missed : Nat
  maintenance : Option Nat
  frameMark : Bool
  timeCounter : BitVec 48
deriving DecidableEq, Repr

/-- The states of a converter port (TABLE 5-5). -/
inductive PortState where
  | off
  | aligning
  | up
  | lost
deriving DecidableEq, Repr

/-- The cause of a port's latest state change (R80). -/
inductive PortCause where
  | none
  | alignRequested
  | aligned
  | alignFailed
  | linkLost
deriving DecidableEq, Repr

/-- An open reply window (R73, R74): whether it was opened at a row strobe instant, whether the strobe
was an alignment request, and whether the window's reply has been taken. -/
structure ReplyWindow where
  atRow : Bool
  alignment : Bool
  answered : Bool
deriving DecidableEq, Repr

/-- A port record (TABLE 5-4), its reply window and the ticks left of the pulse on its CSTB line. -/
structure Port where
  state : PortState
  consecutiveBad : Nat
  goodAlign : Nat
  alignSpent : Nat
  lastCause : PortCause
  lastReported : PortState
  changeCount : Nat
  window : Option ReplyWindow
  pulse : Nat
deriving DecidableEq, Repr

/-- The sources of a channel (TABLE 5-6). -/
inductive Source where
  | converter
  | constant
  | ramp
  | prbs
deriving DecidableEq, Repr

/-- A channel-table entry (TABLE 5-6) with the channel's two generator values (R84, R85). -/
structure Channel where
  source : Source
  constant : Int
  trimApply : Bool
  ramp : Int
  prbs : BitVec 15
deriving DecidableEq, Repr

/-- One entry of the trim table (R96). -/
structure TrimEntry where
  offset : Int
  gain : Nat
deriving DecidableEq, Repr

/-- The sixteen entries of the trim table (R96). -/
abbrev TrimTable := Vector TrimEntry 16

/-- Where the trim table in force was loaded from (R96). -/
inductive TrimOrigin where
  | unity
  | slot (k : Fin 8)
  | host
deriving DecidableEq, Repr

/-- The state of a trim slot (R100). -/
inductive SlotState where
  | blank
  | programmed
  | defective
deriving DecidableEq, Repr

/-- The four one-time fields of a slot of the trim store (R99); `none` is unwritten. -/
structure TrimSlot where
  useMark : Bool
  image : Option Record
  check : Option Half
  voidMark : Bool
deriving DecidableEq, Repr

/-- The TRIM_PROGRAM in progress (R102 to R104): its image read in flight; its image held until a slot
read has ended (R107); or its slot being programmed, with the ticks since the use mark. -/
inductive TrimProgramming where
  | idle
  | reading (slot : Fin 8) (address : Addr)
  | held (slot : Fin 8) (image : Record)
  | programming (slot : Fin 8) (image : Record) (elapsed : Nat)
deriving DecidableEq, Repr

/-- The TRIM_LOAD in progress (R107): its slot read waiting for a programming to reach its verify; its
slot read under way, with its ticks; or its host-memory read in flight. -/
inductive TrimLoading where
  | idle
  | waiting (slot : Fin 8)
  | slotRead (slot : Fin 8) (elapsed : Nat)
  | hostRead (address : Addr)
deriving DecidableEq, Repr

/-- The trim unit (Chapter 6). -/
structure TrimUnit where
  table : TrimTable
  origin : TrimOrigin
  slots : Vector TrimSlot 8
  slotStates : Vector SlotState 8
  program : TrimProgramming
  load : TrimLoading
deriving DecidableEq, Repr

/-- A port's condition for the row in progress (R88); a GOOD condition holds the four sample words. -/
inductive Condition where
  | pending
  | good (w1 w2 w3 w4 : Half)
  | bad
  | down
deriving DecidableEq, Repr

/-- What a channel delivers for the row in progress, fixed at its strobe (R82, R88). -/
inductive FixedSample where
  | test (value : Int)
  | converter (trimApply : Bool)
deriving DecidableEq, Repr

/-- The row in progress at the intake (R88, R98). -/
structure IntakeRow where
  index : Nat
  frame : Option SlotFrame
  conditions : Vector Condition 4
  fixed : Vector FixedSample 16
  trim : TrimTable
deriving DecidableEq, Repr

/-- Why the open frame's later rows are refused (TABLE 7-1). -/
inductive CaptureStop where
  | none
  | truncated
  | writeFailed
deriving DecidableEq, Repr

/-- One staged byte, with its frame's record and the buffer offset at which it lands (R118). -/
structure StagedByte where
  ref : Nat
  offset : Nat
  value : Byte
deriving DecidableEq, Repr

/-- A payload burst in flight (R120): its frame's record, its host address, the buffer offset of its
first byte, and its bytes. -/
structure PayloadBurst where
  ref : Nat
  address : Addr
  offset : Nat
  data : List Byte
deriving DecidableEq, Repr

/-- A header write in flight (R123). -/
structure HeaderWrite where
  ref : Nat
  address : Addr
  data : List Byte
deriving DecidableEq, Repr

/-- The row coder and the payload writer (TABLE 7-1). The staging store's bytes are `unissued` and the
bytes of `bursts` (log 32). -/
structure Coder where
  openFrame : Option Nat
  cursor : Nat
  stop : CaptureStop
  preds : Vector (Option Int) 16
  unissued : List StagedByte
  bursts : List PayloadBurst
  headers : List HeaderWrite
deriving DecidableEq, Repr

/-- A buffer descriptor (TABLE 11-8). -/
structure Descriptor where
  address : Addr
  capacity : Word
  tag : Word
deriving DecidableEq, Repr

/-- The phases of a frame record (TABLE 8-3). -/
inductive Phase where
  | setUp
  | opened
  | closing
  | reportWait
deriving DecidableEq, Repr

/-- The disposition of a closing record (R137). -/
inductive Disposition where
  | deliver
  | discard
deriving DecidableEq, Repr

/-- The report kind of a record in REPORT_WAIT (TABLE 8-1). -/
inductive ReportKind where
  | frameDone
  | frameDiscarded
  | cancelled
deriving DecidableEq, Repr

/-- A frame record (TABLE 8-1). `ref` is the reference that slots, staged bytes and writes hold (log 14);
the damage set is held as the bits of TABLE 11-14. `turn` is 0 until the record enters REPORT_WAIT, and
then its place in the order of entry (R139; log 15). -/
structure FrameRecord where
  ref : Nat
  sequence : Word
  profile : Fin 4
  bound : Profile
  descriptor : Descriptor
  phase : Phase
  rowsPlanned : Nat
  rowsWritten : Nat
  rowsLost : Nat
  payloadBytes : Nat
  damage : BitVec 8
  disposition : Option Disposition
  missed : Nat
  startTime : Option (BitVec 48)
  reportKind : Option ReportKind
  turn : Nat
deriving DecidableEq, Repr

/-- The descriptor fetch in flight (R129, R144). -/
structure DescriptorFetch where
  address : Addr
  forReclaim : Bool
deriving DecidableEq, Repr

/-- The RECLAIM in progress (R143, R144). -/
structure Reclaim where
  target : Nat
  returned : Nat
deriving DecidableEq, Repr

/-- The buffer unit (TABLE 8-2). -/
structure Buffers where
  ringHead : Nat
  fetch : Option DescriptorFetch
  list : List Descriptor
  latch : Option Descriptor
  paused : Bool
  reclaim : Option Reclaim
deriving DecidableEq, Repr

/-- The statuses of a REQUEST_DONE (TABLE 11-13). -/
inductive Status where
  | ok
  | accepted
  | landed
  | badKind
  | badField
  | range
  | duplicateTag
  | listFull
  | pending
  | late
  | invalid
  | notFound
  | busy
  | notFitted
  | alignFailed
  | storeFull
  | readError
  | verifyFailed
  | absent
  | writeError
deriving DecidableEq, Repr

/-- The answer to a request: status, detail and aux (R156). -/
structure Answer where
  status : Status
  detail : BitVec 8
  aux : Word
deriving DecidableEq, Repr

/-- One burst of a read-out image (R161). -/
structure ImageBurst where
  address : Addr
  data : List Byte
deriving DecidableEq, Repr

/-- The work under way for an entry of the pending request list. A refused request has none. -/
inductive LongWork where
  | refused
  | stopEnd
  | align (port : Fin 4)
  | trimProgram
  | trimLoad
  | image (size : Nat) (bursts : List ImageBurst)
  | reclaim
deriving DecidableEq, Repr

/-- An entry of the pending request list (R153). It is ready when its answer is present. -/
structure PendingEntry where
  kind : BitVec 8
  tag : Half
  ringHead : Nat
  work : LongWork
  answer : Option Answer
deriving DecidableEq, Repr

/-- The request unit (TABLE 9-1). -/
structure Requests where
  head : Nat
  fetchIndex : Nat
  fetch : Option Addr
  intake : List Record
  entries : List PendingEntry
deriving DecidableEq, Repr

/-- Why a buffer was returned without a frame (TABLE 11-7). -/
inductive ReturnReason where
  | rejected
  | cancelled
  | reclaimed
deriving DecidableEq, Repr

/-- The fields of FRAME_DONE and FRAME_DISCARDED (R139). -/
structure FrameReport where
  sequence : Word
  tag : Word
  profile : Fin 4
  damage : BitVec 8
  rowsWritten : Nat
  rowsLost : Nat
  payloadBytes : Nat
  missed : Nat
deriving DecidableEq, Repr

/-- The completions (TABLE 10-2). -/
inductive Completion where
  | requestDone (tag : Half) (kind : BitVec 8) (answer : Answer) (ringHead : Nat)
  | commitLanded (tag : Half) (landed : Word) (profileSet : BitVec 4) (scheduleFlag : Bool)
  | frameDone (report : FrameReport)
  | frameDiscarded (report : FrameReport)
  | frameDropped (first last : Word) (count : Nat) (reasons : BitVec 8)
  | bufferReturned (tag : Word) (reason : ReturnReason)
  | portEvent (port : Fin 4) (state : PortState) (cause : PortCause) (changes : Nat)
deriving DecidableEq, Repr

/-- A completion ring write in flight (R166). -/
structure RingWrite where
  address : Addr
  data : List Byte
deriving DecidableEq, Repr

/-- The drop summary (R170); the reason set is held as the bits of TABLE 11-14. -/
structure DropSummary where
  first : Word
  last : Word
  count : Nat
  reasons : BitVec 8
deriving DecidableEq, Repr

/-- The completion unit (TABLE 10-1). `timer` is absent while the notice timer is IDLE, and otherwise
holds the ticks left to its expiry (log 26). -/
structure Completions where
  holding : List Completion
  tail : Nat
  phase : Bool
  write : Option RingWrite
  summary : Option DropSummary
  notice : Bool
  timer : Option Nat
deriving DecidableEq, Repr

/-- Base address and size in entries of one ring (TABLE 11-4). -/
structure Ring where
  base : Addr
  size : Nat
deriving DecidableEq, Repr

/-- What the device holds of the setup block (R177, TABLE 11-4). -/
structure Setup where
  request : Ring
  buffer : Ring
  completion : Ring
  threshold : Nat
  holdoff : Nat
deriving DecidableEq, Repr

/-- The register window and the device state (TABLE 11-1, TABLE 11-2). -/
structure RegisterWindow where
  device : DeviceState
  cause : Cause
  detail : BitVec 4
  setupLo : Word
  setupHi : Word
  rqTail : Word
  bfTail : Word
  cpHead : Word
  initTicks : Nat
  setupRead : Option Addr
  setup : Setup
  straps : BitVec 2
deriving DecidableEq, Repr

/-- The machine: the queue of waiting commands, the eleven blocks, and the model's two counters. -/
structure State where
  pending : List Instr
  window : RegisterWindow
  stream : Stream
  profiles : Vector ProfileCopies 4
  commits : List CommitGroup
  schedule : ScheduleUnit
  ports : Vector Port 4
  channels : Vector Channel 16
  row : Option IntakeRow
  trim : TrimUnit
  coder : Coder
  records : List FrameRecord
  buffers : Buffers
  requests : Requests
  completions : Completions
  freeCount : Nat
  nextRef : Nat
deriving DecidableEq, Repr

/-- No command of this model stops with a fault: a fatal fault of the device is its entry into HALTED
(R181), which is a next state. -/
inductive Fault where
deriving DecidableEq, Repr

/-- Why the machine has no answer. -/
inductive Refusal where
  /-- Raised by an arm of `exec` whose command has no meaning yet; safe, since nothing can be proved of
  what the command does. -/
  | notModelled (mnemonic : String)
deriving DecidableEq, Repr

/-- The profile of the defaults of TABLE 2-2 (R28). -/
def defaultProfile : Profile :=
  { rowPeriod := 400, frameRows := 1024, rowFirst := 0, rowLast := 1019, rowStep := 1,
    channelMask := 0x000F#16, sampleFormat := .raw16, damagePolicy := .deliver, rowStamps := false }

/-- TABLE 2-4: staged and active copies at the defaults, no pending copy. -/
def resetProfiles : Vector ProfileCopies 4 :=
  Vector.replicate 4 { staged := defaultProfile, pend := none, active := defaultProfile }

/-- TABLE 4-1. -/
def resetSchedule : ScheduleUnit :=
  { staged := [{ profile := 0, repeats := 1 }], pend := none,
    active := [{ profile := 0, repeats := 1 }], entry := 0, remaining := 1 }

/-- TABLE 1-3, but for the time counter, which the caller gives. -/
def resetStream (timeCounter : BitVec 48) : Stream :=
  { state := .stopped, mode := .free, rowIndex := 0, rowTimer := 0, next := 0#32, current := none,
    setUp := none, missed := 0, maintenance := none, frameMark := false, timeCounter := timeCounter }

/-- TABLE 5-7 for a port whose state after the reset is `state` (log 22 for the line). -/
def resetPort (state : PortState) : Port :=
  { state := state, consecutiveBad := 0, goodAlign := 0, alignSpent := 0, lastCause := .none,
    lastReported := state, changeCount := 0, window := none, pulse := 0 }

/-- TABLE 5-7: a channel after either reset. -/
def resetChannel : Channel :=
  { source := .converter, constant := 0, trimApply := true, ramp := 0, prbs := 1#15 }

/-- Unity trim (R101). -/
def unityTrim : TrimTable := Vector.replicate 16 { offset := 0, gain := 16384 }

/-- A slot that nothing has written (R99). -/
def blankSlot : TrimSlot := { useMark := false, image := none, check := none, voidMark := false }

/-- TABLE 7-5. -/
def resetCoder : Coder :=
  { openFrame := none, cursor := 64, stop := .none, preds := Vector.replicate 16 none,
    unissued := [], bursts := [], headers := [] }

/-- TABLE 8-4. -/
def resetBuffers : Buffers :=
  { ringHead := 0, fetch := none, list := [], latch := none, paused := false, reclaim := none }

/-- TABLE 9-5. -/
def resetRequests : Requests :=
  { head := 0, fetchIndex := 0, fetch := none, intake := [], entries := [] }

/-- TABLE 10-4. -/
def resetCompletions : Completions :=
  { holding := [], tail := 0, phase := true, write := none, summary := none, notice := false,
    timer := none }

/-- The setup block's values before the first ENABLE: not given by the spec (log 5). -/
def resetSetup : Setup :=
  { request := { base := 0#64, size := 0 }, buffer := { base := 0#64, size := 0 },
    completion := { base := 0#64, size := 0 }, threshold := 0, holdoff := 0 }

/-- TABLE 11-3 after power-on reset. -/
def resetWindow (straps : BitVec 2) : RegisterWindow :=
  { device := .init, cause := .none, detail := 0#4, setupLo := 0#32, setupHi := 0#32, rqTail := 0#32,
    bfTail := 0#32, cpHead := 0#32, initTicks := 0, setupRead := none, setup := resetSetup,
    straps := straps }

/-- The machine right after power-on reset: the reset tables of Chapters 1 to 11, a new part's blank trim
store (log 7), and the straps at 0, one port fitted (log 4). -/
def State.reset : State :=
  { pending := [], window := resetWindow 0#2, stream := resetStream 0#48, profiles := resetProfiles,
    commits := [], schedule := resetSchedule, ports := Vector.replicate 4 (resetPort .off),
    channels := Vector.replicate 16 resetChannel, row := none,
    trim := { table := unityTrim, origin := .unity, slots := Vector.replicate 8 blankSlot,
              slotStates := Vector.replicate 8 .blank, program := .idle, load := .idle },
    coder := resetCoder, records := [], buffers := resetBuffers, requests := resetRequests,
    completions := resetCompletions, freeCount := 0, nextRef := 0 }

end Sys2Proof.Machine
end

