-- ==== Sys2Proof/Machine/Flags.lean ====
section
/-! DEFINITION. The code tables (11.6, TABLE 9-4) and the bits of the damage and reason sets. -/

namespace Sys2Proof.Machine

/-- The damage kinds, each the bit of the damage set that stands for it (TABLE 11-14). -/
def damageLiveEdit : BitVec 8 := 0x01
def damageLinkError : BitVec 8 := 0x02
def damagePortDown : BitVec 8 := 0x04
def damageTruncated : BitVec 8 := 0x08
def damageRowsLost : BitVec 8 := 0x10
def damageWriteError : BitVec 8 := 0x20
def damageAborted : BitVec 8 := 0x40

/-- LIVE_EDIT, LINK_ERROR and PORT_DOWN are the discardable damages (R136). -/
def discardableDamage : BitVec 8 := damageLiveEdit ||| damageLinkError ||| damagePortDown

/-- A damage set that is non-empty and holds discardable kinds only (R137). -/
def onlyDiscardable (damage : BitVec 8) : Bool :=
  damage != 0 && (damage &&& ~~~ discardableDamage) == 0

/-- The disposition of a record entering CLOSING (R137). -/
def dispositionOf (policy : DamagePolicy) (damage : BitVec 8) : Disposition :=
  match policy with
  | .deliver => .deliver
  | .discard => if onlyDiscardable damage then .discard else .deliver

/-- The bit of a drop reason in a reason set (TABLE 11-14). -/
def DropReason.bit : DropReason → BitVec 8
  | .noBuffer => 0x01
  | .overrun => 0x02
  | .backlog => 0x04

/-- Device state codes (11.1). -/
def DeviceState.code : DeviceState → Nat
  | .init => 0
  | .disabled => 1
  | .setup => 2
  | .enabled => 3
  | .halted => 4

/-- Cause codes (TABLE 11-14). -/
def Cause.code : Cause → Nat
  | .none => 0
  | .setupReadError => 1
  | .setupInvalid => 2
  | .badIndex => 3
  | .bufferReadError => 4
  | .requestReadError => 5
  | .completionWriteError => 6
  | .dropOverflow => 7

/-- Stream state codes (TABLE 9-4). -/
def StreamState.code : StreamState → Nat
  | .stopped => 0
  | .running => 1
  | .waiting => 2
  | .draining => 3

/-- Start mode codes (TABLE 9-4, TABLE 11-6). -/
def StartMode.code : StartMode → Nat
  | .free => 0
  | .triggered => 1

/-- Sample format codes (TABLE 2-1). -/
def SampleFormat.code : SampleFormat → Nat
  | .raw16 => 0
  | .pack12 => 1
  | .delta8 => 2

/-- The sample format of a code within its range (TABLE 2-2). -/
def SampleFormat.ofCode : Nat → SampleFormat
  | 0 => .raw16
  | 1 => .pack12
  | _ => .delta8

/-- Damage policy codes (TABLE 2-1). -/
def DamagePolicy.code : DamagePolicy → Nat
  | .deliver => 0
  | .discard => 1

/-- The damage policy of a code within its range (TABLE 2-2). -/
def DamagePolicy.ofCode : Nat → DamagePolicy
  | 0 => .deliver
  | _ => .discard

/-- Source codes (2.3). -/
def Source.code : Source → Nat
  | .converter => 0
  | .constant => 1
  | .ramp => 2
  | .prbs => 3

/-- The source of a code within its range (TABLE 2-2). -/
def Source.ofCode : Nat → Source
  | 0 => .converter
  | 1 => .constant
  | 2 => .ramp
  | _ => .prbs

/-- Port state codes (TABLE 9-4). -/
def PortState.code : PortState → Nat
  | .off => 0
  | .aligning => 1
  | .up => 2
  | .lost => 3

/-- Port cause codes (11.5). -/
def PortCause.code : PortCause → Nat
  | .none => 0
  | .alignRequested => 1
  | .aligned => 2
  | .alignFailed => 3
  | .linkLost => 4

/-- Slot state codes (TABLE 9-3). -/
def SlotState.code : SlotState → Nat
  | .blank => 0
  | .programmed => 1
  | .defective => 2

/-- Trim origin codes (TABLE 9-3). -/
def TrimOrigin.code : TrimOrigin → Nat
  | .unity => 0
  | .slot k => 1 + k.val
  | .host => 9

/-- Commit group state codes (TABLE 9-3). -/
def GroupState.code : GroupState → Nat
  | .pending => 0
  | .landedUnreported => 1

/-- Frame record phase codes (TABLE 9-4). -/
def Phase.code : Phase → Nat
  | .setUp => 0
  | .opened => 1
  | .closing => 2
  | .reportWait => 3

/-- Return reason codes (TABLE 11-7). -/
def ReturnReason.code : ReturnReason → Nat
  | .rejected => 1
  | .cancelled => 2
  | .reclaimed => 3

/-- Status codes (TABLE 11-13). -/
def Status.code : Status → Nat
  | .ok => 0
  | .accepted => 1
  | .landed => 2
  | .badKind => 3
  | .badField => 4
  | .range => 5
  | .duplicateTag => 6
  | .listFull => 7
  | .pending => 8
  | .late => 9
  | .invalid => 10
  | .notFound => 11
  | .busy => 12
  | .notFitted => 13
  | .alignFailed => 14
  | .storeFull => 15
  | .readError => 16
  | .verifyFailed => 17
  | .absent => 18
  | .writeError => 19

/-- Completion kind codes (TABLE 11-12). -/
def Completion.code : Completion → Nat
  | .requestDone .. => 1
  | .commitLanded .. => 2
  | .frameDone .. => 3
  | .frameDiscarded .. => 4
  | .frameDropped .. => 5
  | .bufferReturned .. => 6
  | .portEvent .. => 7

end Sys2Proof.Machine
end

