-- ==== Sys2Proof/Machine/Formats.lean ====
section
/-! DEFINITION. The records the device writes, byte by byte: completions, frame headers, row stamps and
read-out images (11.5, R159, R183). -/

namespace Sys2Proof.Machine

/-- The n bytes of a value, least significant first (0.7). A value wider than the field is taken modulo
the field's width. -/
def bytesLE (n value : Nat) : List Byte :=
  (List.range n).map fun k => BitVec.ofNat 8 (value / 2 ^ (8 * k))

/-- The two's complement code of a signed value at a width (R183). -/
def signedCode (width : Nat) (value : Int) : Nat := (BitVec.ofInt width value).toNat

/-- One bit as a number. -/
def bit (b : Bool) : Nat := if b then 1 else 0

/-- A completion of 32 bytes: the fields after the kind and phase bytes, then zero bytes (R182). -/
def completionBytes (kind : Nat) (phase : Bool) (fields : List Byte) : List Byte :=
  (bytesLE 1 kind ++ bytesLE 1 (bit phase) ++ fields ++ List.replicate 30 0#8).take 32

/-- The fields of FRAME_DONE and FRAME_DISCARDED from offset 0x02 (TABLE 11-7). -/
def frameReportFields (r : FrameReport) : List Byte :=
  bytesLE 1 r.damage.toNat ++ bytesLE 1 r.profile.val ++ bytesLE 4 r.sequence.toNat ++
    bytesLE 4 r.tag.toNat ++ bytesLE 2 r.rowsWritten ++ bytesLE 2 r.rowsLost ++
    bytesLE 4 r.payloadBytes ++ bytesLE 1 r.missed

/-- The fields of a completion from offset 0x02 (TABLE 11-7). -/
def completionFields : Completion → List Byte
  | .requestDone tag kind a ringHead =>
    bytesLE 2 tag.toNat ++ bytesLE 1 kind.toNat ++ bytesLE 1 a.status.code ++ bytesLE 1 a.detail.toNat ++
      bytesLE 1 0 ++ bytesLE 4 a.aux.toNat ++ bytesLE 2 ringHead
  | .commitLanded tag landed set flag =>
    bytesLE 2 tag.toNat ++ bytesLE 4 landed.toNat ++ bytesLE 1 set.toNat ++ bytesLE 1 (bit flag)
  | .frameDone r => frameReportFields r
  | .frameDiscarded r => frameReportFields r
  | .frameDropped first last count reasons =>
    bytesLE 1 reasons.toNat ++ bytesLE 1 0 ++ bytesLE 4 first.toNat ++ bytesLE 4 last.toNat ++
      bytesLE 4 count
  | .bufferReturned tag reason =>
    bytesLE 1 reason.code ++ bytesLE 1 0 ++ bytesLE 4 tag.toNat
  | .portEvent port state cause changes =>
    bytesLE 1 port.val ++ bytesLE 1 state.code ++ bytesLE 1 cause.code ++ bytesLE 1 changes

/-- The 32 bytes of a completion written with a phase bit (R164, TABLE 11-7). -/
def encodeCompletion (phase : Bool) (c : Completion) : List Byte :=
  completionBytes c.code phase (completionFields c)

/-- The frame header of a record (R124, TABLE 11-9). -/
def frameHeader (r : FrameRecord) : List Byte :=
  bytesLE 1 1 ++ bytesLE 1 r.profile.val ++ bytesLE 1 r.bound.sampleFormat.code ++
    bytesLE 1 (bit r.bound.rowStamps) ++ bytesLE 4 r.sequence.toNat ++
    bytesLE 2 r.bound.channelMask.toNat ++ bytesLE 2 r.bound.rowFirst ++ bytesLE 2 r.bound.rowStep ++
    bytesLE 2 r.bound.rowPeriod ++ bytesLE 2 r.rowsPlanned ++ bytesLE 2 r.rowsWritten ++
    bytesLE 2 r.rowsLost ++ bytesLE 1 r.damage.toNat ++ bytesLE 1 r.missed ++
    bytesLE 4 r.payloadBytes ++ bytesLE 6 ((r.startTime.getD 0).toNat) ++ List.replicate 30 0#8

/-- The row stamp: the row index and the bad-packet indication of each port (R113, TABLE 11-10). -/
def rowStamp (index : Nat) (bad : Vector Bool 4) : List Byte :=
  bytesLE 4 (index % 65536 + 65536 * (bit bad[0] + 2 * bit bad[1] + 4 * bit bad[2] + 8 * bit bad[3]))

/-- An item of a read-out image: identifier and 24-bit value (R159). -/
abbrev Item := Nat × Nat

/-- The two items of a quantity wider than 24 bits (R159). -/
def wideItems (id value : Nat) : List Item := [(id, value % 16777216), (id + 1, value / 16777216)]

/-- The bytes of an item (TABLE 11-11). -/
def itemBytes (i : Item) : List Byte := bytesLE 1 i.1 ++ bytesLE 3 i.2

/-- The bytes of a read-out image: its header, then its items (TABLE 11-11). -/
def imageBytes (kind : Nat) (items : List Item) : List Byte :=
  bytesLE 1 kind ++ bytesLE 1 0 ++ bytesLE 2 items.length ++ bytesLE 4 0 ++ items.flatMap itemBytes

/-- The bursts of an image: at most 256 bytes each and none crossing a host address that is a multiple
of 256 (R161). An image is at most 256 bytes long, so it takes one burst or two. The address of the second is
taken modulo 2⁶⁴: for a target in the last 256 bytes of the address space it is 0 (log 39). -/
def imageBursts (target : Addr) (bytes : List Byte) : List ImageBurst :=
  let room := 256 - target.toNat % 256
  if bytes.length ≤ room then [{ address := target, data := bytes }]
  else [{ address := target, data := bytes.take room },
        { address := target + BitVec.ofNat 64 room, data := bytes.drop room }]

end Sys2Proof.Machine
end

