-- ==== Sys2Proof/Machine/Operands.lean ====
section
/-! DEFINITION. The fields of the records the device reads: setup block, request record, buffer
descriptor, trim image, and the words of a converter's reply (11.5, TABLE 5-2). -/

namespace Sys2Proof.Machine

/-- A response that reports a failure: a subordinate error or a decode error (0.7). -/
def respIsError : Resp → Bool
  | .okay => false
  | .exokay => false
  | .slverr => true
  | .decerr => true

/-- A read of several beats fails if any of its beats reports an error (0.7). -/
def readFailed {n : Nat} (a : ReadAnswer n) : Bool := a.beats.any respIsError

/-- A write burst fails if its response reports an error (0.7). -/
def writeFailed (a : WriteAnswer) : Bool := respIsError a.resp

/-- The field of `size` bytes at byte offset `offset` of a record, little-endian (0.7). -/
def recordField {n : Nat} (r : BitVec n) (offset size : Nat) : BitVec (8 * size) :=
  r.extractLsb' (8 * offset) (8 * size)

/-- The same field as a number. -/
def recordNat {n : Nat} (r : BitVec n) (offset size : Nat) : Nat := (recordField r offset size).toNat

/-- TABLE 11-5: the kind byte of a request record. -/
def requestKind (r : Record) : BitVec 8 := recordField r 0x00 1

/-- TABLE 11-5: the flags byte. -/
def requestFlags (r : Record) : BitVec 8 := recordField r 0x01 1

/-- TABLE 11-5: the tag. -/
def requestTag (r : Record) : Half := recordField r 0x02 2

/-- Request kind codes (TABLE 11-12). -/
def kindStage : BitVec 8 := 0x01
def kindStageSchedule : BitVec 8 := 0x02
def kindCommit : BitVec 8 := 0x03
def kindWithdraw : BitVec 8 := 0x04
def kindStart : BitVec 8 := 0x05
def kindStop : BitVec 8 := 0x06
def kindSetChannel : BitVec 8 := 0x07
def kindPortAlign : BitVec 8 := 0x08
def kindTrimProgram : BitVec 8 := 0x09
def kindTrimLoad : BitVec 8 := 0x0A
def kindReadOut : BitVec 8 := 0x0B
def kindReclaim : BitVec 8 := 0x0C

/-- A request kind code outside 0x01 to 0x0C is unknown (TABLE 11-12). -/
def kindKnown (k : BitVec 8) : Bool := decide (1 ≤ k.toNat ∧ k.toNat ≤ 12)

/-- Pair i of a STAGE body: field identifier and 24-bit value (TABLE 11-6). -/
def stagePair (r : Record) (i : Nat) : Nat × Nat :=
  (recordNat r (0x10 + 4 * i) 1, recordNat r (0x11 + 4 * i) 3)

/-- The k pairs of a STAGE body, in the order they stand (R31). -/
def stagePairs (r : Record) (k : Nat) : List (Nat × Nat) := (List.range k).map (stagePair r)

/-- Entry i of a STAGE_SCHEDULE body: profile and repeat (TABLE 11-6). -/
def scheduleBodyEntry (r : Record) (i : Nat) : Nat × Nat :=
  (recordNat r (0x10 + 4 * i) 1, recordNat r (0x12 + 4 * i) 2)

/-- The first k entries of a STAGE_SCHEDULE body. -/
def scheduleBody (r : Record) (k : Nat) : List (Nat × Nat) :=
  (List.range k).map (scheduleBodyEntry r)

/-- The first k entries of a COMMIT's profile list (TABLE 11-6). -/
def commitProfiles (r : Record) (k : Nat) : List Nat :=
  (List.range k).map fun i => recordNat r (0x10 + i) 1

/-- The signed constant of a SET_CHANNEL body (TABLE 11-6). -/
def setChannelConstant (r : Record) : Int := (recordField r 0x0C 4).toInt

/-- Halfword i of a 64-byte trim image. -/
def imageHalf (image : Record) (i : Nat) : Half := image.extractLsb' (16 * i) 16

/-- The offset and gain of channel c in a trim image (TABLE 11-11). -/
def imageEntry (image : Record) (c : Fin 16) : TrimEntry :=
  { offset := (imageHalf image (2 * c.val)).toInt, gain := (imageHalf image (2 * c.val + 1)).toNat }

/-- The trim table that an image holds. -/
def imageTable (image : Record) : TrimTable := Vector.ofFn (imageEntry image)

/-- The check of a trim image: the ones' complement of the 16-bit modular sum of its 32 halfwords
(R99). -/
def imageCheck (image : Record) : Half :=
  ~~~ ((List.range 32).foldl (fun sum i => sum + imageHalf image i) 0#16)

/-- A buffer descriptor as read (TABLE 11-8). -/
def descriptorOf (r : BitVec 128) : Descriptor :=
  { address := recordField r 0x00 8, capacity := recordField r 0x08 4, tag := recordField r 0x0C 4 }

/-- A setup block as read (TABLE 11-4). -/
def setupOf (r : Record) : Setup :=
  { request := { base := recordField r 0x00 8, size := recordNat r 0x18 2 },
    buffer := { base := recordField r 0x08 8, size := recordNat r 0x1A 2 },
    completion := { base := recordField r 0x10 8, size := recordNat r 0x1C 2 },
    threshold := recordNat r 0x1E 2, holdoff := recordNat r 0x20 2 }

/-- Word k of a reply: the words come in the order 0 to 5, each most significant bit first
(TABLE 5-2), so word 0 is the first sixteen bits received. -/
def replyWord (bits : BitVec 96) (k : Nat) : Half := bits.extractLsb' (80 - 16 * k) 16

/-- The sync word of every reply (TABLE 5-2). -/
def syncWord : Half := 0xE41B#16

/-- The sample words of an alignment reply (TABLE 5-2). -/
def alignmentWord : Half := 0xA5C3#16

/-- The check word that goes with words 0 to 4: the ones' complement of their 16-bit modular sum
(TABLE 5-2). -/
def replyCheck (w0 w1 w2 w3 w4 : Half) : Half := ~~~ (w0 + w1 + w2 + w3 + w4)

/-- A GOOD reply: the sync word, and the check that goes with words 0 to 4 (R74). -/
def replyGood (bits : BitVec 96) : Bool :=
  replyWord bits 0 == syncWord &&
    replyWord bits 5 == replyCheck (replyWord bits 0) (replyWord bits 1) (replyWord bits 2)
      (replyWord bits 3) (replyWord bits 4)

/-- A GOOD reply whose words 1 to 4 all hold the alignment word is CORRECT (R74). -/
def replyCorrect (bits : BitVec 96) : Bool :=
  replyGood bits && replyWord bits 1 == alignmentWord && replyWord bits 2 == alignmentWord &&
    replyWord bits 3 == alignmentWord && replyWord bits 4 == alignmentWord

end Sys2Proof.Machine
end

