-- ==== Sys2Proof/Machine/Ops.lean ====
section
/-! DEFINITION. The operations that several commands share: ring and sequence arithmetic, frame records,
the holding queue and its arbiter, the taking of requests and their answers, the entry into HALTED, and
the ticks of the device's timed operations. -/

namespace Sys2Proof.Machine

/-- What a command answers. -/
abbrev Result := Host.Outcome State Fault Refusal

/-! ### Durations -/

/-- INIT lasts 50 µs (R101), 40 ticks a microsecond (0.7). -/
def initDuration : Nat := 2000

/-- A maintenance strobe every 400 ticks (R4). -/
def maintenancePeriod : Nat := 400

/-- A slot read takes 20 µs (R107). -/
def slotReadDuration : Nat := 800

/-- The steps of a programming together take 2.5 ms (R104). -/
def programDuration : Nat := 100000

/-- Ticks in a microsecond (0.7). -/
def ticksPerMicrosecond : Nat := 40

/-! ### Ring indices and sequence numbers -/

/-- The distance (a − b) modulo the ring size n (0.7, Ring indices). -/
def ringDist (n a b : Nat) : Nat := (a + (n - b % n)) % n

/-- The index after i, wrapping from n − 1 to 0 (0.7). -/
def ringNext (n i : Nat) : Nat := if i + 1 < n then i + 1 else 0

/-- The index before i, wrapping from 0 to n − 1. -/
def ringPrev (n i : Nat) : Nat := if i = 0 then n - 1 else i - 1

/-- Sequence number a is at or ahead of b (0.7, R7). -/
def atOrAhead (a b : Word) : Bool := decide ((a - b).toNat < 2147483648)

/-- The ring sizes of the setup block in force (R177). -/
def requestSize (s : State) : Nat := s.window.setup.request.size
def bufferSize (s : State) : Nat := s.window.setup.buffer.size
def completionSize (s : State) : Nat := s.window.setup.completion.size

/-- The posted, unconsumed completions (R166). -/
def postedCount (s : State) : Nat :=
  ringDist (completionSize s) s.completions.tail s.window.cpHead.toNat

/-- The fitted-port count: the straps' value plus one (R72). -/
def fitted (s : State) : Nat := s.window.straps.toNat + 1

/-- Port p is fitted (R72). -/
def portFitted (s : State) (p : Fin 4) : Bool := decide (p.val < fitted s)

/-- The four ports in ascending order. -/
def allPorts : List (Fin 4) := [0, 1, 2, 3]

/-- The sixteen channels in ascending order. -/
def allChannels : List (Fin 16) := [0, 1, 2, 3, 4, 5, 6, 7, 8, 9, 10, 11, 12, 13, 14, 15]

/-- Channel c belongs to port floor(c / 4) (R72). -/
def portOf (c : Fin 16) : Fin 4 := ⟨c.val / 4, by omega⟩

/-- The channels of a channel mask, in ascending order (TABLE 2-1). -/
def maskChannels (mask : BitVec 16) : List (Fin 16) := allChannels.filter fun c => mask.getLsbD c.val

/-- The device is ENABLED. -/
def isEnabled (s : State) : Bool := s.window.device == .enabled

/-- Rows run in RUNNING and DRAINING (TABLE 1-2). -/
def rowsRun (s : State) : Bool := s.stream.state == .running || s.stream.state == .draining

/-! ### Profiles' window rows -/

/-- Rows planned (R117). -/
def rowsPlanned (p : Profile) : Nat := (p.rowLast - p.rowFirst) / p.rowStep + 1

/-- The frame's last window row (R22). -/
def lastWindowRow (p : Profile) : Nat := p.rowFirst + (rowsPlanned p - 1) * p.rowStep

/-- Row `index` is a window row (R89). -/
def isWindowRow (p : Profile) (index : Nat) : Bool :=
  decide (p.rowFirst ≤ index ∧ index ≤ p.rowLast ∧ (index - p.rowFirst) % p.rowStep = 0)

/-- The bound copy of the frame in a slot. -/
def SlotFrame.bound : SlotFrame → Profile
  | .buffered _ _ p => p
  | .dropped _ _ p _ => p

/-- The sequence number of the frame in a slot. -/
def SlotFrame.sequence : SlotFrame → Word
  | .buffered q _ _ => q
  | .dropped q _ _ _ => q

/-! ### Output lines (TABLE 0-4) -/

/-- The level of NOTICE (R172). -/
def noticeLine (s : State) : Bool := s.completions.notice

/-- The level of FMARK (R5). -/
def frameMarkLine (s : State) : Bool := s.stream.frameMark

/-- The level of a port's CSTB line: high while its pulse lasts (R73). -/
def strobeLine (s : State) (p : Fin 4) : Bool := decide (0 < s.ports[p].pulse)

/-! ### Frame records -/

/-- The record with a reference. -/
def findRecord (s : State) (ref : Nat) : Option FrameRecord := s.records.find? fun r => r.ref == ref

/-- Change the records with a reference. -/
def updateRecord (s : State) (ref : Nat) (f : FrameRecord → FrameRecord) : State :=
  { s with records := s.records.map fun r => if r.ref == ref then f r else r }

/-- Add damage to a record's set; a kind already there is not added again (R136). -/
def addDamage (s : State) (ref : Nat) (damage : BitVec 8) : State :=
  updateRecord s ref fun r => { r with damage := r.damage ||| damage }

/-- The turn of the next record to enter REPORT_WAIT: after every record that waits (R139; log 15). -/
def nextTurn (records : List FrameRecord) : Nat := (records.map FrameRecord.turn).foldl max 0 + 1

/-- The record is OPEN. -/
def recordOpen (s : State) (ref : Nat) : Bool :=
  match findRecord s ref with
  | some r => r.phase == .opened
  | none => false

/-! ### The holding queue -/

/-- An entry is free whenever the queue holds fewer than 8 completions (R165). -/
def entryFree (s : State) : Bool := decide (s.completions.holding.length < 8)

/-- A completion enters the holding queue at its tail (R165). -/
def place (s : State) (c : Completion) : State :=
  { s with completions := { s.completions with holding := s.completions.holding ++ [c] } }

/-! ### The entry into HALTED -/

/-- R18: the stream controller stops; the maintenance timer starts at 0 if rows were running. -/
def haltStream (t : Stream) : Stream :=
  { t with state := .stopped, current := none, setUp := none, missed := 0, frameMark := false,
           maintenance := if t.state = .running ∨ t.state = .draining then some 0 else t.maintenance }

/-- R105, R107, R109: a TRIM_PROGRAM and a TRIM_LOAD in progress end without a completion. -/
def haltTrim (t : TrimUnit) : TrimUnit := { t with program := .idle, load := .idle }

/-- R73: the reply windows close without a verdict. -/
def closeWindow (p : Port) : Port := { p with window := none }

/-- The entry into HALTED at a fatal fault (R181), with every block's own part: R18, R73, R92, R105,
R107, R174. The other blocks keep what they hold (R38, R59, R71, R94, R125, R147, R162). -/
def enterHalted (s : State) (cause : Cause) (detail : BitVec 4) : State :=
  { s with
    window := { s.window with device := .halted, cause := cause, detail := detail }
    stream := haltStream s.stream
    ports := Vector.ofFn fun p => closeWindow s.ports[p]
    row := none
    trim := haltTrim s.trim
    completions := { s.completions with notice := true, timer := none } }

/-! ### Answers and free values -/

/-- An answer with detail and aux as numbers. -/
def answer (status : Status) (detail aux : Nat) : Answer :=
  { status := status, detail := BitVec.ofNat 8 detail, aux := BitVec.ofNat 32 aux }

/-- An answer whose detail and aux the spec does not state: both free (log 8). -/
def freeAnswer (s : State) (status : Status) : Answer :=
  { status := status, detail := Config.freeDetail s.freeCount, aux := Config.freeAux s.freeCount }

/-- An answer whose detail alone the spec does not state (log 8). -/
def freeDetailAnswer (s : State) (status : Status) (aux : Nat) : Answer :=
  { status := status, detail := Config.freeDetail s.freeCount, aux := BitVec.ofNat 32 aux }

/-- A free value has been used: the next one is another. -/
def useFree (s : State) : State := { s with freeCount := s.freeCount + 1 }

/-! ### The pending request list -/

/-- An entry is ready once it holds its answer (R153). -/
def PendingEntry.ready (e : PendingEntry) : Bool := e.answer.isSome

/-- The entries whose work is `w` and not yet answered become ready with `a` (R153). -/
def completeWork (s : State) (w : LongWork) (a : Answer) : State :=
  { s with requests := { s.requests with
      entries := s.requests.entries.map fun e =>
        if e.work = w ∧ e.answer = none then { e with answer := some a } else e } }

/-! ### The arbiter -/

/-- Who waits for a grant, in the order of TABLE 10-3. -/
inductive Waiter where
  | record (ref : Nat)
  | group
  | port (p : Fin 4)
  | latch
  | summary
  | long (index : Nat)
  | immediate
deriving DecidableEq, Repr

/-- Of two waiting records, the one offered first: the lower sequence number, and of two with equal numbers
the one that entered REPORT_WAIT first (R139, TABLE 10-3; log 15 for the turn). -/
def firstOffered (best r : FrameRecord) : FrameRecord :=
  if r.sequence = best.sequence then if r.turn < best.turn then r else best
  else if atOrAhead r.sequence best.sequence then best else r

/-- The record in REPORT_WAIT that is offered to the completion unit (R139). -/
def waitingRecord (s : State) : Option FrameRecord :=
  match s.records.filter fun r => r.phase == .reportWait with
  | [] => none
  | r :: rest => some (rest.foldl firstOffered r)

/-- The LANDED_UNREPORTED group first in list order (R52). -/
def waitingGroup (s : State) : Option CommitGroup :=
  s.commits.find? fun g => g.state == .landedUnreported

/-- A port waits while its state differs from its last report or changes are uncounted (R81). -/
def Port.waits (p : Port) : Bool := p.state != p.lastReported || decide (0 < p.changeCount)

/-- The lowest-numbered waiting port (R81). -/
def waitingPort (s : State) : Option (Fin 4) := allPorts.find? fun p => s.ports[p].waits

/-- A pending-list entry waits when it is ready, or when it is the RECLAIM in progress and the buffer
list holds a descriptor to return (R144, R157). -/
def entryWaits (s : State) (e : PendingEntry) : Bool :=
  e.ready || (e.work == .reclaim && s.buffers.reclaim.isSome && !s.buffers.list.isEmpty)

/-- The place of the oldest waiting entry (R157). -/
def waitingEntry (s : State) : Option Nat := s.requests.entries.findIdx? (entryWaits s)

/-- A STOP whose manner is END, 0 (TABLE 11-6). -/
def stopMannerEnd (r : Record) : Bool := recordField r 0x08 1 == 0x00#8

/-- A STOP whose manner is ABORT, 1 (TABLE 11-6). -/
def stopMannerAbort (r : Record) : Bool := recordField r 0x08 1 == 0x01#8

/-- The character of a record at the intake's head (R151): true for an immediate one. -/
def isImmediate (s : State) (r : Record) : Bool :=
  let k := requestKind r
  !kindKnown k || requestFlags r != 0 || k == kindStage || k == kindStageSchedule || k == kindCommit ||
    k == kindWithdraw || k == kindStart || k == kindSetChannel ||
    (k == kindStop && !(stopMannerEnd r && s.stream.state == .running))

/-- An immediate request waits at the intake's head (R152). -/
def immediateWaits (s : State) : Bool :=
  match s.requests.intake with
  | [] => false
  | r :: _ => isImmediate s r

/-- The first waiter in the order of TABLE 10-3 (R168). -/
def firstWaiter (s : State) : Option Waiter :=
  match waitingRecord s with
  | some r => some (.record r.ref)
  | none =>
  match waitingGroup s with
  | some _ => some .group
  | none =>
  match waitingPort s with
  | some p => some (.port p)
  | none =>
  if s.buffers.latch.isSome then some .latch
  else if s.completions.summary.isSome then some .summary
  else
  match waitingEntry s with
  | some i => some (.long i)
  | none => if immediateWaits s then some .immediate else none

/-- The grant that the arbiter makes: only in ENABLED, only with a free entry, and to the first waiter
(R168, R169). -/
def grant (s : State) : Option Waiter :=
  if isEnabled s && entryFree s then firstWaiter s else none

/-- The number of producers that wait for a grant (TABLE 10-3): records, groups, ports, the latch, the summary, entries
of the pending list, and an immediate request at the intake's head. -/
def waiterCount (s : State) : Nat :=
  s.records.countP (fun r => r.phase == .reportWait) +
    s.commits.countP (fun g => g.state == .landedUnreported) +
    allPorts.countP (fun p => s.ports[p].waits) +
    s.buffers.latch.toList.length + s.completions.summary.toList.length +
    s.requests.entries.countP (entryWaits s) +
    (if immediateWaits s then 1 else 0)

/-- A drop report finds a free entry: one is left once each waiting producer has been granted its own, since every
entry that frees goes to a waiter (R142, R168, R169; log 29). -/
def entryFound (s : State) : Bool := decide (s.completions.holding.length + waiterCount s < 8)

/-! ### The taking of requests -/

/-- A record leaves the intake and the request ring head advances (R151). -/
def advanceHead (s : State) (rest : List Record) : State :=
  { s with requests := { s.requests with
      intake := rest, head := ringNext (requestSize s) s.requests.head } }

/-- The REQUEST_DONE of a record, with the ring head as it stands (R156). -/
def requestDone (s : State) (r : Record) (a : Answer) : Completion :=
  .requestDone (requestTag r) (requestKind r) a s.requests.head

/-- The head of the intake, when it is an immediate request that passes `test` and the arbiter grants
its taking (R152): the record, and the state with the record taken. -/
def takeImmediate (s : State) (test : Record → Bool) : Option (Record × State) :=
  match s.requests.intake with
  | [] => none
  | r :: rest =>
    if test r && grant s == some .immediate then some (r, advanceHead s rest) else none

/-- The head of the intake, when it is a long request that passes `test` and a pending-list entry is free
(R153). -/
def takeLong (s : State) (test : Record → Bool) : Option (Record × State) :=
  match s.requests.intake with
  | [] => none
  | r :: rest =>
    if test r && isEnabled s && !isImmediate s r && decide (s.requests.entries.length < 4) then
      some (r, advanceHead s rest)
    else none

/-- A record of kind k with zero flags. -/
def ofKind (k : BitVec 8) (r : Record) : Bool := requestKind r == k && requestFlags r == 0

/-- An immediate request is answered into the granted entry (R152). -/
def answerImmediate (r : Record) (s : State) (a : Answer) : State := place s (requestDone s r a)

/-- The pending-list entry of a long request at its taking (R153). -/
def longEntry (r : Record) (s : State) (work : LongWork) (a : Option Answer) : PendingEntry :=
  { kind := requestKind r, tag := requestTag r, ringHead := s.requests.head, work := work, answer := a }

/-- A long request enters the pending request list (R153). -/
def enterList (r : Record) (s : State) (work : LongWork) (a : Option Answer) : State :=
  { s with requests := { s.requests with entries := s.requests.entries ++ [longEntry r s work a] } }

/-- What an owner gives for a long request at its taking: the state, the work under way, and the answer
if it is known at once. -/
structure Taken where
  state : State
  work : LongWork
  answer : Option Answer
deriving DecidableEq, Repr

/-- A refused long request is ready at its taking (R153). -/
def refuseLong (s : State) (status : Status) (detail : Nat) : Taken :=
  { state := s, work := .refused, answer := some (answer status detail 0) }

/-- The taking of an immediate request by its owner; nothing happens when no such taking is due (log 3). -/
def runImmediate (s : State) (test : Record → Bool) (owner : Record → State → State × Answer) : Result :=
  match takeImmediate s test with
  | none => .next s
  | some (r, taken) =>
    let done := owner r taken
    .next (answerImmediate r done.1 done.2)

/-- The taking of a long request by its owner; nothing happens when no such taking is due (log 3). -/
def runLong (s : State) (test : Record → Bool) (owner : Record → State → Taken) : Result :=
  match takeLong s test with
  | none => .next s
  | some (r, taken) =>
    let done := owner r taken
    .next (enterList r done.state done.work done.answer)

end Sys2Proof.Machine
end

