-- ==== Sys2Proof/Machine/BufferRing.lean ====
section
/-! DEFINITION. Chapter 8, buffers: descriptor fetches and their validation, the reject latch, RECLAIM. -/

namespace Sys2Proof.Machine

/-- The host address of the descriptor at the buffer ring head (R129). -/
def descriptorAddress (s : State) : Addr :=
  s.window.setup.buffer.base + BitVec.ofNat 64 (16 * s.buffers.ringHead)

/-- An ordinary fetch may be issued (R129). -/
def ordinaryFetchDue (s : State) : Bool :=
  isEnabled s && !s.buffers.paused && s.buffers.fetch.isNone && s.buffers.latch.isNone &&
    decide (s.buffers.list.length < 4) &&
    decide (0 < ringDist (bufferSize s) s.window.bfTail.toNat s.buffers.ringHead)

/-- A fetch under RECLAIM may be issued (R144). -/
def reclaimFetchDue (s : State) : Bool :=
  match s.buffers.reclaim with
  | some r =>
    isEnabled s && decide (s.buffers.ringHead ≠ r.target) && s.buffers.fetch.isNone &&
      decide (s.buffers.list.length < 4)
  | none => false

/-- The issue of a descriptor read; the buffer ring head advances (R129). -/
def issueDescriptorFetch (s : State) (forReclaim : Bool) : State :=
  { s with buffers := { s.buffers with
      fetch := some { address := descriptorAddress s, forReclaim := forReclaim }
      ringHead := ringNext (bufferSize s) s.buffers.ringHead } }

/-- DESCRIPTOR_FETCH_ISSUE (R129, R144). -/
def execDescriptorFetchIssue (s : State) : Result :=
  if reclaimFetchDue s then .next (issueDescriptorFetch s true)
  else if ordinaryFetchDue s then .next (issueDescriptorFetch s false)
  else .next s

/-- The RECLAIM in progress has returned everything (R144). -/
def reclaimDone (s : State) (r : Reclaim) : Bool :=
  s.buffers.list.isEmpty && s.buffers.fetch.isNone && s.buffers.ringHead == r.target

/-- The RECLAIM completes as soon as it has returned everything (R144). -/
def finishReclaim (s : State) : State :=
  match s.buffers.reclaim with
  | some r =>
    if reclaimDone s r then
      completeWork { s with buffers := { s.buffers with reclaim := none } } .reclaim
        (answer .ok 0 r.returned)
    else s
  | none => s

/-- The requirements on a descriptor (R130). -/
def descriptorValid (d : Descriptor) : Bool :=
  decide (d.address.toNat % 64 = 0 ∧ d.capacity.toNat % 64 = 0 ∧ 128 ≤ d.capacity.toNat ∧
    d.capacity.toNat ≤ 67108864)

/-- A descriptor in hand joins the list, or, if it was fetched ordinarily and fails validation, enters the
reject latch (R130, R131, R144). -/
def takeDescriptor (b : Buffers) (forReclaim : Bool) (d : Descriptor) : Buffers :=
  if forReclaim || descriptorValid d then { b with fetch := none, list := b.list ++ [d] }
  else { b with fetch := none, latch := some d }

/-- DESCRIPTOR_FETCH_DONE (R130, R132, R144). -/
def execDescriptorFetchDone (a : ReadAnswer 128) (s : State) : Result :=
  match isEnabled s && a.tracked, s.buffers.fetch with
  | true, some f =>
    if readFailed a then
      .next (enterHalted { s with buffers := { s.buffers with fetch := none } } .bufferReadError 0)
    else
      .next (finishReclaim
        { s with buffers := takeDescriptor s.buffers f.forReclaim (descriptorOf a.data) })
  | _, _ => .next s

/-- REJECTED_RETURN (R131). -/
def execRejectedReturn (s : State) : Result :=
  match grant s, s.buffers.latch with
  | some .latch, some d =>
    .next (place { s with buffers := { s.buffers with latch := none } } (.bufferReturned d.tag .rejected))
  | _, _ => .next s

/-- The owner's part of RECLAIM (R143, R144, R145). -/
def reclaimOwner (_r : Record) (s : State) : Taken :=
  if s.stream.state ≠ .stopped then refuseLong s .busy 0
  else if s.buffers.reclaim.isSome then refuseLong s .busy 1
  else
    let begun := { s with buffers := { s.buffers with
      paused := true, reclaim := some { target := s.window.bfTail.toNat, returned := 0 } } }
    if reclaimDone begun { target := s.window.bfTail.toNat, returned := 0 } then
      { state := { begun with buffers := { begun.buffers with reclaim := none } }, work := .reclaim,
        answer := some (answer .ok 0 0) }
    else { state := begun, work := .reclaim, answer := none }

/-- RECLAIM (R143). -/
def execReclaim (s : State) : Result := runLong s (ofKind kindReclaim) reclaimOwner

/-- One more descriptor returned (R144). -/
def countReturn (r : Reclaim) : Reclaim := { r with returned := r.returned + 1 }

/-- The place in the pending list of an entry that is granted as the RECLAIM in progress: it waits and is
not ready (R144, R157). -/
def grantsReclaim (s : State) (i : Nat) : Bool :=
  match s.requests.entries[i]? with
  | some e => !e.ready
  | none => false

/-- RECLAIMED_RETURN (R144). -/
def execReclaimedReturn (s : State) : Result :=
  match grant s, s.buffers.list, s.buffers.reclaim with
  | some (.long i), d :: rest, some r =>
    if grantsReclaim s i then
      .next (finishReclaim (place
        { s with buffers := { s.buffers with list := rest, reclaim := some (countReturn r) } }
        (.bufferReturned d.tag .reclaimed)))
    else .next s
  | _, _, _ => .next s

end Sys2Proof.Machine
end

