-- ==== Sys2Proof/Machine/Profiles.lean ====
section
/-! DEFINITION. Chapter 2: the limits table and the STAGE request. -/

namespace Sys2Proof.Machine

/-- An entry of the limits table (R27); `live` is the class LIVE, otherwise FRAME_LOCKED. -/
structure Limit where
  id : Nat
  minimum : Int
  maximum : Int
  dflt : Int
  live : Bool
deriving DecidableEq, Repr

/-- TABLE 2-2. -/
def limitsTable : List Limit :=
  [ { id := 0x01, minimum := 40, maximum := 65535, dflt := 400, live := false },
    { id := 0x02, minimum := 16, maximum := 65535, dflt := 1024, live := false },
    { id := 0x03, minimum := 0, maximum := 65535, dflt := 0, live := false },
    { id := 0x04, minimum := 0, maximum := 65535, dflt := 1019, live := false },
    { id := 0x05, minimum := 1, maximum := 64, dflt := 1, live := false },
    { id := 0x06, minimum := 0x0001, maximum := 0xFFFF, dflt := 0x000F, live := false },
    { id := 0x07, minimum := 0, maximum := 2, dflt := 0, live := false },
    { id := 0x08, minimum := 0, maximum := 1, dflt := 0, live := false },
    { id := 0x09, minimum := 0, maximum := 1, dflt := 0, live := false },
    { id := 0x11, minimum := 0, maximum := 3, dflt := 0, live := true },
    { id := 0x12, minimum := -32767, maximum := 32767, dflt := 0, live := true },
    { id := 0x13, minimum := 0, maximum := 1, dflt := 1, live := true } ]

/-- The value lies within the range of the entry with the identifier (R27). -/
def inRange (id : Nat) (value : Int) : Bool :=
  match limitsTable.find? fun l => l.id == id with
  | some l => decide (l.minimum ≤ value ∧ value ≤ l.maximum)
  | none => false

/-- An identifier of a profile field (R32). -/
def isProfileField (id : Nat) : Bool := decide (0x01 ≤ id ∧ id ≤ 0x09)

/-- Write one field of a profile (TABLE 2-1). -/
def writeField (p : Profile) (id value : Nat) : Profile :=
  match id with
  | 0x01 => { p with rowPeriod := value }
  | 0x02 => { p with frameRows := value }
  | 0x03 => { p with rowFirst := value }
  | 0x04 => { p with rowLast := value }
  | 0x05 => { p with rowStep := value }
  | 0x06 => { p with channelMask := BitVec.ofNat 16 value }
  | 0x07 => { p with sampleFormat := SampleFormat.ofCode value }
  | 0x08 => { p with damagePolicy := DamagePolicy.ofCode value }
  | 0x09 => { p with rowStamps := value == 1 }
  | _ => p

/-- Read one field of a profile as its code (TABLE 2-1). -/
def readField (p : Profile) (id : Nat) : Nat :=
  match id with
  | 0x01 => p.rowPeriod
  | 0x02 => p.frameRows
  | 0x03 => p.rowFirst
  | 0x04 => p.rowLast
  | 0x05 => p.rowStep
  | 0x06 => p.channelMask.toNat
  | 0x07 => p.sampleFormat.code
  | 0x08 => p.damagePolicy.code
  | 0x09 => bit p.rowStamps
  | _ => 0

/-- The first failing pair of a STAGE, the pairs being numbered from i (R32, check 3). -/
def pairFault : Nat → List (Nat × Nat) → Option (Status × Nat)
  | _, [] => none
  | i, (id, value) :: rest =>
    if isProfileField id then
      if inRange id value then pairFault (i + 1) rest else some (.range, i)
    else some (.badField, i)

/-- The check that refuses a STAGE, if any, with its status and detail (R32). -/
def stageFault (profile k : Nat) (pairs : List (Nat × Nat)) : Option (Status × Nat) :=
  if profile < 4 then
    if k ≤ 12 then pairFault 0 pairs else some (.badField, 255)
  else some (.badField, 255)

/-- Apply pairs in order (R34). -/
def applyPairs (p : Profile) (pairs : List (Nat × Nat)) : Profile :=
  pairs.foldl (fun q pair => writeField q pair.1 pair.2) p

/-- Replace the copies of profile p. -/
def setCopies (s : State) (p : Fin 4) (c : ProfileCopies) : State :=
  { s with profiles := s.profiles.set p c }

/-- The owner's part of STAGE (R31 to R35). -/
def stageOwner (r : Record) (s : State) : State × Answer :=
  let profile := recordNat r 0x08 1
  let k := recordNat r 0x09 1
  let pairs := stagePairs r k
  match stageFault profile k pairs with
  | some (status, detail) => (s, answer status detail 0)
  | none =>
    let p : Fin 4 := Fin.ofNat 4 profile
    let copies := s.profiles[p]
    (setCopies s p { copies with staged := applyPairs copies.staged pairs }, answer .ok 0 k)

/-- STAGE (R31 to R35). -/
def execStage (s : State) : Result := runImmediate s (ofKind kindStage) stageOwner

end Sys2Proof.Machine
end

