-- ==== Sys2Proof/Machine/Schedule.lean ====
section
/-! DEFINITION. Chapter 4: the STAGE_SCHEDULE request and the schedule position. -/

namespace Sys2Proof.Machine

/-- The first failing entry of a STAGE_SCHEDULE, the entries being numbered from i (R63, check 2). -/
def entryFault : Nat → List (Nat × Nat) → Option (Status × Nat)
  | _, [] => none
  | i, (profile, repeats) :: rest =>
    if profile < 4 then
      if 1 ≤ repeats ∧ repeats ≤ 255 then entryFault (i + 1) rest else some (.range, i)
    else some (.badField, i)

/-- The check that refuses a STAGE_SCHEDULE, if any (R63). -/
def scheduleFault (count : Nat) (entries : List (Nat × Nat)) : Option (Status × Nat) :=
  if 1 ≤ count ∧ count ≤ 8 then entryFault 0 entries else some (.badField, 255)

/-- A checked entry of a STAGE_SCHEDULE body. -/
def scheduleEntryOf (e : Nat × Nat) : ScheduleEntry := { profile := Fin.ofNat 4 e.1, repeats := e.2 }

/-- The owner's part of STAGE_SCHEDULE (R62 to R64). -/
def stageScheduleOwner (r : Record) (s : State) : State × Answer :=
  let count := recordNat r 0x08 1
  let entries := scheduleBody r count
  match scheduleFault count entries with
  | some (status, detail) => (s, answer status detail 0)
  | none =>
    ({ s with schedule := { s.schedule with staged := entries.map scheduleEntryOf } },
      answer .ok 0 count)

/-- STAGE_SCHEDULE (R62 to R64). -/
def execStageSchedule (s : State) : Result :=
  runImmediate s (ofKind kindStageSchedule) stageScheduleOwner

/-- The schedule's entry at an index. The default entry stands for an index outside the list, which the
position never holds (R67). -/
def scheduleEntryAt (entries : List ScheduleEntry) (i : Nat) : ScheduleEntry :=
  (entries[i]?).getD { profile := 0, repeats := 1 }

/-- The position at entry 0 with that entry's full repeat (R66, R69). -/
def restartPosition (u : ScheduleUnit) : ScheduleUnit :=
  { u with entry := 0, remaining := (scheduleEntryAt u.active 0).repeats }

/-- A schedule becomes active and the position is set to its entry 0 (R66). -/
def activateSchedule (u : ScheduleUnit) (entries : List ScheduleEntry) : ScheduleUnit :=
  restartPosition { u with active := entries }

/-- The landing of the pending schedule (R66). -/
def landSchedule (u : ScheduleUnit) : ScheduleUnit :=
  match u.pend with
  | some entries => activateSchedule { u with pend := none } entries
  | none => u

/-- Stage 3 of frame setup: the profile of the entry at the position (R67). -/
def chosenProfile (u : ScheduleUnit) : Fin 4 := (scheduleEntryAt u.active u.entry).profile

/-- Stage 3 of frame setup: the position advances (R67). -/
def advancePosition (u : ScheduleUnit) : ScheduleUnit :=
  if u.remaining - 1 = 0 then
    let e := if u.entry + 1 < u.active.length then u.entry + 1 else 0
    { u with entry := e, remaining := (scheduleEntryAt u.active e).repeats }
  else { u with remaining := u.remaining - 1 }

end Sys2Proof.Machine
end

