-- ==== Sys2Proof/Machine/Commits.lean ====
section
/-! DEFINITION. Chapter 3: commit groups, the COMMIT and WITHDRAW requests, landing and its report. -/

namespace Sys2Proof.Machine

/-! ### Cross-field constraints -/

/-- The number of channels in a channel mask. -/
def channelCount (mask : BitVec 16) : Nat := (maskChannels mask).length

/-- C1 WINDOW_ORDER (TABLE 3-3). -/
def windowOrder (p : Profile) : Bool := decide (p.rowFirst ≤ p.rowLast)

/-- C2 WINDOW_CLOSURE: row_last ≤ frame_rows − 5 (TABLE 3-3). -/
def windowClosure (p : Profile) : Bool := decide (p.rowLast + 5 ≤ p.frameRows)

/-- C3 CHANNELS_UNFITTED (TABLE 3-3). -/
def channelsFitted (fittedPorts : Nat) (p : Profile) : Bool :=
  (maskChannels p.channelMask).all fun c => decide (c.val / 4 < fittedPorts)

/-- C4 ROW_PERIOD_SHORT (TABLE 3-3). -/
def rowPeriodLong (p : Profile) : Bool :=
  decide (max 40 (24 + 4 * channelCount p.channelMask) ≤ p.rowPeriod)

/-- The number of the first constraint that fails, in the order C1 to C4 (R47). -/
def constraintFault (fittedPorts : Nat) (p : Profile) : Option Nat :=
  if !windowOrder p then some 1
  else if !windowClosure p then some 2
  else if !channelsFitted fittedPorts p then some 3
  else if !rowPeriodLong p then some 4
  else none

/-! ### The checks of COMMIT -/

/-- The first entry of a profile list that is no profile or equals an entry before it, the entries being
numbered from i and those before being `seen` (R43). -/
def listFault : Nat → List Nat → List Nat → Option Nat
  | _, _, [] => none
  | i, seen, v :: rest =>
    if 4 ≤ v ∨ v ∈ seen then some i else listFault (i + 1) (v :: seen) rest

/-- The operands of a COMMIT body (TABLE 11-6). -/
structure CommitOperands where
  tag : Half
  count : Nat
  mode : Nat
  flag : Nat
  frame : Word
  list : List Nat
deriving DecidableEq, Repr

/-- The operands as read; entries beyond the count are not examined (R43). -/
def commitOperands (r : Record) : CommitOperands :=
  let count := recordNat r 0x08 1
  { tag := requestTag r, count := count, mode := recordNat r 0x09 1, flag := recordNat r 0x0A 1,
    frame := recordField r 0x0C 4, list := commitProfiles r (min count 4) }

/-- Check 1 (R43). -/
def commitFormFault (c : CommitOperands) : Option (Status × Nat) :=
  if 4 < c.count then some (.badField, 255)
  else if 1 < c.mode then some (.badField, 255)
  else if 1 < c.flag then some (.badField, 255)
  else
    match listFault 0 [] c.list with
    | some i => some (.badField, i)
    | none => if c.count = 0 ∧ c.flag = 0 then some (.badField, 255) else none

/-- A profile number of a checked list. -/
def profileOf (v : Nat) : Fin 4 := Fin.ofNat 4 v

/-- Check 4: the first named profile with a pending copy, or 4 for the schedule (R45). -/
def pendingFault (s : State) (c : CommitOperands) : Option Nat :=
  match c.list.find? fun v => s.profiles[profileOf v].pend.isSome with
  | some v => some v
  | none => if c.flag = 1 ∧ s.schedule.pend.isSome then some 4 else none

/-- Check 6: the first named profile whose staged copy fails a constraint (R47). -/
def constraintsFault (s : State) : List Nat → Option Nat
  | [] => none
  | v :: rest =>
    match constraintFault (fitted s) s.profiles[profileOf v].staged with
    | some n => some (16 * v + n)
    | none => constraintsFault s rest

/-- The landing frame: next for NEXT, F for AT (R46). -/
def landingFrame (s : State) (c : CommitOperands) : Word :=
  if c.mode = 0 then s.stream.next else c.frame

/-- The check that refuses a COMMIT, if any, in the order of TABLE 3-2 (R42). -/
def commitFault (s : State) (c : CommitOperands) : Option (Status × Nat) :=
  match commitFormFault c with
  | some f => some f
  | none =>
  if s.commits.any fun g => g.tag == c.tag then some (.duplicateTag, 0)
  else if 4 ≤ s.commits.length then some (.listFull, 0)
  else
  match pendingFault s c with
  | some d => some (.pending, d)
  | none =>
  if c.mode = 1 ∧ !atOrAhead c.frame s.stream.next then some (.late, 0)
  else
  match constraintsFault s c.list with
  | some d => some (.invalid, d)
  | none => none

/-! ### Accepting a COMMIT -/

/-- The set of profiles of a profile list; bit p stands for Pp. -/
def profileSetOf (list : List Nat) : BitVec 4 :=
  list.foldl (fun set v => set ||| BitVec.twoPow 4 (profileOf v).val) 0#4

/-- The profile is in the set. -/
def inSet (set : BitVec 4) (p : Fin 4) : Bool := set.getLsbD p.val

/-- The snapshot of the staged copy (R23). -/
def snapshotCopy (c : ProfileCopies) : ProfileCopies := { c with pend := some c.staged }

/-- The staged copy becomes active directly (R49). -/
def landStagedCopy (c : ProfileCopies) : ProfileCopies := { c with active := c.staged }

/-- The pending copy moves into the active copy (R25). -/
def landCopy (c : ProfileCopies) : ProfileCopies :=
  match c.pend with
  | some p => { c with active := p, pend := none }
  | none => c

/-- The pending copy is discarded (R24). -/
def discardCopy (c : ProfileCopies) : ProfileCopies := { c with pend := none }

/-- Change the copies of every profile in a set. -/
def mapSet (copies : Vector ProfileCopies 4) (set : BitVec 4) (f : ProfileCopies → ProfileCopies) :
    Vector ProfileCopies 4 :=
  Vector.ofFn fun p : Fin 4 => if inSet set p then f copies[p] else copies[p]

/-- The distance of a landing frame from next (R40). -/
def landingDistance (next frame : Word) : Nat := (frame - next).toNat

/-- A new PENDING group stands before the first PENDING group of greater distance (R40). -/
def insertGroup (next : Word) (g : CommitGroup) : List CommitGroup → List CommitGroup
  | [] => [g]
  | h :: rest =>
    if h.state = .pending ∧
        landingDistance next g.landingFrame < landingDistance next h.landingFrame then g :: h :: rest
    else h :: insertGroup next g rest

/-- The acceptance of a COMMIT into the list (R48). -/
def acceptCommit (s : State) (c : CommitOperands) : State × Answer :=
  let set := profileSetOf c.list
  let frame := landingFrame s c
  let group : CommitGroup :=
    { tag := c.tag, profileSet := set, scheduleFlag := c.flag == 1, landingFrame := frame,
      state := .pending, landedFrame := none }
  ({ s with
      profiles := mapSet s.profiles set snapshotCopy
      schedule := if c.flag = 1 then { s.schedule with pend := some s.schedule.staged } else s.schedule
      commits := insertGroup s.stream.next group s.commits },
    { status := .accepted, detail := 0#8, aux := frame })

/-- The landing of a COMMIT at its taking (R49). -/
def landAtOnce (s : State) (c : CommitOperands) : State × Answer :=
  ({ s with
      profiles := mapSet s.profiles (profileSetOf c.list) landStagedCopy
      schedule := if c.flag = 1 then activateSchedule s.schedule s.schedule.staged else s.schedule },
    { status := .landed, detail := 0#8, aux := s.stream.next })

/-- The owner's part of COMMIT (R42 to R49). -/
def commitOwner (r : Record) (s : State) : State × Answer :=
  let c := commitOperands r
  match commitFault s c with
  | some (status, detail) => (s, answer status detail 0)
  | none =>
    if c.mode = 0 ∧ s.stream.state = .stopped then landAtOnce s c else acceptCommit s c

/-- COMMIT (R42 to R49). -/
def execCommit (s : State) : Result := runImmediate s (ofKind kindCommit) commitOwner

/-! ### WITHDRAW -/

/-- The PENDING group with a tag (R54). -/
def pendingGroup (s : State) (tag : Half) : Option CommitGroup :=
  s.commits.find? fun g => g.state == .pending && g.tag == tag

/-- The owner's part of WITHDRAW (R54). -/
def withdrawOwner (r : Record) (s : State) : State × Answer :=
  match pendingGroup s (recordField r 0x08 2) with
  | none => (s, answer .notFound 0 0)
  | some g =>
    ({ s with
        commits := s.commits.erase g
        profiles := mapSet s.profiles g.profileSet discardCopy
        schedule := if g.scheduleFlag then { s.schedule with pend := none } else s.schedule },
      { status := .ok, detail := 0#8, aux := g.landingFrame })

/-- WITHDRAW (R54, R55). -/
def execWithdraw (s : State) : Result := runImmediate s (ofKind kindWithdraw) withdrawOwner

/-! ### Landing and its report -/

/-- A PENDING group due at a frame (R50). -/
def groupDue (frame : Word) (g : CommitGroup) : Bool := g.state == .pending && g.landingFrame == frame

/-- A due group becomes LANDED_UNREPORTED and keeps its place (R50). -/
def markLanded (frame : Word) (g : CommitGroup) : CommitGroup :=
  if groupDue frame g then { g with state := .landedUnreported, landedFrame := some frame } else g

/-- The landing of one group's pending copies (R50). -/
def landGroup (s : State) (g : CommitGroup) : State :=
  { s with
    profiles := mapSet s.profiles g.profileSet landCopy
    schedule := if g.scheduleFlag then landSchedule s.schedule else s.schedule }

/-- Stage 2 of frame setup: every due group lands, in list order (R50). -/
def landDue (s : State) (frame : Word) : State :=
  let landed := (s.commits.filter (groupDue frame)).foldl landGroup s
  { landed with commits := s.commits.map (markLanded frame) }

/-- COMMIT_LANDED (R52): the grant of the first LANDED_UNREPORTED group, which leaves the list. -/
def execCommitLanded (s : State) : Result :=
  match grant s, waitingGroup s with
  | some .group, some g =>
    .next (place { s with commits := s.commits.erase g }
      (.commitLanded g.tag (g.landedFrame.getD 0#32) g.profileSet g.scheduleFlag))
  | _, _ => .next s

end Sys2Proof.Machine
end

