-- ==== Sys2Proof/Machine/Payload.lean ====
section
/-! DEFINITION. Chapter 7 and the closing of records (R137, R139): coding rows, the staging store,
payload bursts, the drain of a frame and its header. -/

namespace Sys2Proof.Machine

/-- The invalid marker (R87). -/
def marker : Int := -32768

/-! ### Sample codings -/

/-- RAW16 (R114). -/
def codeRaw16 (samples : List Int) : List Byte :=
  samples.flatMap fun v => bytesLE 2 (signedCode 16 v)

/-- The 12-bit value of a sample: floor(s / 16), with −2048 kept for the marker (R115). -/
def reduce12 (v : Int) : Int := if v = marker then -2048 else max (v / 16) (-2047)

/-- PACK12: pairs in 3 bytes, an odd last sample in 2 (R115). -/
def codePack12 : List Int → List Byte
  | [] => []
  | [a] => bytesLE 2 (signedCode 12 (reduce12 a))
  | a :: b :: rest =>
    bytesLE 3 (signedCode 12 (reduce12 a) + 4096 * signedCode 12 (reduce12 b)) ++ codePack12 rest

/-- DELTA8 of one sample against its channel's predecessor (R116). -/
def codeDelta (pred : Option Int) (v : Int) : List Byte :=
  match pred with
  | some p =>
    if v ≠ marker ∧ p ≠ marker ∧ -127 ≤ v - p ∧ v - p ≤ 127 then bytesLE 1 (signedCode 8 (v - p))
    else 0x80#8 :: bytesLE 2 (signedCode 16 v)
  | none => 0x80#8 :: bytesLE 2 (signedCode 16 v)

/-- DELTA8 of a row (R116). -/
def codeDelta8 (preds : Vector (Option Int) 16) (samples : List (Fin 16 × Int)) : List Byte :=
  samples.flatMap fun x => codeDelta preds[x.1] x.2

/-- The samples of a row in the bound format (R112, part 2). -/
def codeSamples (format : SampleFormat) (preds : Vector (Option Int) 16)
    (samples : List (Fin 16 × Int)) : List Byte :=
  match format with
  | .raw16 => codeRaw16 (samples.map Prod.snd)
  | .pack12 => codePack12 (samples.map Prod.snd)
  | .delta8 => codeDelta8 preds samples

/-- Zero bytes bringing a row to a multiple of 4 (R112, part 3). -/
def padRow (bytes : List Byte) : List Byte :=
  bytes ++ List.replicate ((4 - bytes.length % 4) % 4) 0#8

/-- What the intake hands over for a window row (R89). -/
structure Handover where
  index : Nat
  samples : List (Fin 16 × Int)
  bad : Vector Bool 4
  last : Bool
deriving DecidableEq, Repr

/-- The coded row: stamp, samples, padding (R112). -/
def codeRow (p : Profile) (preds : Vector (Option Int) 16) (h : Handover) : List Byte :=
  let stamp := if p.rowStamps then rowStamp h.index h.bad else []
  padRow (stamp ++ codeSamples p.sampleFormat preds h.samples)

/-- The predecessors after a staged row: each of its channels at its sample (R116). -/
def newPreds (preds : Vector (Option Int) 16) (samples : List (Fin 16 × Int)) :
    Vector (Option Int) 16 :=
  samples.foldl (fun v x => v.set x.1 (some x.2)) preds

/-! ### The staging store -/

/-- The bytes that the store holds: the unissued ones and those of the bursts in flight (R118). -/
def storeHeld (c : Coder) : Nat := c.unissued.length + (c.bursts.map fun b => b.data.length).sum

/-- The size of the staging store (7.6). -/
def storeSize : Nat := 8192

/-- The bytes of a row, staged for a frame at consecutive offsets from the write cursor (R118). -/
def stageBytes (ref cursor : Nat) (bytes : List Byte) : List StagedByte :=
  bytes.mapIdx fun i b => { ref := ref, offset := cursor + i, value := b }

/-- The row coder's decision at the hand-over of a window row of a record (R111). -/
def takeRow (s : State) (r : FrameRecord) (h : Handover) : State :=
  let c := s.coder
  let bytes := codeRow r.bound c.preds h
  if c.stop ≠ .none then s
  else if r.descriptor.capacity.toNat < c.cursor + bytes.length then
    addDamage { s with coder := { c with stop := .truncated } } r.ref damageTruncated
  else if storeSize - storeHeld c < bytes.length then
    updateRecord s r.ref fun x =>
      { x with rowsLost := x.rowsLost + 1, damage := x.damage ||| damageRowsLost }
  else
    updateRecord
      { s with coder := { c with
          cursor := c.cursor + bytes.length
          preds := newPreds c.preds h.samples
          unissued := c.unissued ++ stageBytes r.ref c.cursor bytes } }
      r.ref fun x =>
      { x with rowsWritten := x.rowsWritten + 1, payloadBytes := x.payloadBytes + bytes.length }

/-! ### Drain, header, end of capture -/

/-- The frame's payload has no byte unissued and no burst unanswered (R122). -/
def payloadAnswered (c : Coder) (ref : Nat) : Bool :=
  c.unissued.all (fun b => b.ref != ref) && c.bursts.all fun b => b.ref != ref

/-- A record enters REPORT_WAIT with a report kind, after every record that waits already (R139, R141). -/
def enterReportWait (s : State) (ref : Nat) (kind : ReportKind) : State :=
  updateRecord s ref fun r =>
    { r with phase := .reportWait, reportKind := some kind, turn := nextTurn s.records }

/-- The drain of a CLOSING frame: a discarded frame goes to REPORT_WAIT, a delivered frame's header is
built and its write issued at buffer offset 0 (R122, R123, R139). -/
def drain (s : State) (r : FrameRecord) : State :=
  match r.disposition with
  | some .discard => enterReportWait s r.ref .frameDiscarded
  | _ =>
    { s with coder := { s.coder with
        headers := s.coder.headers ++
          [{ ref := r.ref, address := r.descriptor.address, data := frameHeader r }] } }

/-- The drain comes once the capture has ended and every payload byte has been answered (R122). -/
def drainIfDone (s : State) (ref : Nat) : State :=
  match findRecord s ref with
  | some r =>
    if r.phase = .closing ∧ payloadAnswered s.coder ref ∧
        s.coder.headers.all (fun w => w.ref != ref) then drain s r
    else s
  | none => s

/-- An OPEN record moves to CLOSING and its disposition is decided (R137). -/
def closeRecord (r : FrameRecord) : FrameRecord :=
  { r with phase := .closing, disposition := some (dispositionOf r.bound.damagePolicy r.damage) }

/-- The end of a frame's capture (R110, R120, R137). -/
def endCapture (s : State) (ref : Nat) : State :=
  let closed := updateRecord s ref closeRecord
  drainIfDone { closed with coder := { closed.coder with openFrame := none } } ref

/-- A buffered frame becomes the row coder's open frame at its row 0 (R110). -/
def openCoder (c : Coder) (ref : Nat) : Coder :=
  { c with openFrame := some ref, cursor := 64, stop := .none, preds := Vector.replicate 16 none }

/-! ### Payload bursts -/

/-- The burst formed from the oldest unissued bytes, with the bytes left in the store, if one is due: the
frame's bytes reach the next host address that is a multiple of 256, or its capture has ended (R120; log 39
for an address past 2⁶⁴ − 1). -/
def nextBurst (s : State) : Option (PayloadBurst × List StagedByte) :=
  match s.coder.unissued with
  | [] => none
  | first :: _ =>
    match findRecord s first.ref with
    | none => none
    | some r =>
      let address := r.descriptor.address + BitVec.ofNat 64 first.offset
      let room := 256 - address.toNat % 256
      let run := s.coder.unissued.takeWhile fun b => b.ref == first.ref
      if room ≤ run.length ∨ r.phase ≠ .opened then
        let taken := run.take room
        some ({ ref := first.ref, address := address, offset := first.offset,
                data := taken.map StagedByte.value },
              s.coder.unissued.drop taken.length)
      else none

/-- PAYLOAD_BURST_ISSUE (R120). -/
def execPayloadBurstIssue (s : State) : Result :=
  match isEnabled s, nextBurst s with
  | true, some (b, rest) =>
    .next { s with coder := { s.coder with unissued := rest, bursts := s.coder.bursts ++ [b] } }
  | _, _ => .next s

/-- The store once a frame's payload write has failed: its unissued bytes are discarded, and its later
rows refused if it is the open frame (R121). -/
def failPayload (c : Coder) (ref : Nat) : Coder :=
  { c with
    unissued := c.unissued.filter fun b => b.ref != ref
    stop := if c.openFrame = some ref then .writeFailed else c.stop }

/-- PAYLOAD_WRITE_DONE (R121, R122). -/
def execPayloadWriteDone (burst : Nat) (a : WriteAnswer) (s : State) : Result :=
  match isEnabled s && a.tracked, s.coder.bursts[burst]? with
  | true, some b =>
    let c := { s.coder with bursts := s.coder.bursts.eraseIdx burst }
    if writeFailed a then
      .next (drainIfDone (addDamage { s with coder := failPayload c b.ref } b.ref damageWriteError) b.ref)
    else .next (drainIfDone { s with coder := c } b.ref)
  | _, _ => .next s

/-- HEADER_WRITE_DONE (R123, R139). -/
def execHeaderWriteDone (write : Nat) (a : WriteAnswer) (s : State) : Result :=
  match isEnabled s && a.tracked, s.coder.headers[write]? with
  | true, some w =>
    let answered := { s with coder := { s.coder with headers := s.coder.headers.eraseIdx write } }
    let damaged := if writeFailed a then addDamage answered w.ref damageWriteError else answered
    .next (enterReportWait damaged w.ref .frameDone)
  | _, _ => .next s

end Sys2Proof.Machine
end

