-- ==== Sys2Proof/Machine/Frames.lean ====
section
/-! DEFINITION. Chapter 8, frames: binding at setup, frame setup itself (R8), cancellation, drop reports
and the drop summary, and the grant of a frame's report. -/

namespace Sys2Proof.Machine

/-! ### Binding -/

/-- The drop reason of the first condition that holds, or none when a buffer is bound (R134). -/
def dropReason (s : State) : Option DropReason :=
  if s.completions.summary.isSome then some .backlog
  else if 4 ≤ s.records.length then some .overrun
  else if s.buffers.list.isEmpty then some .noBuffer
  else none

/-- A new record (R134). -/
def newRecord (ref : Nat) (sequence : Word) (profile : Fin 4) (bound : Profile) (d : Descriptor) :
    FrameRecord :=
  { ref := ref, sequence := sequence, profile := profile, bound := bound, descriptor := d,
    phase := .setUp, rowsPlanned := rowsPlanned bound, rowsWritten := 0, rowsLost := 0,
    payloadBytes := 0, damage := 0#8, disposition := none, missed := 0, startTime := none,
    reportKind := none, turn := 0 }

/-- The frame placed in the set-up frame slot (R8). -/
def fillSetUp (s : State) (f : SlotFrame) : State :=
  { s with stream := { s.stream with setUp := some f } }

/-- Stage 4 of frame setup (R134, R26). -/
def bindFrame (s : State) (sequence : Word) (profile : Fin 4) : State :=
  let bound := s.profiles[profile].active
  match dropReason s, s.buffers.list with
  | none, d :: rest =>
    fillSetUp
      { s with
        buffers := { s.buffers with list := rest }
        records := s.records ++ [newRecord s.nextRef sequence profile bound d]
        nextRef := s.nextRef + 1 }
      (.buffered sequence s.nextRef bound)
  | some reason, _ => fillSetUp s (.dropped sequence profile bound reason)
  | none, [] => fillSetUp s (.dropped sequence profile bound .noBuffer)

/-- Frame setup: sequence, landing, choice, binding (R8). -/
def frameSetup (s : State) : State :=
  let sequence := s.stream.next
  let numbered := { s with stream := { s.stream with next := sequence + 1#32 } }
  let landed := landDue numbered sequence
  let profile := chosenProfile landed.schedule
  bindFrame { landed with schedule := advancePosition landed.schedule } sequence profile

/-! ### Cancellation -/

/-- A cancelled record goes from SET_UP to REPORT_WAIT (R141). -/
def cancelRecord (s : State) (ref : Nat) : State := enterReportWait s ref .cancelled

/-- Cancellation of the frame in the set-up frame slot, if there is one (R17). -/
def cancelSetUp (s : State) : State :=
  match s.stream.setUp with
  | none => s
  | some f =>
    let undone := { s with stream := { s.stream with next := f.sequence, setUp := none } }
    match f with
    | .buffered _ ref _ => cancelRecord undone ref
    | .dropped .. => undone

/-! ### Drop reports -/

/-- The drop summary after merging a frame (R170). -/
def mergeDrop (summary : Option DropSummary) (sequence : Word) (reason : DropReason) : DropSummary :=
  match summary with
  | none => { first := sequence, last := sequence, count := 1, reasons := reason.bit }
  | some d => { d with last := sequence, count := d.count + 1, reasons := d.reasons ||| reason.bit }

/-- Merging the frame would make the range reach 2³¹ (R170). -/
def dropOverflows (summary : Option DropSummary) (sequence : Word) : Bool :=
  match summary with
  | none => false
  | some d => decide (2147483648 ≤ (sequence - d.first).toNat)

/-- The report of a dropped frame: a FRAME_DROPPED of its own in an entry that no waiting producer takes, or the merge
into the drop summary, or the halt DROP_OVERFLOW (R142, R169, R170). -/
def dropReport (s : State) (sequence : Word) (reason : DropReason) : State :=
  if s.completions.summary = none ∧ entryFound s then
    place s (.frameDropped sequence sequence 1 reason.bit)
  else if dropOverflows s.completions.summary sequence then enterHalted s .dropOverflow 0
  else
    { s with completions :=
        { s.completions with summary := some (mergeDrop s.completions.summary sequence reason) } }

/-- The report of the current frame, if it is a dropped one (R2, R16). -/
def reportDropped (s : State) (f : SlotFrame) : State :=
  match f with
  | .buffered .. => s
  | .dropped sequence _ _ reason => dropReport s sequence reason

/-- DROP_SUMMARY_GRANT (R171). -/
def execDropSummaryGrant (s : State) : Result :=
  match grant s, s.completions.summary with
  | some .summary, some d =>
    .next (place { s with completions := { s.completions with summary := none } }
      (.frameDropped d.first d.last d.count d.reasons))
  | _, _ => .next s

/-! ### Reports of records -/

/-- The fields of a record's FRAME_DONE or FRAME_DISCARDED (R139). -/
def reportOf (r : FrameRecord) : FrameReport :=
  { sequence := r.sequence, tag := r.descriptor.tag, profile := r.profile, damage := r.damage,
    rowsWritten := r.rowsWritten, rowsLost := r.rowsLost, payloadBytes := r.payloadBytes,
    missed := r.missed }

/-- The completion of a record by its report kind (R139). -/
def recordCompletion (r : FrameRecord) : Completion :=
  match r.reportKind with
  | some .frameDiscarded => .frameDiscarded (reportOf r)
  | some .cancelled => .bufferReturned r.descriptor.tag .cancelled
  | _ => .frameDone (reportOf r)

/-- FRAME_REPORT_GRANT (R139): the offered record's completion is placed and the record freed. -/
def execFrameReportGrant (s : State) : Result :=
  match grant s, waitingRecord s with
  | some (.record _), some r =>
    .next (place { s with records := s.records.filter fun x => x.ref != r.ref } (recordCompletion r))
  | _, _ => .next s

end Sys2Proof.Machine
end

