-- ==== Sys2Proof/Machine/Intake.lean ====
section
/-! DEFINITION. Chapter 5: the converter link, port states and events, strobes, rows at the intake, test
generators, the channel table, live edits; and the trim arithmetic of Chapter 6. -/

namespace Sys2Proof.Machine

/-! ### Trim arithmetic and test generators -/

/-- Clamp to −32767 to 32767 (R97, step 4). -/
def clampSample (v : Int) : Int := if v < -32767 then -32767 else if 32767 < v then 32767 else v

/-- The corrected value of a raw code (R97). -/
def correctSample (e : TrimEntry) (raw : Int) : Int :=
  clampSample ((raw * (e.gain : Int)) / 16384 + e.offset)

/-- A raw code of −32768 is taken as −32767 (R86). -/
def rawCode (w : Half) : Int := if w.toInt = -32768 then -32767 else w.toInt

/-- The ramp value after a row strobe: from 32767 to −32767 (R84). -/
def nextRamp (v : Int) : Int := if v = 32767 then -32767 else v + 1

/-- The PRBS state after a row strobe: every stage takes the stage below, stage 1 the exclusive-or of
stages 15 and 14 (R85). -/
def nextPrbs (v : BitVec 15) : BitVec 15 :=
  (v <<< 1) ||| BitVec.ofNat 15 (bit (v.getLsbD 14 != v.getLsbD 13))

/-- The generator a channel uses advances at a row strobe (R84, R85). -/
def advanceGenerator (c : Channel) : Channel :=
  match c.source with
  | .ramp => { c with ramp := nextRamp c.ramp }
  | .prbs => { c with prbs := nextPrbs c.prbs }
  | _ => c

/-- What a channel delivers for a row, fixed at the row's strobe (R82). -/
def fixSample (c : Channel) : FixedSample :=
  match c.source with
  | .converter => .converter c.trimApply
  | .constant => .test c.constant
  | .ramp => .test c.ramp
  | .prbs => .test c.prbs.toNat

/-! ### Port records -/

/-- Replace the record of a port. -/
def setPort (s : State) (p : Fin 4) (q : Port) : State := { s with ports := s.ports.set p q }

/-- A change of a port's state with its cause: the three counts go to 0 and the change is counted, up to
255 (R76, R77, R78, R80). -/
def changePort (q : Port) (state : PortState) (cause : PortCause) : Port :=
  { q with state := state, lastCause := cause, consecutiveBad := 0, goodAlign := 0, alignSpent := 0,
           changeCount := min 255 (q.changeCount + 1) }

/-- The verdicts of R74. -/
inductive Verdict where
  | good (correct : Bool)
  | bad
  | missing
deriving DecidableEq, Repr

/-- The verdict is GOOD. -/
def Verdict.isGood : Verdict → Bool
  | .good _ => true
  | _ => false

/-- A port in UP acts on a verdict (R76). -/
def judgeUp (q : Port) (v : Verdict) : Port :=
  if v.isGood then { q with consecutiveBad := 0 }
  else if 8 ≤ q.consecutiveBad + 1 then changePort q .lost .linkLost
  else { q with consecutiveBad := q.consecutiveBad + 1 }

/-- What a verdict does to an alignment. -/
inductive AlignOutcome where
  | goesOn
  | aligned (spent : Nat)
  | failed
deriving DecidableEq, Repr

/-- A port still ALIGNING after its 512th request enters LOST (R77). -/
def spendCheck (q : Port) : Port × AlignOutcome :=
  if 512 ≤ q.alignSpent then (changePort q .lost .alignFailed, .failed) else (q, .goesOn)

/-- A port in ALIGNING acts on a verdict (R77). -/
def judgeAligning (q : Port) (v : Verdict) : Port × AlignOutcome :=
  if v = .good true then
    if 8 ≤ q.goodAlign + 1 then (changePort q .up .aligned, .aligned q.alignSpent)
    else spendCheck { q with goodAlign := q.goodAlign + 1 }
  else spendCheck { q with goodAlign := 0 }

/-- The PORT_ALIGN of a port completes as its alignment ends (R77; log 8 for the detail). -/
def finishAlign (s : State) (p : Fin 4) : AlignOutcome → State
  | .goesOn => s
  | .aligned spent => useFree (completeWork s (.align p) (freeDetailAnswer s .ok spent))
  | .failed => useFree (completeWork s (.align p) (freeDetailAnswer s .alignFailed 512))

/-- The port's condition for the row in progress, if it is still PENDING (R88). -/
def decideCondition (s : State) (p : Fin 4) (c : Condition) : State :=
  match s.row with
  | some r =>
    if r.conditions[p] = .pending then
      { s with row := some { r with conditions := r.conditions.set p c } }
    else s
  | none => s

/-- The port acts on a verdict by its state (R75 to R77); the verdict on the reply to a row strobe also
decides the port's condition for the row (R76). A port acts only on replies to strobes of the kind its
state sends (log 28). -/
def applyVerdict (s : State) (p : Fin 4) (w : ReplyWindow) (v : Verdict) (c : Condition) : State :=
  let q := s.ports[p]
  match q.state with
  | .up =>
    if w.alignment then s
    else
      let judged := setPort s p (judgeUp q v)
      if w.atRow then decideCondition judged p c else judged
  | .aligning =>
    if w.alignment then
      let judged := judgeAligning q v
      finishAlign (setPort s p judged.1) p judged.2
    else s
  | .off => s
  | .lost => s

/-! ### Rows at the intake -/

/-- The sample of a channel from its fixed setting and its port's condition (R82, R86). -/
def sampleOf (r : IntakeRow) (c : Fin 16) : Int :=
  match r.fixed[c] with
  | .test v => v
  | .converter trimmed =>
    match r.conditions[portOf c] with
    | .good w1 w2 w3 w4 =>
      let raw := rawCode (match c.val % 4 with | 0 => w1 | 1 => w2 | 2 => w3 | _ => w4)
      if trimmed then correctSample r.trim[c] raw else raw
    | _ => marker

/-- A port's bad-packet indication: its condition is BAD or DOWN (R89). -/
def badPacket : Condition → Bool
  | .bad => true
  | .down => true
  | .good .. => false
  | .pending => false

/-- The channel takes its sample from the converter in this row. -/
def fromConverter (r : IntakeRow) (c : Fin 16) : Bool :=
  match r.fixed[c] with
  | .converter _ => true
  | .test _ => false

/-- The damage that a window row's samples add: LINK_ERROR for a marker from a BAD condition, PORT_DOWN
for one from a DOWN condition (R90). -/
def rowDamage (r : IntakeRow) (mask : BitVec 16) : BitVec 8 :=
  let marked := fun (k : Condition) => (maskChannels mask).any fun c =>
    fromConverter r c && r.conditions[portOf c] == k
  (if marked .bad then damageLinkError else 0#8) ||| (if marked .down then damagePortDown else 0#8)

/-- What the intake hands over for a window row (R89). -/
def handoverOf (r : IntakeRow) (bound : Profile) : Handover :=
  { index := r.index,
    samples := (maskChannels bound.channelMask).map fun c => (c, sampleOf r c),
    bad := Vector.ofFn fun p => badPacket r.conditions[p],
    last := r.index == lastWindowRow bound }

/-- The hand-over of a window row of an OPEN record: the intake's damage, the row coder's decision, and
after the last window row the end of capture (R89, R90, R111, R137). -/
def handOver (s : State) (r : IntakeRow) (record : FrameRecord) : State :=
  let h := handoverOf r record.bound
  let coded := takeRow (addDamage s record.ref (rowDamage r record.bound.channelMask)) record h
  if h.last then endCapture coded record.ref else coded

/-- The record that receives a row at its completion: the frame is buffered, the row is a window row of
its bound profile, and the record is OPEN (R89). -/
def rowReceiver (s : State) (r : IntakeRow) : Option FrameRecord :=
  match r.frame with
  | some (.buffered _ ref bound) =>
    if isWindowRow bound r.index then
      match findRecord s ref with
      | some record => if record.phase = .opened then some record else none
      | none => none
    else none
  | _ => none

/-- The completion of the row in progress (R88, R89). -/
def completeRow (s : State) : State :=
  match s.row with
  | none => s
  | some r =>
    let done := { s with row := none }
    match rowReceiver done r with
    | some record => handOver done r record
    | none => done

/-- The row is complete once no port's condition is PENDING (R88). -/
def rowComplete (r : IntakeRow) : Bool := allPorts.all fun p => r.conditions[p] != .pending

/-- Complete the row in progress if nothing is PENDING (R88). -/
def completeRowIfDone (s : State) : State :=
  match s.row with
  | some r => if rowComplete r then completeRow s else s
  | none => s

/-! ### Strobes and windows -/

/-- A window cut short by the beginning of row 0 closes without a verdict; if it belonged to the 512th
alignment request the port enters LOST (R74, R77). -/
def cutShort (s : State) (p : Fin 4) (w : ReplyWindow) : State :=
  if w.alignment ∧ s.ports[p].state = .aligning then
    let judged := spendCheck s.ports[p]
    finishAlign (setPort s p judged.1) p judged.2
  else s

/-- A port's window closes at the next strobe: a window without a complete reply gives MISSING, unless it
was opened at a maintenance instant and is cut short (R73, R74). In HALTED it closes without a verdict: no reply is
judged and no count changes (R94). -/
def closeAtStrobe (cut : Bool) (s : State) (p : Fin 4) : State :=
  match s.ports[p].window with
  | none => s
  | some w =>
    let closed := setPort s p (closeWindow s.ports[p])
    if w.answered || s.window.device == .halted then closed
    else if cut && !w.atRow then cutShort closed p w
    else applyVerdict closed p w .missing .bad

/-- The strobe sent to a port by its state: an alignment request of 6 ticks to an ALIGNING port, a row or
maintenance strobe of 2 ticks otherwise (R73, R77). Each strobe opens a reply window. In HALTED every port receives
a maintenance strobe whatever its state, and no alignment request is sent or counted (R73, R94). A strobe sent while
the former pulse is still high begins the pulse's length again, with no low level between the two (log 22). -/
def strobePort (halted atRow : Bool) (q : Port) : Port :=
  if !halted && q.state == .aligning then
    { q with alignSpent := q.alignSpent + 1, pulse := 6,
             window := some { atRow := atRow, alignment := true, answered := false } }
  else { q with pulse := 2, window := some { atRow := atRow, alignment := false, answered := false } }

/-- One strobe to each fitted port (R73). -/
def sendStrobes (s : State) (atRow : Bool) : State :=
  { s with ports := Vector.ofFn fun p : Fin 4 =>
      if portFitted s p then strobePort (s.window.device == .halted) atRow s.ports[p] else s.ports[p] }

/-- A strobe instant: the windows close, the row in progress completes, the strobes go out (R73, R88). -/
def strobeInstant (s : State) (atRow cut : Bool) : State :=
  sendStrobes (completeRow (allPorts.foldl (closeAtStrobe cut) s)) atRow

/-- The row that begins at a row strobe: PENDING for a fitted port in UP, DOWN for any other; the test
samples and the trim table in force (R82, R88, R98). -/
def rowAtStrobe (s : State) (index : Nat) : IntakeRow :=
  { index := index, frame := s.stream.current,
    conditions := Vector.ofFn fun p : Fin 4 =>
      if portFitted s p && s.ports[p].state == .up then .pending else .down
    fixed := Vector.ofFn fun c : Fin 16 => fixSample s.channels[c]
    trim := s.trim.table }

/-- The row strobe of a row (R1, R73, R82 to R85, R88). -/
def rowStrobe (s : State) (index : Nat) (cut : Bool) : State :=
  let sent := strobeInstant s true cut
  completeRowIfDone
    { sent with
      row := some (rowAtStrobe sent index)
      channels := Vector.ofFn fun c : Fin 16 => advanceGenerator sent.channels[c] }

/-- A maintenance strobe is due: no rows run and the timer has reached 400 ticks (R4). -/
def maintenanceDue (s : State) : Bool :=
  match s.stream.maintenance with
  | some t => !rowsRun s && decide (maintenancePeriod ≤ t) && s.window.device != .init
  | none => false

/-- MAINTENANCE_STROBE (R4, R73). -/
def execMaintenanceStrobe (s : State) : Result :=
  if maintenanceDue s then
    .next (strobeInstant { s with stream := { s.stream with maintenance := some 0 } } false false)
  else .next s

/-- The verdict on a complete reply (R74). -/
def verdictOf (bits : BitVec 96) : Verdict :=
  if replyGood bits then .good (replyCorrect bits) else .bad

/-- The condition that a complete reply gives (R76). -/
def conditionOf (bits : BitVec 96) : Condition :=
  if replyGood bits then
    .good (replyWord bits 1) (replyWord bits 2) (replyWord bits 3) (replyWord bits 4)
  else .bad

/-- The window in which a reply is taken: open, without an earlier reply, and of a fitted port that judges
replies; the reply's start bit came in it (R73, R74, R75). In HALTED no reply is judged (R94). -/
def takingWindow (s : State) (p : Fin 4) (ownWindow : Bool) : Option ReplyWindow :=
  match s.ports[p].window with
  | some w =>
    if ownWindow && portFitted s p && !w.answered && s.window.device != .halted &&
        (s.ports[p].state == .up || s.ports[p].state == .aligning) then some w
    else none
  | none => none

/-- REPLY_RECEIVED (R74 to R77, R88). -/
def execReplyReceived (port : Fin 4) (ownWindow : Bool) (bits : BitVec 96) (s : State) : Result :=
  match takingWindow s port ownWindow with
  | none => .next s
  | some w =>
    let taken := setPort s port { s.ports[port] with window := some { w with answered := true } }
    .next (completeRowIfDone (applyVerdict taken port w (verdictOf bits) (conditionOf bits)))

/-! ### Live edits -/

/-- The current frame's record that a live edit damages: the frame is buffered, its record OPEN, its first
window row strobed and its last not, and the edit affects a channel of its mask (R91). -/
def liveEditRecord (s : State) (affects : Fin 16 → Bool) : Option Nat :=
  match s.stream.current with
  | some (.buffered _ ref bound) =>
    if recordOpen s ref && rowsRun s && decide (bound.rowFirst ≤ s.stream.rowIndex) &&
        decide (s.stream.rowIndex < lastWindowRow bound) &&
        (maskChannels bound.channelMask).any affects then some ref
    else none
  | _ => none

/-- A live edit comes into force (R91). -/
def liveEdit (s : State) (affects : Fin 16 → Bool) : State :=
  match liveEditRecord s affects with
  | some ref => addDamage s ref damageLiveEdit
  | none => s

/-! ### SET_CHANNEL -/

/-- The operands of a SET_CHANNEL body (TABLE 11-6). -/
structure ChannelOperands where
  channel : Nat
  source : Nat
  trimApply : Nat
  constant : Int
deriving DecidableEq, Repr

/-- The operands as read. -/
def channelOperands (r : Record) : ChannelOperands :=
  { channel := recordNat r 0x08 1, source := recordNat r 0x09 1, trimApply := recordNat r 0x0A 1,
    constant := setChannelConstant r }

/-- The check that refuses a SET_CHANNEL, if any (R83). -/
def channelFault (s : State) (o : ChannelOperands) : Option (Status × Nat) :=
  if 16 ≤ o.channel then some (.badField, 255)
  else if fitted s ≤ o.channel / 4 then some (.notFitted, o.channel)
  else if !inRange 0x11 o.source then some (.range, 0)
  else if !inRange 0x12 o.constant then some (.range, 1)
  else if !inRange 0x13 o.trimApply then some (.range, 2)
  else none

/-- The entry after an accepted SET_CHANNEL (R83). -/
def editChannel (c : Channel) (o : ChannelOperands) : Channel :=
  let source := Source.ofCode o.source
  { source := source, constant := o.constant, trimApply := o.trimApply == 1,
    ramp := if source = .ramp then o.constant else c.ramp,
    prbs := if source = .prbs then 1#15 else c.prbs }

/-- The write changes what the channel delivers (R83). -/
def changesDelivery (old new : Channel) : Bool :=
  old.source != new.source || new.source == .ramp || new.source == .prbs ||
    (new.source == .constant && old.constant != new.constant) ||
    (new.source == .converter && old.trimApply != new.trimApply)

/-- The owner's part of SET_CHANNEL (R83, R91). -/
def setChannelOwner (r : Record) (s : State) : State × Answer :=
  let o := channelOperands r
  match channelFault s o with
  | some (status, detail) => (s, answer status detail 0)
  | none =>
    let c : Fin 16 := Fin.ofNat 16 o.channel
    let new := editChannel s.channels[c] o
    let damaged :=
      if changesDelivery s.channels[c] new then liveEdit s (fun x => x == c) else s
    ({ damaged with channels := damaged.channels.set c new }, answer .ok 0 o.channel)

/-- SET_CHANNEL (R83). -/
def execSetChannel (s : State) : Result := runImmediate s (ofKind kindSetChannel) setChannelOwner

/-! ### PORT_ALIGN and port events -/

/-- The check that refuses a PORT_ALIGN, if any (R78). -/
def alignFault (s : State) (p : Nat) : Option (Status × Nat) :=
  if 4 ≤ p then some (.badField, 255)
  else if fitted s ≤ p then some (.notFitted, p)
  else if s.ports[Fin.ofNat 4 p].state = .aligning then some (.busy, p)
  else none

/-- The window of an UP port's row strobe is abandoned if its reply has had no verdict (R78). -/
def abandonRowWindow (q : Port) : Port :=
  match q.state, q.window with
  | .up, some w => if w.atRow && !w.answered then { q with window := none } else q
  | _, _ => q

/-- The owner's part of PORT_ALIGN (R78). -/
def portAlignOwner (r : Record) (s : State) : Taken :=
  let p := recordNat r 0x08 1
  match alignFault s p with
  | some (status, detail) => refuseLong s status detail
  | none =>
    let port : Fin 4 := Fin.ofNat 4 p
    let aligning := setPort s port
      (changePort (abandonRowWindow s.ports[port]) .aligning .alignRequested)
    { state := completeRowIfDone (decideCondition aligning port .down), work := .align port,
      answer := none }

/-- PORT_ALIGN (R78). -/
def execPortAlign (s : State) : Result := runLong s (ofKind kindPortAlign) portAlignOwner

/-- A port whose changes have been reported (R81). -/
def reportedPort (q : Port) : Port := { q with lastReported := q.state, changeCount := 0 }

/-- PORT_EVENT (R81). -/
def execPortEvent (s : State) : Result :=
  match grant s with
  | some (.port p) =>
    let q := s.ports[p]
    .next (place (setPort s p (reportedPort q)) (.portEvent p q.state q.lastCause q.changeCount))
  | _ => .next s

end Sys2Proof.Machine
end

