-- ==== Sys2Proof/Machine/ReadOut.lean ====
section
/-! DEFINITION. READ_OUT (9.5): image kinds, their items, the checks, and the image's writes. -/

namespace Sys2Proof.Machine

/-! ### Items -/

/-- PROFILE: the nine fields of a copy (TABLE 9-3). -/
def profileItems (p : Profile) : List Item :=
  [1, 2, 3, 4, 5, 6, 7, 8, 9].map fun id => (id, readField p id)

/-- SCHEDULE: the entry count, then profile and repeat of each entry (TABLE 9-3). -/
def scheduleItems (entries : List ScheduleEntry) : List Item :=
  (0x01, entries.length) ::
    (entries.mapIdx fun i e => [(0x10 + 2 * i, e.profile.val), (0x11 + 2 * i, e.repeats)]).flatten

/-- COMMITS: the items of group g (TABLE 9-3). -/
def groupItems (g : Nat) (x : CommitGroup) : List Item :=
  let base := 0x10 * g
  [(base + 0x10, x.tag.toNat), (base + 0x11, x.state.code)] ++
    wideItems (base + 0x12) x.landingFrame.toNat ++
    [(base + 0x14, x.profileSet.toNat), (base + 0x15, bit x.scheduleFlag)] ++
    (match x.landedFrame with
     | some f => wideItems (base + 0x16) f.toNat
     | none => [])

/-- COMMITS: the number of groups, then the groups in list order (R58, TABLE 9-3). -/
def commitItems (groups : List CommitGroup) : List Item :=
  (0x01, groups.length) :: (groups.mapIdx groupItems).flatten

/-- CHANNELS: source, constant and trim_apply of each channel (R93, TABLE 9-3). -/
def channelItems (s : State) : List Item :=
  allChannels.flatMap fun c =>
    let x := s.channels[c]
    [(0x10 + 4 * c.val, x.source.code), (0x11 + 4 * c.val, signedCode 24 x.constant),
     (0x12 + 4 * c.val, bit x.trimApply)]

/-- The offset and gain items of the sixteen channels (TABLE 9-3). -/
def trimItems (t : TrimTable) : List Item :=
  allChannels.flatMap fun c =>
    [(0x10 + 2 * c.val, signedCode 24 t[c].offset), (0x11 + 2 * c.val, t[c].gain)]

/-- TRIM_TABLE: the origin, then offsets and gains (R108, TABLE 9-3). -/
def trimTableItems (t : TrimUnit) : List Item := (0x01, t.origin.code) :: trimItems t.table

/-- TRIM_SLOT: slot number and state, and for a PROGRAMMED slot its image (R108, TABLE 9-3). -/
def trimSlotItems (t : TrimUnit) (k : Fin 8) : List Item :=
  [(0x01, k.val), (0x02, t.slotStates[k].code)] ++
    (if t.slotStates[k] = .programmed then trimItems (imageTable (t.slots[k].image.getD 0)) else [])

/-- LIMITS: minimum, maximum, default and class of each entry (R30, TABLE 9-3). -/
def limitItems : List Item :=
  limitsTable.flatMap fun l =>
    [(l.id, signedCode 24 l.minimum), (l.id + 0x40, signedCode 24 l.maximum),
     (l.id + 0x80, signedCode 24 l.dflt), (l.id + 0xC0, bit l.live)]

/-- STATUS: the items of frame record r (TABLE 9-4). -/
def recordItems (r : Nat) (x : FrameRecord) : List Item :=
  wideItems (0x10 + 4 * r) x.sequence.toNat ++ [(0x12 + 4 * r, x.phase.code)]

/-- The slot of the TRIM_PROGRAM in progress, or 255 (TABLE 9-4). -/
def programSlot : TrimProgramming → Nat
  | .idle => 255
  | .reading k _ => k.val
  | .held k _ => k.val
  | .programming k _ _ => k.val

/-- STATUS (TABLE 9-4). -/
def statusItems (s : State) : List Item :=
  [(0x01, s.stream.state.code), (0x02, s.stream.mode.code)] ++
    wideItems 0x03 s.stream.next.toNat ++
    [(0x05, s.schedule.entry), (0x06, s.schedule.remaining), (0x07, s.commits.length),
     (0x08, s.records.length)] ++
    (s.records.mapIdx recordItems).flatten ++
    [(0x20, s.buffers.list.length), (0x21, bit s.buffers.latch.isSome), (0x22, bit s.buffers.paused),
     (0x23, bit s.buffers.reclaim.isSome), (0x24, s.buffers.ringHead),
     (0x28, s.completions.holding.length), (0x29, bit s.completions.summary.isSome)] ++
    (allPorts.map fun p => (0x30 + p.val, s.ports[p].state.code)) ++
    [(0x34, fitted s), (0x38, s.requests.entries.length), (0x39, s.requests.head),
     (0x3A, s.requests.intake.length)] ++
    ([0, 1, 2, 3, 4, 5, 6, 7].map fun k : Fin 8 => (0x40 + k.val, s.trim.slotStates[k].code)) ++
    [(0x48, programSlot s.trim.program), (0x49, bit (s.trim.load != .idle))] ++
    wideItems 0x50 s.stream.timeCounter.toNat

/-! ### The request -/

/-- The operands of a READ_OUT body (TABLE 11-6). -/
structure ReadOutOperands where
  kind : Nat
  index : Nat
  copy : Nat
  target : Addr
  length : Nat
deriving DecidableEq, Repr

/-- The operands as read. -/
def readOutOperands (r : Record) : ReadOutOperands :=
  { kind := recordNat r 0x08 1, index := recordNat r 0x09 1, copy := recordNat r 0x0A 1,
    target := recordField r 0x10 8, length := recordNat r 0x18 4 }

/-- The selector is valid for the kind (TABLE 9-2). -/
def selectorValid (o : ReadOutOperands) : Bool :=
  match o.kind with
  | 1 => decide (o.index < 4 ∧ o.copy < 3)
  | 2 => decide (o.copy < 3)
  | 6 => decide (o.index < 8)
  | _ => true

/-- The copy of a profile that a selector names: STAGED 0, PENDING 1, ACTIVE 2 (TABLE 9-2). -/
def selectProfile (c : ProfileCopies) (copy : Nat) : Option Profile :=
  match copy with
  | 0 => some c.staged
  | 1 => c.pend
  | _ => some c.active

/-- The copy of the schedule that a selector names (TABLE 9-2). -/
def selectSchedule (u : ScheduleUnit) (copy : Nat) : Option (List ScheduleEntry) :=
  match copy with
  | 0 => some u.staged
  | 1 => u.pend
  | _ => some u.active

/-- The items of an image as the state stands, or none when the named pending copy is absent (R158, check
4; R160). -/
def imageItems (s : State) (o : ReadOutOperands) : Option (List Item) :=
  match o.kind with
  | 1 => (selectProfile s.profiles[Fin.ofNat 4 o.index] o.copy).map profileItems
  | 2 => (selectSchedule s.schedule o.copy).map scheduleItems
  | 3 => some (commitItems s.commits)
  | 4 => some (channelItems s)
  | 5 => some (trimTableItems s.trim)
  | 6 => some (trimSlotItems s.trim (Fin.ofNat 8 o.index))
  | 7 => some limitItems
  | _ => some (statusItems s)

/-- The image, or the check that refuses the READ_OUT (R158). -/
def readOutImage (s : State) (o : ReadOutOperands) : List Byte ⊕ (Status × Nat) :=
  if o.kind < 1 ∨ 8 < o.kind then .inr (.badField, 255)
  else if !selectorValid o then .inr (.badField, 0)
  else if o.target.toNat % 64 ≠ 0 then .inr (.range, 0)
  else
    match imageItems s o with
    | none => .inr (.absent, 0)
    | some items =>
      let bytes := imageBytes o.kind items
      if o.length < bytes.length then .inr (.range, 1) else .inl bytes

/-- The owner's part of READ_OUT: the snapshot is taken with the request already in the pending list
(R158, R160), and its writes are issued (R161). -/
def readOutOwner (r : Record) (s : State) : Taken :=
  let o := readOutOperands r
  match readOutImage (enterList r s .refused none) o with
  | .inr (status, detail) => refuseLong s status detail
  | .inl bytes =>
    { state := s, work := .image bytes.length (imageBursts o.target bytes), answer := none }

/-- READ_OUT (R158 to R161). -/
def execReadOut (s : State) : Result := runLong s (ofKind kindReadOut) readOutOwner

/-- The answer of a READ_OUT whose bursts have all been answered (R161). -/
def imageAnswer (size : Nat) (responses : List Resp) : Answer :=
  if responses.any respIsError then answer .writeError 0 0 else answer .ok 0 size

/-- IMAGE_WRITE_DONE (R161): one response for each burst of the image. -/
def execImageWriteDone (entry : Nat) (responses : List Resp) (s : State) : Result :=
  match isEnabled s, s.requests.entries[entry]? with
  | true, some e =>
    match e.work, e.answer with
    | .image size bursts, none =>
      if responses.length = bursts.length then
        .next { s with requests := { s.requests with
          entries := s.requests.entries.set entry
            { e with answer := some (imageAnswer size responses) } } }
      else .next s
    | _, _ => .next s
  | _, _ => .next s

end Sys2Proof.Machine
end

