-- ==== Sys2Proof/Machine/Notices.lean ====
section
/-! DEFINITION. Chapter 10: the completion ring writes, the notice line and its timer. -/

namespace Sys2Proof.Machine

/-- The threshold in force, 0 acting as 1 (R172). -/
def noticeThreshold (s : State) : Nat := max 1 s.window.setup.threshold

/-- A started holdoff timer, or IDLE with holdoff 0 (R172, R173). -/
def holdoffTimer (s : State) : Option Nat :=
  if s.window.setup.holdoff = 0 then none else some (ticksPerMicrosecond * s.window.setup.holdoff)

/-- The notice line and timer at a posting, n being the posted, unconsumed count after it (R172). -/
def noticeAtPosting (s : State) (n : Nat) : State :=
  if s.completions.notice then s
  else if noticeThreshold s ≤ n then
    { s with completions := { s.completions with notice := true, timer := none } }
  else
    match s.completions.timer with
    | some _ => s
    | none => { s with completions := { s.completions with timer := holdoffTimer s } }

/-- The notice line and timer at a CP_HEAD write, n being the posted, unconsumed count after it (R173;
log 25 for a line lowered and raised again at once). -/
def noticeAtConsumption (s : State) (n : Nat) : State :=
  if n = 0 then { s with completions := { s.completions with notice := false, timer := none } }
  else if n < noticeThreshold s then
    { s with completions := { s.completions with notice := false, timer := holdoffTimer s } }
  else { s with completions := { s.completions with notice := true, timer := none } }

/-- The host address of the completion ring's tail entry (R166). -/
def completionAddress (s : State) : Addr :=
  s.window.setup.completion.base + BitVec.ofNat 64 (32 * s.completions.tail)

/-- The ring has room (R166). -/
def ringHasRoom (s : State) : Bool := decide (postedCount s < completionSize s - 1)

/-- COMPLETION_WRITE_ISSUE (R166). -/
def execCompletionWriteIssue (s : State) : Result :=
  match s.completions.holding with
  | [] => .next s
  | c :: _ =>
    if isEnabled s && s.completions.write.isNone && ringHasRoom s then
      .next { s with completions := { s.completions with
        write := some { address := completionAddress s,
                        data := encodeCompletion s.completions.phase c } } }
    else .next s

/-- The completion at the queue's head has been written: it leaves the queue, and the tail advances with
the phase changing at the wrap (R166). -/
def postHead (s : State) : State :=
  let wraps := !decide (s.completions.tail + 1 < completionSize s)
  { s with completions := { s.completions with
      holding := s.completions.holding.tail
      tail := ringNext (completionSize s) s.completions.tail
      phase := if wraps then !s.completions.phase else s.completions.phase
      write := none } }

/-- COMPLETION_WRITE_DONE (R166, R167, R172). -/
def execCompletionWriteDone (a : WriteAnswer) (s : State) : Result :=
  match isEnabled s && a.tracked, s.completions.write with
  | true, some _ =>
    if writeFailed a then
      .next (enterHalted { s with completions := { s.completions with write := none } }
        .completionWriteError 0)
    else
      let posted := postHead s
      .next (noticeAtPosting posted (postedCount posted))
  | _, _ => .next s

/-- NOTICE_TIMER_EXPIRY (R172): a RUNNING timer has no tick left. -/
def execNoticeTimerExpiry (s : State) : Result :=
  match s.completions.timer with
  | some 0 => .next { s with completions := { s.completions with notice := true, timer := none } }
  | _ => .next s

end Sys2Proof.Machine
end

