-- ==== Sys2Proof/Machine/Trim.lean ====
section
/-! DEFINITION. Chapter 6: the trim store and its scan, TRIM_PROGRAM and TRIM_LOAD. -/

namespace Sys2Proof.Machine

/-! ### Slots and the scan -/

/-- The state of a slot from its fields (R100). -/
def classifySlot (k : TrimSlot) : SlotState :=
  if !k.useMark then .blank
  else if k.voidMark then .defective
  else
    match k.check with
    | none => .defective
    | some c => if c = imageCheck (k.image.getD 0) then .programmed else .defective

/-- The image of a slot as read. -/
def slotImage (t : TrimUnit) (k : Fin 8) : Record := t.slots[k].image.getD 0

/-- The eight slots in descending order. -/
def slotsDescending : List (Fin 8) := [7, 6, 5, 4, 3, 2, 1, 0]

/-- The eight slots in ascending order. -/
def slotsAscending : List (Fin 8) := [0, 1, 2, 3, 4, 5, 6, 7]

/-- The scan at the end of INIT: the slot-state table by R100, then the trim table from the
highest-numbered PROGRAMMED slot, or unity trim (R101). -/
def scanStore (t : TrimUnit) : TrimUnit :=
  let states : Vector SlotState 8 := Vector.ofFn fun k : Fin 8 => classifySlot t.slots[k]
  match slotsDescending.find? fun k => states[k] == .programmed with
  | some k => { t with slotStates := states, table := imageTable (slotImage t k), origin := .slot k }
  | none => { t with slotStates := states, table := unityTrim, origin := .unity }

/-- Change the fields of one slot. -/
def setSlot (t : TrimUnit) (k : Fin 8) (v : TrimSlot) : TrimUnit := { t with slots := t.slots.set k v }

/-- Change the held state of one slot. -/
def setSlotState (t : TrimUnit) (k : Fin 8) (v : SlotState) : TrimUnit :=
  { t with slotStates := t.slotStates.set k v }

/-! ### TRIM_PROGRAM -/

/-- The lowest-numbered BLANK slot of the slot-state table (R102). -/
def lowestBlank (t : TrimUnit) : Option (Fin 8) :=
  slotsAscending.find? fun k => t.slotStates[k] == .blank

/-- The owner's part of TRIM_PROGRAM (R102, R103). -/
def trimProgramOwner (r : Record) (s : State) : Taken :=
  let address : Addr := recordField r 0x10 8
  if address.toNat % 64 ≠ 0 then refuseLong s .range 0
  else if s.trim.program ≠ .idle then refuseLong s .busy 0
  else
    match lowestBlank s.trim with
    | none => refuseLong s .storeFull 0
    | some k =>
      { state := { s with trim := { s.trim with program := .reading k address } },
        work := .trimProgram, answer := none }

/-- TRIM_PROGRAM (R102, R103). -/
def execTrimProgram (s : State) : Result := runLong s (ofKind kindTrimProgram) trimProgramOwner

/-- The writing of the use mark: the slot's entry becomes DEFECTIVE and its programming begins (R104). -/
def writeUseMark (t : TrimUnit) (k : Fin 8) (image : Record) : TrimUnit :=
  { setSlotState (setSlot t k { t.slots[k] with useMark := true }) k .defective with
    program := .programming k image 0 }

/-- A slot read is in progress (R107). -/
def slotReadRuns (t : TrimUnit) : Bool :=
  match t.load with
  | .slotRead .. => true
  | _ => false

/-- TRIM_IMAGE_READ_DONE (R103, R104, R107): the programming begins, at once or after the slot read in
progress. -/
def execTrimImageReadDone (a : ReadAnswer 512) (s : State) : Result :=
  match a.tracked, s.trim.program with
  | true, .reading k _ =>
    if readFailed a then
      .next (completeWork { s with trim := { s.trim with program := .idle } } .trimProgram
        (answer .readError 0 k.val))
    else if slotReadRuns s.trim then .next { s with trim := { s.trim with program := .held k a.data } }
    else .next { s with trim := writeUseMark s.trim k a.data }
  | _, _ => .next s

/-- A slot read that waited for the programming begins (R107). -/
def startWaitingRead (t : TrimUnit) : TrimUnit :=
  match t.load with
  | .waiting k => { t with load := .slotRead k 0 }
  | _ => t

/-- The verify: the image and the check as read are those written (R104; log 16). -/
def verifyGood (written read : Record) (check : Half) : Bool :=
  read == written && check == imageCheck written

/-- The slot after its verify: use mark, image and check written, and the void mark if the verify failed
(R104). -/
def verifiedSlot (written : Record) (good : Bool) : TrimSlot :=
  { useMark := true, image := some written, check := some (imageCheck written), voidMark := !good }

/-- The trim unit after the verify of slot k (R104, R107). -/
def verifyTrim (t : TrimUnit) (k : Fin 8) (written : Record) (good : Bool) : TrimUnit :=
  startWaitingRead
    { setSlotState (setSlot t k (verifiedSlot written good)) k
        (if good then .programmed else .defective) with program := .idle }

/-- TRIM_PROGRAM_VERIFY (R104), 2.5 ms after the use mark; `image` and `check` are what the slot reads back
as (log 16). -/
def execTrimProgramVerify (image : Record) (check : Half) (s : State) : Result :=
  match s.trim.program with
  | .programming k written elapsed =>
    if programDuration ≤ elapsed then
      let good := verifyGood written image check
      .next (completeWork { s with trim := verifyTrim s.trim k written good } .trimProgram
        (answer (if good then .ok else .verifyFailed) 0 k.val))
    else .next s
  | _ => .next s

/-! ### TRIM_LOAD -/

/-- A slot is being programmed, from its use mark to its verify (R104, R107). -/
def programmingRuns (t : TrimUnit) : Bool :=
  match t.program with
  | .programming .. => true
  | _ => false

/-- The check that refuses a TRIM_LOAD, if any (R106). Source 0 is SLOT, 1 is HOST (TABLE 11-6). -/
def loadFault (t : TrimUnit) (source slot : Nat) (address : Addr) : Option (Status × Nat) :=
  if 1 < source then some (.badField, 255)
  else if source = 0 ∧ 8 ≤ slot then some (.badField, 255)
  else if source = 1 ∧ address.toNat % 64 ≠ 0 then some (.range, 0)
  else if t.load ≠ .idle then some (.busy, 0)
  else if source = 0 ∧ t.slotStates[Fin.ofNat 8 slot] ≠ .programmed then some (.absent, slot)
  else none

/-- The owner's part of TRIM_LOAD (R106, R107). -/
def trimLoadOwner (r : Record) (s : State) : Taken :=
  let source := recordNat r 0x08 1
  let slot := recordNat r 0x09 1
  let address : Addr := recordField r 0x10 8
  match loadFault s.trim source slot address with
  | some (status, detail) => refuseLong s status detail
  | none =>
    let k : Fin 8 := Fin.ofNat 8 slot
    let load : TrimLoading :=
      if source = 1 then .hostRead address
      else if programmingRuns s.trim then .waiting k else .slotRead k 0
    { state := { s with trim := { s.trim with load := load } }, work := .trimLoad, answer := none }

/-- TRIM_LOAD (R106, R107). -/
def execTrimLoad (s : State) : Result := runLong s (ofKind kindTrimLoad) trimLoadOwner

/-- A trim load affects the channels with source CONVERTER and trim_apply 1 (R91). -/
def trimAffects (s : State) (c : Fin 16) : Bool :=
  s.channels[c].source == .converter && s.channels[c].trimApply

/-- The image of a TRIM_LOAD is in hand: the table is replaced with its origin, the live edit comes into
force, and the request is complete (R96, R107). -/
def installTrim (s : State) (image : Record) (origin : TrimOrigin) (aux : Nat) : State :=
  let loaded := { s with trim :=
    { s.trim with table := imageTable image, origin := origin, load := .idle } }
  completeWork (liveEdit loaded (trimAffects loaded)) .trimLoad (answer .ok 0 aux)

/-- A programming whose use mark waited for the slot read writes it (R107). -/
def releaseHeld (t : TrimUnit) : TrimUnit :=
  match t.program with
  | .held k image => writeUseMark t k image
  | _ => t

/-- TRIM_SLOT_READ_DONE (R107), 20 µs after the slot read began. -/
def execTrimSlotReadDone (s : State) : Result :=
  match s.trim.load with
  | .slotRead k elapsed =>
    if slotReadDuration ≤ elapsed then
      let installed := installTrim s (slotImage s.trim k) (.slot k) k.val
      .next { installed with trim := releaseHeld installed.trim }
    else .next s
  | _ => .next s

/-- TRIM_HOST_READ_DONE (R107). -/
def execTrimHostReadDone (a : ReadAnswer 512) (s : State) : Result :=
  match a.tracked, s.trim.load with
  | true, .hostRead _ =>
    if readFailed a then
      .next (completeWork { s with trim := { s.trim with load := .idle } } .trimLoad
        (answer .readError 0 255))
    else .next (installTrim s a.data .host 255)
  | _, _ => .next s

end Sys2Proof.Machine
end

