-- ==== Sys2Proof/Machine/Registers.lean ====
section
/-! DEFINITION. Chapter 11: the register window, enabling, the resets, the index registers. -/

namespace Sys2Proof.Machine

/-! ### Reading the registers -/

/-- IDENT (TABLE 11-1; log 9 for the revision). -/
def identValue : Word := 0x6410#16 ++ 0x0A#8 ++ Config.revision

/-- STATUS (TABLE 11-1). The bits outside its listed fields, 7–3, 23–20 and 31–26, read as 0 (log 40). -/
def statusValue (s : State) : Word :=
  BitVec.ofNat 32 (s.window.device.code + 2 ^ 8 * s.window.cause.code +
    2 ^ 16 * s.window.detail.toNat + 2 ^ 24 * s.window.straps.toNat)

/-- What a read of `size` bytes at `offset` gives; it changes nothing (R176; log 33). -/
def readRegister (s : State) (offset size : Nat) : Word :=
  if size ≠ 4 then 0#32
  else
    match offset with
    | 0x00 => identValue
    | 0x04 => statusValue s
    | 0x0C => s.window.setupLo
    | 0x10 => s.window.setupHi
    | 0x14 => s.window.rqTail
    | 0x18 => s.window.bfTail
    | 0x1C => s.window.cpHead
    | _ => 0#32

/-! ### Resets -/

/-- The state of a port after a function reset (TABLE 5-7). -/
def portAfterReset : PortState → PortState
  | .up => .up
  | .aligning => .off
  | .off => .off
  | .lost => .lost

/-- The register window after a function reset (R179, TABLE 11-3; log 5 for the setup block's values). -/
def resetKeepingSetup (w : RegisterWindow) : RegisterWindow :=
  { resetWindow w.straps with setupLo := w.setupLo, setupHi := w.setupHi }

/-- The RESET action: a function reset of every block, and INIT (R179, R19, R37, R59, R71, R95, R109,
R126, R148, R163, R175). The trim store keeps its slots, and the trim table and the slot-state table stand
until the scan (log 6). -/
def functionReset (s : State) : State :=
  { s with
    window := resetKeepingSetup s.window
    stream := resetStream s.stream.timeCounter
    profiles := resetProfiles
    commits := []
    schedule := resetSchedule
    ports := Vector.ofFn fun p : Fin 4 => resetPort (portAfterReset s.ports[p].state)
    channels := Vector.replicate 16 resetChannel
    row := none
    trim := haltTrim s.trim
    coder := resetCoder
    records := []
    buffers := resetBuffers
    requests := resetRequests
    completions := resetCompletions }

/-- POWER_ON_RESET (R179 and the reset tables): everything but the one-time trim store and the model's own
fields (log 34). -/
def execPowerOnReset (straps : BitVec 2) (s : State) : Result :=
  .next { State.reset with
    pending := s.pending
    window := resetWindow straps
    trim := { State.reset.trim with slots := s.trim.slots }
    freeCount := s.freeCount
    nextRef := s.nextRef }

/-- RESET (R179). -/
def execReset (s : State) : Result := .next (functionReset s)

/-- END_OF_INIT (R101, R4, TABLE 11-2): after 50 µs the scan's results are in force, the maintenance timer
starts at 0 and the device enters DISABLED. -/
def execEndOfInit (s : State) : Result :=
  if s.window.device = .init ∧ initDuration ≤ s.window.initTicks then
    .next { s with
      window := { s.window with device := .disabled }
      trim := scanStore s.trim
      stream := { s.stream with maintenance := some 0 } }
  else .next s

/-! ### Enabling -/

/-- The setup block's address (R178). -/
def setupAddress (w : RegisterWindow) : Addr := w.setupHi ++ w.setupLo

/-- DISABLED with a setup cause (R178). -/
def setupFailed (w : RegisterWindow) (cause : Cause) (detail : BitVec 4) : RegisterWindow :=
  { w with device := .disabled, cause := cause, detail := detail, setupRead := none }

/-- The ENABLE action (R178). -/
def enableAction (s : State) : State :=
  if s.window.device = .disabled then
    let cleared := { s.window with device := .setup, cause := Cause.none, detail := 0#4 }
    if (setupAddress s.window).toNat % 64 = 0 then
      { s with window := { cleared with setupRead := some (setupAddress s.window) } }
    else { s with window := setupFailed cleared .setupInvalid 1 }
  else s

/-- ENABLE (R178). -/
def execEnable (s : State) : Result := .next (enableAction s)

/-- A ring size is a power of two from 16 to 4096 (R178). -/
def ringSizeValid (n : Nat) : Bool := [16, 32, 64, 128, 256, 512, 1024, 2048, 4096].contains n

/-- The end of a ring's extent, one past its last byte (R178). -/
def ringEnd (r : Ring) (entryBytes : Nat) : Nat := r.base.toNat + r.size * entryBytes

/-- Two extents, each from a base to an end, share no byte. -/
def extentsDisjoint (b1 e1 b2 e2 : Nat) : Bool := decide (e1 ≤ b2 ∨ e2 ≤ b1)

/-- The first check that a setup block fails, as its detail (R178). -/
def setupFault (b : Setup) : Option (BitVec 4) :=
  let rq := b.request
  let bf := b.buffer
  let cp := b.completion
  if !(ringSizeValid rq.size && ringSizeValid bf.size && ringSizeValid cp.size) then some 2
  else if rq.base.toNat % 64 ≠ 0 ∨ bf.base.toNat % 64 ≠ 0 ∨ cp.base.toNat % 64 ≠ 0 then some 3
  else if 2 ^ 64 < ringEnd rq 64 ∨ 2 ^ 64 < ringEnd bf 16 ∨ 2 ^ 64 < ringEnd cp 32 then some 4
  else if !(extentsDisjoint rq.base.toNat (ringEnd rq 64) bf.base.toNat (ringEnd bf 16) &&
      extentsDisjoint rq.base.toNat (ringEnd rq 64) cp.base.toNat (ringEnd cp 32) &&
      extentsDisjoint bf.base.toNat (ringEnd bf 16) cp.base.toNat (ringEnd cp 32)) then some 5
  else if cp.size ≤ b.threshold then some 6
  else none

/-- The entry into ENABLED: the setup block is held and every ring index starts at 0 (R177). -/
def enterEnabled (s : State) (b : Setup) : State :=
  { s with
    window := { s.window with device := .enabled, rqTail := 0, bfTail := 0, cpHead := 0,
                              setupRead := none, setup := b }
    requests := { s.requests with head := 0, fetchIndex := 0 }
    buffers := { s.buffers with ringHead := 0 }
    completions := { s.completions with tail := 0, phase := true } }

/-- SETUP_BLOCK_READ_DONE (R178). -/
def execSetupBlockReadDone (a : ReadAnswer 512) (s : State) : Result :=
  match a.tracked && s.window.device == .setup, s.window.setupRead with
  | true, some _ =>
    if readFailed a then .next { s with window := setupFailed s.window .setupReadError 0 }
    else
      match setupFault (setupOf a.data) with
      | some detail => .next { s with window := setupFailed s.window .setupInvalid detail }
      | none => .next (enterEnabled s (setupOf a.data))
  | _, _ => .next s

/-! ### Index registers -/

/-- An RQ_TAIL value is a fault (R180). -/
def rqTailFault (s : State) (value : Nat) : Bool :=
  let n := requestSize s
  decide (n ≤ value) ||
    decide (ringDist n value s.requests.head < ringDist n s.requests.fetchIndex s.requests.head)

/-- A BF_TAIL value is a fault (R180). -/
def bfTailFault (s : State) (value : Nat) : Bool :=
  let n := bufferSize s
  let head := s.buffers.ringHead
  decide (n ≤ value) || (s.buffers.fetch.isSome && value == ringPrev n head) ||
    (match s.buffers.reclaim with
     | some r => decide (ringDist n value head < ringDist n r.target head)
     | none => false)

/-- A CP_HEAD value is a fault (R180). -/
def cpHeadFault (s : State) (value : Nat) : Bool :=
  let n := completionSize s
  let old := s.window.cpHead.toNat
  decide (n ≤ value) || decide (ringDist n s.completions.tail old < ringDist n value old)

/-- A write of RQ_TAIL (R180). -/
def writeRqTail (s : State) (value : Word) : State :=
  if !isEnabled s then s
  else if rqTailFault s value.toNat then enterHalted s .badIndex 1
  else { s with window := { s.window with rqTail := value } }

/-- A write of BF_TAIL (R180). -/
def writeBfTail (s : State) (value : Word) : State :=
  if !isEnabled s then s
  else if bfTailFault s value.toNat then enterHalted s .badIndex 2
  else { s with window := { s.window with bfTail := value } }

/-- A write of CP_HEAD (R180, R173). -/
def writeCpHead (s : State) (value : Word) : State :=
  if !isEnabled s then s
  else if cpHeadFault s value.toNat then enterHalted s .badIndex 3
  else
    let consumed := { s with window := { s.window with cpHead := value } }
    noticeAtConsumption consumed (postedCount consumed)

/-- RQ_TAIL_WRITE (R180). -/
def execRqTailWrite (value : Word) (s : State) : Result := .next (writeRqTail s value)

/-- BF_TAIL_WRITE (R180). -/
def execBfTailWrite (value : Word) (s : State) : Result := .next (writeBfTail s value)

/-- CP_HEAD_WRITE (R173, R180). -/
def execCpHeadWrite (value : Word) (s : State) : Result := .next (writeCpHead s value)

/-! ### Any register write -/

/-- A write of CONTROL: bit 1 is RESET and goes first, bit 0 is ENABLE (R176). -/
def writeControl (s : State) (value : Word) : State :=
  if value.getLsbD 1 then functionReset s
  else if value.getLsbD 0 then enableAction s
  else s

/-- REGISTER_WRITE (R176): a 32-bit write at an offset that is a multiple of 4; any other access, a write of
IDENT or STATUS, and an offset from 0x20 write nothing. A write of CONTROL or of an index register acts as
that register's own rule says (log 18). -/
def execRegisterWrite (offset size : Nat) (value : Word) (s : State) : Result :=
  if size ≠ 4 then .next s
  else
    match offset with
    | 0x08 => .next (writeControl s value)
    | 0x0C => .next { s with window := { s.window with setupLo := value } }
    | 0x10 => .next { s with window := { s.window with setupHi := value } }
    | 0x14 => .next (writeRqTail s value)
    | 0x18 => .next (writeBfTail s value)
    | 0x1C => .next (writeCpHead s value)
    | _ => .next s

end Sys2Proof.Machine
end

