-- ==== Sys2Proof/Machine/RequestRing.lean ====
section
/-! DEFINITION. Chapter 9: record fetches, records of unknown kind or with flags, and the answers of long
requests. -/

namespace Sys2Proof.Machine

/-- The host address of the record at the fetch index (R149). -/
def requestAddress (s : State) : Addr :=
  s.window.setup.request.base + BitVec.ofNat 64 (64 * s.requests.fetchIndex)

/-- A record fetch may be issued (R149). -/
def requestFetchDue (s : State) : Bool :=
  isEnabled s && s.requests.fetch.isNone && decide (s.requests.intake.length < 4) &&
    decide (0 < ringDist (requestSize s) s.window.rqTail.toNat s.requests.fetchIndex)

/-- REQUEST_FETCH_ISSUE (R149). -/
def execRequestFetchIssue (s : State) : Result :=
  if requestFetchDue s then
    .next { s with requests := { s.requests with
      fetch := some (requestAddress s)
      fetchIndex := ringNext (requestSize s) s.requests.fetchIndex } }
  else .next s

/-- REQUEST_FETCH_DONE (R149, R150). -/
def execRequestFetchDone (a : ReadAnswer 512) (s : State) : Result :=
  match isEnabled s && a.tracked, s.requests.fetch with
  | true, some _ =>
    let answered := { s with requests := { s.requests with fetch := none } }
    if readFailed a then .next (enterHalted answered .requestReadError 0)
    else
      .next { answered with requests :=
        { answered.requests with intake := answered.requests.intake ++ [a.data] } }
  | _, _ => .next s

/-- BAD_KIND (R155): no block acts on the record. -/
def execBadKind (s : State) : Result :=
  runImmediate s (fun r => !kindKnown (requestKind r)) fun _ t => (t, answer .badKind 0 0)

/-- BAD_FLAGS (R155): no block acts on the record. -/
def execBadFlags (s : State) : Result :=
  runImmediate s (fun r => kindKnown (requestKind r) && requestFlags r != 0) fun _ t =>
    (t, answer .badField 254 0)

/-- The REQUEST_DONE of a ready pending-list entry (R156). -/
def entryDone (e : PendingEntry) (a : Answer) : Completion := .requestDone e.tag e.kind a e.ringHead

/-- LONG_REQUEST_DONE (R153, R157): the oldest waiting entry, being ready, is answered and freed. -/
def execLongRequestDone (s : State) : Result :=
  match grant s with
  | some (.long i) =>
    match s.requests.entries[i]? with
    | some e =>
      match e.answer with
      | some a =>
        .next (place
          { s with requests := { s.requests with entries := s.requests.entries.eraseIdx i } }
          (entryDone e a))
      | none => .next s
    | none => .next s
  | _ => .next s

end Sys2Proof.Machine
end

