-- ==== Sys2Proof/Machine/Timebase.lean ====
section
/-! DEFINITION. Chapter 1: rows, frames, the trigger, START and STOP. -/

namespace Sys2Proof.Machine

/-! ### Rows and frames -/

/-- A record enters OPEN at its row 0 with the start time and the missed-trigger count (R135). -/
def openRecord (time : BitVec 48) (missed : Nat) (r : FrameRecord) : FrameRecord :=
  { r with phase := .opened, startTime := some time, missed := missed }

/-- The stream controller's own part of the beginning of row 0 (R10, R5). -/
def beginStream (t : Stream) (f : SlotFrame) : Stream :=
  { t with state := .running, current := some f, setUp := none, rowIndex := 0, rowTimer := 0,
           maintenance := none, frameMark := true, missed := 0 }

/-- A maintenance window closed now is cut short: it opened less than 400 ticks ago (R74; log 24). -/
def cutsShort (t : Stream) : Bool :=
  match t.maintenance with
  | some age => decide (age < maintenancePeriod)
  | none => false

/-- The frame's record and the row coder at the beginning of its row 0 (R110, R135). -/
def openFrame (s : State) (f : SlotFrame) : State :=
  match f with
  | .buffered _ ref _ =>
    let opened := updateRecord s ref (openRecord s.stream.timeCounter s.stream.missed)
    { opened with coder := openCoder opened.coder ref }
  | .dropped .. => s

/-- The beginning of row 0 of the frame in the set-up frame slot (R10). -/
def beginRow0 (s : State) : State :=
  match s.stream.setUp with
  | none => s
  | some f =>
    let opened := openFrame s f
    rowStrobe { opened with stream := beginStream opened.stream f } 0 (cutsShort s.stream)

/-- The setup row is row frame_rows − 4 (R3). -/
def isSetupRow (p : Profile) (index : Nat) : Bool := index + 4 == p.frameRows

/-- The beginning of a row after row 0: its strobe, and frame setup at the setup row in RUNNING (R1, R3;
log 19). -/
def beginRow (s : State) (f : SlotFrame) (index : Nat) : State :=
  let strobed := rowStrobe
    { s with stream := { s.stream with rowIndex := index, rowTimer := 0, frameMark := false } } index false
  if isSetupRow f.bound index && s.stream.state == .running then frameSetup strobed else strobed

/-- Rows cease: the mark is low and the maintenance timer starts at 0 (R2, R4, R5). -/
def ceaseRows (t : Stream) (state : StreamState) : Stream :=
  { t with state := state, frameMark := false, maintenance := some 0 }

/-- The stream becomes STOPPED at the frame end in DRAINING; the pending STOP END completes (R2, R12,
R15; log 8 for its detail and aux). -/
def endRun (s : State) : State :=
  useFree (completeWork
    { s with stream := { ceaseRows s.stream .stopped with missed := 0 } } .stopEnd (freeAnswer s .ok))

/-- The frame end (R2). A drop report that halts the device ends it (R170, R18; log 21). -/
def frameEnd (s : State) (f : SlotFrame) : State :=
  let released := reportDropped { s with stream := { s.stream with current := none } } f
  if isEnabled released then
    match s.stream.state, s.stream.mode with
    | .running, .free => beginRow0 released
    | .running, .triggered => { released with stream := ceaseRows released.stream .waiting }
    | .draining, _ => endRun released
    | _, _ => released
  else released

/-- The current row has lasted row_period ticks (R1). -/
def rowDue (s : State) : Option SlotFrame :=
  match s.stream.current with
  | some f =>
    if isEnabled s && rowsRun s && decide (f.bound.rowPeriod ≤ s.stream.rowTimer) then some f else none
  | none => none

/-- ROW_END (R1, R2, R3). -/
def execRowEnd (s : State) : Result :=
  match rowDue s with
  | none => .next s
  | some f =>
    if s.stream.rowIndex + 1 < f.bound.frameRows then .next (beginRow s f (s.stream.rowIndex + 1))
    else .next (frameEnd s f)

/-- TRIGGER_EDGE (R11, R12). -/
def execTriggerEdge (s : State) : Result :=
  match s.stream.state, s.stream.mode with
  | .waiting, _ => .next (beginRow0 s)
  | .running, .triggered =>
    .next { s with stream := { s.stream with missed := min 255 (s.stream.missed + 1) } }
  | _, _ => .next s

/-! ### START -/

/-- The start mode of a mode byte (TABLE 11-6). -/
def startModeOf (mode : Nat) : StartMode := if mode = 1 then .triggered else .free

/-- The run's first frame is set up, and its row 0 begins in FREE mode (R13, R69). -/
def startRun (s : State) (mode : StartMode) : State :=
  let ready := frameSetup
    { s with stream := { s.stream with mode := mode }, schedule := restartPosition s.schedule }
  let begun :=
    match mode with
    | .free => beginRow0 ready
    | .triggered => { ready with stream := { ready.stream with state := .waiting } }
  { begun with buffers := { begun.buffers with paused := false } }

/-- The owner's part of START (R13; log 8 for detail and aux, log 35 for the pending RECLAIM). The free values of
an accepted START are taken after the run has begun, so that a PORT_ALIGN which ends at its row 0 has others. -/
def startOwner (r : Record) (s : State) : State × Answer :=
  let mode := recordNat r 0x08 1
  if 1 < mode then (useFree s, freeAnswer s .badField)
  else if s.stream.state ≠ .stopped ∨ s.buffers.reclaim.isSome then (useFree s, freeAnswer s .busy)
  else
    let begun := startRun s (startModeOf mode)
    (useFree begun, freeAnswer begun .ok)

/-- START (R13). -/
def execStart (s : State) : Result := runImmediate s (ofKind kindStart) startOwner

/-! ### STOP -/

/-- A STOP END taken in WAITING: the set-up frame is cancelled and the state becomes STOPPED (R14, R17,
R12). -/
def stopWaiting (s : State) : State :=
  let cancelled := cancelSetUp s
  { cancelled with stream := { cancelled.stream with state := .stopped, missed := 0 } }

/-- A STOP END taken in RUNNING: DRAINING, and a set-up frame is cancelled at once (R14). -/
def beginDraining (s : State) : State :=
  let cancelled := cancelSetUp s
  { cancelled with stream := { cancelled.stream with state := .draining } }

/-- The owner's part of a STOP taken as an immediate request and not ABORT (R14; log 17 for a manner that
is neither END nor ABORT). -/
def stopEndImmediateOwner (r : Record) (s : State) : State × Answer :=
  if !stopMannerEnd r then (useFree s, freeAnswer s .badField)
  else
    match s.stream.state with
    | .waiting => (useFree (stopWaiting s), freeAnswer s .ok)
    | .draining => (useFree s, freeAnswer s .busy)
    | _ => (useFree s, freeAnswer s .ok)

/-- The owner's part of a STOP END taken as a long request, in RUNNING (R14). -/
def stopEndLongOwner (_r : Record) (s : State) : Taken :=
  { state := beginDraining s, work := .stopEnd, answer := none }

/-- STOP_END (R14, R153, R154): long in RUNNING, immediate otherwise, judged when its wait ends. -/
def execStopEnd (s : State) : Result :=
  match takeLong s (fun r => ofKind kindStop r && stopMannerEnd r) with
  | some _ => runLong s (fun r => ofKind kindStop r && stopMannerEnd r) stopEndLongOwner
  | none => runImmediate s (fun r => ofKind kindStop r && !stopMannerAbort r) stopEndImmediateOwner

/-- The record of an aborted current frame: OPEN goes to CLOSING with ABORTED (R138). -/
def abortRecord (s : State) (ref : Nat) : State :=
  if recordOpen s ref then endCapture (addDamage s ref damageAborted) ref else s

/-- The current frame at a STOP ABORT (R16, R138, R142). -/
def abortCurrent (s : State) : State :=
  match s.stream.current with
  | some (.buffered _ ref _) => abortRecord s ref
  | some (.dropped sequence _ _ reason) => dropReport s sequence reason
  | none => s

/-- In DRAINING the pending STOP END is marked complete before the ABORT's own effects (R16). -/
def completeStopEnd (s : State) : State :=
  if s.stream.state = .draining then
    useFree (completeWork s .stopEnd (freeAnswer s .ok))
  else s

/-- The effects of a STOP ABORT (R16). A drop report that halts the device ends it (log 21). -/
def abortRun (s : State) : State :=
  if s.stream.state = .stopped then s
  else
    let marked := completeStopEnd s
    let stopped := abortCurrent
      { marked with stream := { marked.stream with frameMark := false }, row := none }
    if isEnabled stopped then
      let cancelled := cancelSetUp { stopped with stream := { stopped.stream with current := none } }
      { cancelled with stream := { cancelled.stream with
          state := .stopped, missed := 0
          maintenance := if rowsRun s then some 0 else cancelled.stream.maintenance } }
    else stopped

/-- STOP_ABORT (R16): its REQUEST_DONE goes into the entry granted for its taking, ahead of a FRAME_DROPPED
that the taking gives rise to (log 20). -/
def execStopAbort (s : State) : Result :=
  match takeImmediate s (fun r => ofKind kindStop r && stopMannerAbort r) with
  | none => .next s
  | some (r, taken) => .next (abortRun (answerImmediate r (useFree taken) (freeAnswer taken .ok)))

end Sys2Proof.Machine
end

