-- ==== Sys2Proof/Machine/Clock.lean ====
section
/-! DEFINITION. What the block does with no command in its queue: the event of its own that is due, or one
tick of the 40 MHz clock (0.7; logs 2, 26, 36). -/

namespace Sys2Proof.Machine

/-- One tick of a port's strobe pulse (R73). -/
def tickPort (q : Port) : Port := { q with pulse := q.pulse - 1 }

/-- One tick of the stream controller: the time counter, the row timer while rows run, the maintenance
timer while it counts (R1, R4, R6). -/
def tickStream (t : Stream) : Stream :=
  { t with
    timeCounter := t.timeCounter + 1#48
    rowTimer :=
      if t.state = .running ∨ t.state = .draining then t.rowTimer + 1 else t.rowTimer
    maintenance := t.maintenance.map (· + 1) }

/-- The image of a slot being programmed is written at some tick between its use mark and its check (R104;
log 10). -/
def tickImage (t : TrimUnit) (k : Fin 8) (image : Record) (elapsed : Nat) : TrimUnit :=
  if Config.imageWriteTick ≤ elapsed then setSlot t k { t.slots[k] with image := some image } else t

/-- One tick of a programming; it has no effect after 2.5 ms (R104; log 36). -/
def tickProgram (t : TrimUnit) : TrimUnit :=
  match t.program with
  | .programming k image elapsed =>
    if elapsed < programDuration then
      tickImage { t with program := .programming k image (elapsed + 1) } k image (elapsed + 1)
    else t
  | _ => t

/-- One tick of a slot read (R107). -/
def tickLoad (t : TrimUnit) : TrimUnit :=
  match t.load with
  | .slotRead k elapsed => { t with load := .slotRead k (elapsed + 1) }
  | _ => t

/-- One tick (0.7). -/
def tick (s : State) : State :=
  { s with
    window := { s.window with
      initTicks := if s.window.device = .init then s.window.initTicks + 1 else s.window.initTicks }
    stream := tickStream s.stream
    ports := Vector.ofFn fun p : Fin 4 => tickPort s.ports[p]
    trim := tickLoad (tickProgram s.trim)
    completions := { s.completions with timer := s.completions.timer.map (· - 1) } }

/-- The slot read has taken its 20 µs (R107). -/
def slotReadDue (s : State) : Bool :=
  match s.trim.load with
  | .slotRead _ elapsed => decide (slotReadDuration ≤ elapsed)
  | _ => false

/-- A timed event that is due. -/
def dueTimed (s : State) : Option Instr :=
  if s.window.device = .init ∧ initDuration ≤ s.window.initTicks then some .endOfInit
  else if (rowDue s).isSome then some .rowEnd
  else if maintenanceDue s then some .maintenanceStrobe
  else if slotReadDue s then some .trimSlotReadDone
  else if s.completions.timer = some 0 then some .noticeTimerExpiry
  else none

/-- The command that takes a record (R151). -/
def takingCommand (r : Record) : Instr :=
  let k := requestKind r
  if !kindKnown k then .badKind
  else if requestFlags r != 0 then .badFlags
  else if k = kindStage then .stage
  else if k = kindStageSchedule then .stageSchedule
  else if k = kindCommit then .commit
  else if k = kindWithdraw then .withdraw
  else if k = kindStart then .start
  else if k = kindStop then (if stopMannerAbort r then .stopAbort else .stopEnd)
  else if k = kindSetChannel then .setChannel
  else if k = kindPortAlign then .portAlign
  else if k = kindTrimProgram then .trimProgram
  else if k = kindTrimLoad then .trimLoad
  else if k = kindReadOut then .readOut
  else .reclaim

/-- The command that a grant of the arbiter is (R168). -/
def grantCommand (s : State) : Waiter → Option Instr
  | .record _ => some .frameReportGrant
  | .group => some .commitLanded
  | .port _ => some .portEvent
  | .latch => some .rejectedReturn
  | .summary => some .dropSummaryGrant
  | .long i => if grantsReclaim s i then some .reclaimedReturn else some .longRequestDone
  | .immediate => s.requests.intake.head?.map takingCommand

/-- The taking of a long request that is due (R153). -/
def dueLong (s : State) : Option Instr :=
  (takeLong s fun _ => true).map fun x => takingCommand x.1

/-- The event of the device's own that is due: a grant, which is made whenever it can be (R168), then a timer that has
expired, then the taking of a long request. What waits on the AXI port or on the world outside is not among them (logs
2, 36, 37). -/
def dueCommand (s : State) : Option Instr :=
  match (grant s).bind (grantCommand s) with
  | some c => some c
  | none =>
    match dueTimed s with
    | some c => some c
    | none => dueLong s

end Sys2Proof.Machine
end

