-- ==== Sys2Proof/Machine/Dispatch.lean ====
section
/-! DEFINITION. One arm per command. -/

namespace Sys2Proof.Machine

def exec (i : Instr) (s : State) : Host.Outcome State Fault Refusal :=
  match i with
  | .powerOnReset straps => Sys2Proof.Machine.execPowerOnReset straps s
  | .reset => Sys2Proof.Machine.execReset s
  | .enable => Sys2Proof.Machine.execEnable s
  | .setupBlockReadDone a => Sys2Proof.Machine.execSetupBlockReadDone a s
  | .endOfInit => Sys2Proof.Machine.execEndOfInit s
  | .registerWrite offset size value => Sys2Proof.Machine.execRegisterWrite offset size value s
  | .rqTailWrite v => Sys2Proof.Machine.execRqTailWrite v s
  | .bfTailWrite v => Sys2Proof.Machine.execBfTailWrite v s
  | .cpHeadWrite v => Sys2Proof.Machine.execCpHeadWrite v s
  | .rowEnd => Sys2Proof.Machine.execRowEnd s
  | .maintenanceStrobe => Sys2Proof.Machine.execMaintenanceStrobe s
  | .triggerEdge => Sys2Proof.Machine.execTriggerEdge s
  | .replyReceived p own bits => Sys2Proof.Machine.execReplyReceived p own bits s
  | .requestFetchIssue => Sys2Proof.Machine.execRequestFetchIssue s
  | .requestFetchDone a => Sys2Proof.Machine.execRequestFetchDone a s
  | .badKind => Sys2Proof.Machine.execBadKind s
  | .badFlags => Sys2Proof.Machine.execBadFlags s
  | .stage => Sys2Proof.Machine.execStage s
  | .stageSchedule => Sys2Proof.Machine.execStageSchedule s
  | .commit => Sys2Proof.Machine.execCommit s
  | .withdraw => Sys2Proof.Machine.execWithdraw s
  | .start => Sys2Proof.Machine.execStart s
  | .stopEnd => Sys2Proof.Machine.execStopEnd s
  | .stopAbort => Sys2Proof.Machine.execStopAbort s
  | .setChannel => Sys2Proof.Machine.execSetChannel s
  | .portAlign => Sys2Proof.Machine.execPortAlign s
  | .trimProgram => Sys2Proof.Machine.execTrimProgram s
  | .trimImageReadDone a => Sys2Proof.Machine.execTrimImageReadDone a s
  | .trimProgramVerify image check => Sys2Proof.Machine.execTrimProgramVerify image check s
  | .trimLoad => Sys2Proof.Machine.execTrimLoad s
  | .trimSlotReadDone => Sys2Proof.Machine.execTrimSlotReadDone s
  | .trimHostReadDone a => Sys2Proof.Machine.execTrimHostReadDone a s
  | .readOut => Sys2Proof.Machine.execReadOut s
  | .imageWriteDone e rs => Sys2Proof.Machine.execImageWriteDone e rs s
  | .reclaim => Sys2Proof.Machine.execReclaim s
  | .descriptorFetchIssue => Sys2Proof.Machine.execDescriptorFetchIssue s
  | .descriptorFetchDone a => Sys2Proof.Machine.execDescriptorFetchDone a s
  | .payloadBurstIssue => Sys2Proof.Machine.execPayloadBurstIssue s
  | .payloadWriteDone b a => Sys2Proof.Machine.execPayloadWriteDone b a s
  | .headerWriteDone w a => Sys2Proof.Machine.execHeaderWriteDone w a s
  | .completionWriteIssue => Sys2Proof.Machine.execCompletionWriteIssue s
  | .completionWriteDone a => Sys2Proof.Machine.execCompletionWriteDone a s
  | .noticeTimerExpiry => Sys2Proof.Machine.execNoticeTimerExpiry s
  | .frameReportGrant => Sys2Proof.Machine.execFrameReportGrant s
  | .commitLanded => Sys2Proof.Machine.execCommitLanded s
  | .portEvent => Sys2Proof.Machine.execPortEvent s
  | .rejectedReturn => Sys2Proof.Machine.execRejectedReturn s
  | .dropSummaryGrant => Sys2Proof.Machine.execDropSummaryGrant s
  | .reclaimedReturn => Sys2Proof.Machine.execReclaimedReturn s
  | .longRequestDone => Sys2Proof.Machine.execLongRequestDone s

end Sys2Proof.Machine
end

