-- ==== Sys2Proof/Safety.lean ====
section
/-! DEFINITION. The invariants of the machine, in the terms of the spec's rules, and the situations that the
statements speak of. -/

namespace Sys2Proof.Safety

open Sys2Proof.Machine

/-! ### Capacities -/

/-- No list, queue or store holds more than its rule allows (R40, R118, R127, R128, R149, R153, R165). A read
in flight has room for what it brings (R129, R149). -/
abbrev CapacityInv (s : State) : Prop :=
  s.completions.holding.length ≤ 8 ∧ s.commits.length ≤ 4 ∧ s.records.length ≤ 4 ∧
    s.buffers.list.length ≤ 4 ∧ (s.buffers.fetch.isSome = true → s.buffers.list.length < 4) ∧
    s.requests.intake.length ≤ 4 ∧ (s.requests.fetch.isSome = true → s.requests.intake.length < 4) ∧
    s.requests.entries.length ≤ 4 ∧ storeHeld s.coder ≤ 8192

/-! ### Profiles -/

/-- Every field within its range in TABLE 2-1 (R21). -/
abbrev WithinLimits (p : Profile) : Prop :=
  (40 ≤ p.rowPeriod ∧ p.rowPeriod ≤ 65535) ∧ (16 ≤ p.frameRows ∧ p.frameRows ≤ 65535) ∧
    p.rowFirst ≤ 65535 ∧ p.rowLast ≤ 65535 ∧ (1 ≤ p.rowStep ∧ p.rowStep ≤ 64) ∧ p.channelMask ≠ 0

/-- The number of channels of a mask (TABLE 2-3). -/
abbrev channelsIn (mask : BitVec 16) : Nat := (allChannels.filter fun c => mask.getLsbD c.val).length

/-- C1 to C4 of TABLE 2-3, for a number of fitted ports. -/
abbrev CrossChecked (fittedPorts : Nat) (p : Profile) : Prop :=
  p.rowFirst ≤ p.rowLast ∧ p.rowLast + 5 ≤ p.frameRows ∧
    (∀ c : Fin 16, p.channelMask.getLsbD c.val = true → c.val / 4 < fittedPorts) ∧
    (40 ≤ p.rowPeriod ∧ 24 + 4 * channelsIn p.channelMask ≤ p.rowPeriod)

/-- A copy that a frame may be laid out by: within the limits, and meeting C1 to C4 (2.5). -/
abbrev Sound (s : State) (p : Profile) : Prop := WithinLimits p ∧ CrossChecked (fitted s) p

/-- The bound copies that frames hold outside the frame record table: those of the two slots and of the row
in progress. -/
abbrev slotFrames (s : State) : List SlotFrame :=
  s.stream.current.toList ++ s.stream.setUp.toList ++
    (match s.row with
     | some r => r.frame.toList
     | none => [])

/-- Every staged copy lies within the limits; every pending, active and bound copy meets C1 to C4 too (R21,
2.5). -/
abbrev ProfileInv (s : State) : Prop :=
  (∀ p : Fin 4, WithinLimits s.profiles[p].staged ∧ (∀ c ∈ s.profiles[p].pend, Sound s c) ∧
      Sound s s.profiles[p].active) ∧
    (∀ f ∈ slotFrames s, Sound s f.bound) ∧ (∀ r ∈ s.records, Sound s r.bound)

/-! ### The stream controller -/

/-- The slots, the frame mark and the maintenance timer in each stream state (TABLE 1-2, R3, R4, R5). -/
abbrev StreamShape (t : Stream) : Prop :=
  (t.state = .stopped → t.current = none ∧ t.setUp = none ∧ t.missed = 0 ∧ t.frameMark = false) ∧
    (t.state = .waiting → t.current = none ∧ t.setUp.isSome = true ∧ t.mode = .triggered ∧
      t.maintenance.isSome = true ∧ t.frameMark = false) ∧
    (t.state = .running ∨ t.state = .draining → t.current.isSome = true ∧ t.maintenance = none ∧
      (t.frameMark = true ↔ t.rowIndex = 0) ∧
      ∀ f ∈ t.current, t.rowIndex < f.bound.frameRows ∧ t.rowTimer ≤ f.bound.rowPeriod ∧
        (t.state = .running → (t.setUp.isSome = true ↔ f.bound.frameRows ≤ t.rowIndex + 4))) ∧
    (t.state = .draining → t.setUp = none)

/-- Where the next frame sequence number stands (R7). -/
abbrev SequenceShape (t : Stream) : Prop :=
  (∀ f ∈ t.setUp, t.next = f.sequence + 1#32) ∧
    (t.setUp = none → ∀ f ∈ t.current, t.next = f.sequence + 1#32) ∧
    (∀ g ∈ t.setUp, ∀ f ∈ t.current, g.sequence = f.sequence + 1#32)

/-- The stream controller's invariant: TABLE 1-2, R7, and the timers (R4, R12). Outside ENABLED the stream is
STOPPED (R11); the maintenance timer is stopped during INIT and counts whenever no rows run otherwise. -/
abbrev StreamInv (s : State) : Prop :=
  StreamShape s.stream ∧ SequenceShape s.stream ∧ s.stream.missed ≤ 255 ∧
    (s.window.device ≠ .enabled → s.stream.state = .stopped) ∧
    (s.window.device = .init → s.stream.maintenance = none) ∧
    (s.window.device ≠ .init → rowsRun s = false → s.stream.maintenance.isSome = true) ∧
    (∀ m ∈ s.stream.maintenance, m ≤ 400)

/-! ### Commit groups -/

/-- The number of PENDING groups that name a profile. -/
abbrev pendingNaming (s : State) (p : Fin 4) : Nat :=
  s.commits.countP fun g => g.state == .pending && g.profileSet.getLsbD p.val

/-- The number of PENDING groups that carry the schedule. -/
abbrev pendingCarrying (s : State) : Nat :=
  s.commits.countP fun g => g.state == .pending && g.scheduleFlag

/-- The distance of a group's landing frame from next (R40). -/
abbrev distance (s : State) (g : CommitGroup) : Nat := (g.landingFrame - s.stream.next).toNat

/-- The order of the commit list: after a PENDING group stand PENDING groups only, none nearer than it (R40). -/
abbrev InLandingOrder (s : State) (g h : CommitGroup) : Prop :=
  g.state = .pending → h.state = .pending ∧ distance s g ≤ distance s h

/-- The commit unit's invariant (R23, R39, R40, R41, R44). A PENDING group is at most 2³¹ − 1 frames ahead while a
frame is set up, and at most 2³¹ once a cancellation may have set next back (R46, R57). -/
abbrev CommitInv (s : State) : Prop :=
  (s.commits.map CommitGroup.tag).Nodup ∧
    (∀ g ∈ s.commits, (g.profileSet ≠ 0 ∨ g.scheduleFlag = true) ∧
      (g.state = .pending → g.landedFrame = none) ∧
      (g.state = .landedUnreported → g.landedFrame = some g.landingFrame)) ∧
    s.commits.Pairwise (InLandingOrder s) ∧
    (∀ g ∈ s.commits, g.state = .pending →
      distance s g + (if s.stream.setUp.isSome then 1 else 0) ≤ 2147483648) ∧
    (∀ p : Fin 4, pendingNaming s p = if s.profiles[p].pend.isSome then 1 else 0) ∧
    pendingCarrying s = if s.schedule.pend.isSome then 1 else 0

/-! ### The schedule -/

/-- A schedule of 1 to 8 entries with repeats of 1 to 255 (R60). -/
abbrev ScheduleSound (entries : List ScheduleEntry) : Prop :=
  1 ≤ entries.length ∧ entries.length ≤ 8 ∧ ∀ e ∈ entries, 1 ≤ e.repeats ∧ e.repeats ≤ 255

/-- The position points at an entry of the active schedule, with 1 to its repeat remaining (R67). -/
abbrev PositionSound (u : ScheduleUnit) : Prop :=
  ∃ e ∈ u.active[u.entry]?, 1 ≤ u.remaining ∧ u.remaining ≤ e.repeats

/-- The schedule unit's invariant (R60, R67). -/
abbrev ScheduleInv (s : State) : Prop :=
  ScheduleSound s.schedule.staged ∧ (∀ e ∈ s.schedule.pend, ScheduleSound e) ∧
    ScheduleSound s.schedule.active ∧ PositionSound s.schedule

/-! ### Converter ports and sources -/

/-- A port record's counts are within TABLE 5-4, and clear in the states that do not use them (R76, R77, R80). -/
abbrev PortShape (q : Port) : Prop :=
  q.consecutiveBad < 8 ∧ q.goodAlign < 8 ∧ q.alignSpent ≤ 512 ∧ q.changeCount ≤ 255 ∧ q.pulse ≤ 6 ∧
    (q.state ≠ .up → q.consecutiveBad = 0) ∧
    (q.state ≠ .aligning → q.goodAlign = 0 ∧ q.alignSpent = 0)

/-- The reply to a 512th alignment request is still awaited (R77). -/
abbrev LastRequestOpen (q : Port) : Prop :=
  q.state = .aligning → q.alignSpent = 512 → ∃ w ∈ q.window, w.alignment = true ∧ w.answered = false

/-- The open reply window of a maintenance strobe (R73). -/
def maintenanceWindow : ReplyWindow := { atRow := false, alignment := false, answered := false }

/-- The ports' invariant (TABLE 5-4, R72, R73, R77): a port that is not fitted keeps the record of the reset, INIT has
no window open, and HALTED only the windows of its own maintenance strobes, no reply to which is taken (R94). -/
abbrev PortInv (s : State) : Prop :=
  ∀ p : Fin 4, PortShape s.ports[p] ∧ (s.window.device ≠ .halted → LastRequestOpen s.ports[p]) ∧
    (fitted s ≤ p.val → s.ports[p] = resetPort .off) ∧
    (s.window.device = .init → s.ports[p].window = none) ∧
    (s.window.device = .halted → ∀ w ∈ s.ports[p].window, w = maintenanceWindow)

/-- A value that no marker can be mistaken for: −32767 to 32767 (R87). -/
abbrev SampleValue (v : Int) : Prop := -32767 ≤ v ∧ v ≤ 32767

/-- The value of a test source. -/
def testValue : FixedSample → Option Int
  | .test v => some v
  | .converter _ => none

/-- The test sources' invariant (R84, R85, R87): constants and ramps lie in −32767 to 32767, a PRBS state is
never 0, and so no fixed sample of the row in progress is the marker. -/
abbrev SourceInv (s : State) : Prop :=
  (∀ c : Fin 16, SampleValue s.channels[c].constant ∧ SampleValue s.channels[c].ramp ∧
      s.channels[c].prbs ≠ 0) ∧
    ∀ r ∈ s.row, ∀ c : Fin 16, ∀ v ∈ testValue r.fixed[c], SampleValue v

/-! ### Frame records -/

/-- The window rows of a profile at or before a row. -/
abbrev windowRowsUpTo (p : Profile) (index : Nat) : Nat :=
  if index < p.rowFirst then 0 else min ((index - p.rowFirst) / p.rowStep + 1) (rowsPlanned p)

/-- One when the row in progress is a window row of the record's frame, not yet handed over. -/
abbrev awaited (s : State) (r : FrameRecord) : Nat :=
  match s.row with
  | some x => if isWindowRow r.bound x.index then 1 else 0
  | none => 0

/-- What a record holds in each phase (TABLE 8-3, R134 to R139). -/
abbrev RecordShape (r : FrameRecord) : Prop :=
  r.rowsPlanned = rowsPlanned r.bound ∧ r.rowsWritten + r.rowsLost ≤ r.rowsPlanned ∧
    descriptorValid r.descriptor = true ∧ 64 + r.payloadBytes ≤ r.descriptor.capacity.toNat ∧
    r.missed ≤ 255 ∧
    (r.phase = .setUp → r.rowsWritten = 0 ∧ r.rowsLost = 0 ∧ r.payloadBytes = 0 ∧ r.damage = 0 ∧
      r.disposition = none ∧ r.startTime = none) ∧
    (r.phase = .opened → r.disposition = none ∧ r.startTime.isSome = true) ∧
    (r.phase = .closing → r.disposition.isSome = true ∧ r.startTime.isSome = true) ∧
    (r.phase = .reportWait ↔ r.reportKind.isSome = true) ∧ (r.phase = .reportWait ↔ 0 < r.turn) ∧
    (r.reportKind = some .frameDone → r.disposition = some .deliver) ∧
    (r.reportKind = some .frameDiscarded → r.disposition = some .discard) ∧
    (r.reportKind = some .cancelled → r.rowsWritten = 0 ∧ r.rowsLost = 0 ∧ r.payloadBytes = 0 ∧
      r.damage = 0 ∧ r.disposition = none ∧ r.startTime = none)

/-- The records are distinct, at most one is in SET_UP and at most one in OPEN (R127). -/
abbrev RecordsDistinct (s : State) : Prop :=
  (s.records.map FrameRecord.ref).Nodup ∧ (∀ r ∈ s.records, r.ref < s.nextRef) ∧
    (s.records.countP fun r => r.phase == .setUp) ≤ 1 ∧
    (s.records.countP fun r => r.phase == .opened) ≤ 1

/-- No two waiting records have the same place in the order of entry into REPORT_WAIT (R139). -/
abbrev TurnsDistinct (s : State) : Prop :=
  ((s.records.filter fun r => r.phase == .reportWait).map FrameRecord.turn).Nodup

/-- The slot holds the record: its number, its reference and its bound copy (section 1.1). -/
abbrev slotHolds (f : Option SlotFrame) (r : FrameRecord) : Prop :=
  f = some (.buffered r.sequence r.ref r.bound)

/-- The reference of the record of a buffered frame. -/
abbrev recordOf (f : SlotFrame) : Option Nat :=
  match f with
  | .buffered _ ref _ => some ref
  | .dropped .. => none

/-- A buffered frame of the set-up slot has a record in SET_UP (R8). -/
abbrev SetUpHasRecord (s : State) : Prop :=
  ∀ f ∈ s.stream.setUp, ∀ ref ∈ recordOf f, ∃ r ∈ s.records, r.ref = ref ∧ r.phase = .setUp

/-- While not HALTED, a SET_UP record stands in the set-up slot and an OPEN record in the current slot, with its
last window row not yet handed over (R127, R135, R137); the open frame of the row coder is the OPEN record (R110). -/
abbrev SlotsMatch (s : State) : Prop :=
  SetUpHasRecord s ∧
    (∀ r ∈ s.records, r.phase = .setUp → slotHolds s.stream.setUp r) ∧
    (∀ r ∈ s.records, r.phase = .opened →
      slotHolds s.stream.current r ∧ s.coder.openFrame = some r.ref ∧
        s.coder.cursor = 64 + r.payloadBytes ∧
        (s.stream.rowIndex < lastWindowRow r.bound ∨
          s.stream.rowIndex = lastWindowRow r.bound ∧ s.row.isSome = true) ∧
        r.rowsWritten + r.rowsLost + awaited s r ≤ windowRowsUpTo r.bound s.stream.rowIndex) ∧
    (∀ ref ∈ s.coder.openFrame, ∃ r ∈ s.records, r.ref = ref ∧ r.phase = .opened)

/-- The row in progress awaits a port's verdict (R88), and is the running row or the last row of a frame that has
ended (R92). -/
abbrev RowMatches (s : State) : Prop :=
  ∀ r ∈ s.row, (∃ p : Fin 4, r.conditions[p] = .pending) ∧
    (rowsRun s = true → r.frame = s.stream.current ∧ r.index = s.stream.rowIndex) ∧
      (rowsRun s = false → r.frame.isSome = true ∧
        ∀ f ∈ r.frame, r.index + 1 = f.bound.frameRows)

/-- The frame record table's invariant (R117, R127, R134 to R139). -/
abbrev FrameInv (s : State) : Prop :=
  RecordsDistinct s ∧ TurnsDistinct s ∧ (∀ r ∈ s.records, RecordShape r) ∧
    (s.window.device ≠ .halted → SlotsMatch s) ∧ RowMatches s ∧
    (s.window.device = .halted → s.row = none)

/-! ### Payload -/

/-- Bytes stand in staging order: a frame's bytes at consecutive offsets, an earlier frame's before a later
one's (R118). -/
abbrev Consecutive (bytes : List StagedByte) : Prop :=
  ∀ x ∈ bytes.zip bytes.tail, x.1.ref < x.2.ref ∨ x.1.ref = x.2.ref ∧ x.2.offset = x.1.offset + 1

/-- The newest unissued byte belongs to a frame before the open one, or ends at the write cursor (R118). -/
abbrev EndsAtCursor (c : Coder) : Prop :=
  ∀ ref ∈ c.openFrame, ∀ b ∈ c.unissued.getLast?, b.ref < ref ∨ b.ref = ref ∧ b.offset + 1 = c.cursor

/-- A record that may still have payload bytes: OPEN or CLOSING. -/
abbrev Capturing (r : FrameRecord) : Prop := r.phase = .opened ∨ r.phase = .closing

/-- A staged byte lies in the payload area of its frame's buffer (R119, R139). -/
abbrev ByteInside (s : State) (b : StagedByte) : Prop :=
  ∃ r ∈ s.records, r.ref = b.ref ∧ Capturing r ∧ 64 ≤ b.offset ∧ b.offset < 64 + r.payloadBytes

/-- A burst lies in the payload area of its frame's buffer and crosses no multiple of 256 (R120, R139). -/
abbrev BurstInside (s : State) (b : PayloadBurst) : Prop :=
  ∃ r ∈ s.records, r.ref = b.ref ∧ Capturing r ∧ 64 ≤ b.offset ∧
    b.offset + b.data.length ≤ 64 + r.payloadBytes ∧
    b.address = r.descriptor.address + BitVec.ofNat 64 b.offset ∧
    0 < b.data.length ∧ b.address.toNat % 256 + b.data.length ≤ 256

/-- A header write is the one write of a delivered frame whose payload has drained (R122, R123). -/
abbrev HeaderAlone (s : State) (w : HeaderWrite) : Prop :=
  (∃ r ∈ s.records, r.ref = w.ref ∧ r.phase = .closing ∧ r.disposition = some .deliver ∧
      w.address = r.descriptor.address ∧ w.data.length = 64) ∧
    (∀ b ∈ s.coder.unissued, b.ref ≠ w.ref) ∧ (∀ b ∈ s.coder.bursts, b.ref ≠ w.ref)

/-- A CLOSING record still awaits something: a byte to be issued, a burst's answer or its header's (R122, R139). -/
abbrev ClosingAwaits (s : State) (r : FrameRecord) : Prop :=
  (∃ b ∈ s.coder.unissued, b.ref = r.ref) ∨ (∃ b ∈ s.coder.bursts, b.ref = r.ref) ∨
    ∃ w ∈ s.coder.headers, w.ref = r.ref

/-- The payload writer's invariant (R118 to R123, R139): no payload byte outside offsets 64 to capacity − 1, and no
write for a record that waits for its report. -/
abbrev PayloadInv (s : State) : Prop :=
  Consecutive s.coder.unissued ∧ EndsAtCursor s.coder ∧
    (∀ b ∈ s.coder.unissued, ByteInside s b) ∧ (∀ b ∈ s.coder.bursts, BurstInside s b) ∧
    (∀ w ∈ s.coder.headers, HeaderAlone s w) ∧ (s.coder.headers.map HeaderWrite.ref).Nodup ∧
    (∀ r ∈ s.records, r.phase = .closing → ClosingAwaits s r)

/-! ### Trim -/

/-- The order in which a slot's fields are written: nothing before the use mark (R99, R104). -/
abbrev SlotShape (k : TrimSlot) : Prop :=
  k.useMark = false → k.image = none ∧ k.check = none ∧ k.voidMark = false

/-- The chosen slot of a TRIM_PROGRAM whose use mark is not yet written (R102). -/
def chosenSlot : TrimProgramming → Option (Fin 8)
  | .reading k _ => some k
  | .held k _ => some k
  | _ => none

/-- The slot being programmed, from its use mark to its verify (R104). -/
def burningSlot : TrimProgramming → Option (Fin 8)
  | .programming k _ _ => some k
  | _ => none

/-- The image that the slot being programmed is to hold (R104). -/
def burningImage : TrimProgramming → Option Record
  | .programming _ image _ => some image
  | _ => none

/-- The use mark waits for a slot read in progress (R107). -/
def useMarkWaits : TrimProgramming → Bool
  | .held .. => true
  | _ => false

/-- The slot of a TRIM_LOAD in progress (R107). -/
def loadedSlot : TrimLoading → Option (Fin 8)
  | .waiting k => some k
  | .slotRead k _ => some k
  | _ => none

/-- The slot read waits for a programming in progress (R107). -/
def loadWaits : TrimLoading → Bool
  | .waiting _ => true
  | _ => false

/-- What a TRIM_PROGRAM in progress says of its slot (R102, R104): untouched until its use mark, then without a
check until its verify. A slot is never read while one is programmed (R107). -/
abbrev ProgramShape (t : TrimUnit) : Prop :=
  (∀ k ∈ chosenSlot t.program, t.slots[k] = blankSlot ∧ t.slotStates[k] = .blank) ∧
    (useMarkWaits t.program = true → slotReadRuns t = true) ∧
    ∀ k ∈ burningSlot t.program,
      t.slots[k].useMark = true ∧ t.slots[k].check = none ∧ t.slots[k].voidMark = false ∧
        (t.slots[k].image = none ∨ t.slots[k].image = burningImage t.program) ∧
        t.slotStates[k] = .defective ∧ slotReadRuns t = false

/-- A TRIM_LOAD from a slot reads a PROGRAMMED slot; its read waits only for a programming (R106, R107). -/
abbrev LoadShape (t : TrimUnit) : Prop :=
  (∀ k ∈ loadedSlot t.load, t.slotStates[k] = .programmed) ∧
    (loadWaits t.load = true → programmingRuns t = true)

/-- The trim unit's invariant: after the scan the slot-state table agrees with R100, and an operation is in
progress only while ENABLED (R100, R105, R107). -/
abbrev TrimInv (s : State) : Prop :=
  (∀ k : Fin 8, SlotShape s.trim.slots[k]) ∧
    (s.window.device ≠ .init → s.window.device ≠ .halted →
      ∀ k : Fin 8, s.trim.slotStates[k] = classifySlot s.trim.slots[k]) ∧
    ProgramShape s.trim ∧ LoadShape s.trim ∧
    (s.window.device ≠ .enabled → s.trim.program = .idle ∧ s.trim.load = .idle)

/-- A one-time field stays as it is once written (R99). -/
abbrev KeptOnce {α : Type} (before after : Option α) : Prop := before = none ∨ after = before

/-- No written field of a slot is cleared or changed (R99). -/
abbrev SlotKept (before after : TrimSlot) : Prop :=
  (before.useMark = true → after.useMark = true) ∧ KeptOnce before.image after.image ∧
    KeptOnce before.check after.check ∧ (before.voidMark = true → after.voidMark = true)

/-! ### The pending request list -/

/-- The unanswered entries whose work is w. -/
abbrev underWay (s : State) (w : LongWork) : Nat :=
  s.requests.entries.countP fun e => e.work == w && e.answer.isNone

/-- One entry stands for each long operation in progress, and none otherwise (R78, R102, R106, R143, R153). -/
abbrev EntriesInv (s : State) : Prop :=
  (s.window.device ≠ .halted →
    underWay s .stopEnd = (if s.stream.state = .draining then 1 else 0) ∧
      (∀ p : Fin 4, underWay s (.align p) = if s.ports[p].state = .aligning then 1 else 0) ∧
      underWay s .trimProgram = (if s.trim.program = .idle then 0 else 1) ∧
      underWay s .trimLoad = (if s.trim.load = .idle then 0 else 1) ∧
      underWay s .reclaim = if s.buffers.reclaim = none then 0 else 1) ∧
    ∀ e ∈ s.requests.entries, e.work = .refused → e.answer.isSome = true

/-! ### The rings -/

/-- A power of two from 16 to 4096 (R178). -/
abbrev RingSize (n : Nat) : Prop := ∃ k : Fin 9, n = 16 * 2 ^ k.val

/-- The request ring: the records from the head to the fetch index are those in the intake and in flight, and
they stay posted (R149, R180). -/
abbrev RequestRing (s : State) : Prop :=
  let n := requestSize s
  RingSize n ∧ s.requests.head < n ∧ s.requests.fetchIndex < n ∧ s.window.rqTail.toNat < n ∧
    ringDist n s.requests.fetchIndex s.requests.head =
      s.requests.intake.length + (if s.requests.fetch.isSome then 1 else 0) ∧
    ringDist n s.requests.fetchIndex s.requests.head ≤ ringDist n s.window.rqTail.toNat s.requests.head

/-- The buffer ring: a reclaim's target is reached before the tail (R143, R180), and the list holds invalid
descriptors only under RECLAIM (R128). -/
abbrev BufferRing (s : State) : Prop :=
  let n := bufferSize s
  RingSize n ∧ s.buffers.ringHead < n ∧ s.window.bfTail.toNat < n ∧
    (∀ r ∈ s.buffers.reclaim, s.stream.state = .stopped ∧ s.buffers.paused = true ∧ r.target < n ∧
      ringDist n r.target s.buffers.ringHead ≤ ringDist n s.window.bfTail.toNat s.buffers.ringHead ∧
      reclaimDone s r = false) ∧
    (s.buffers.reclaim = none →
      (∀ d ∈ s.buffers.list, descriptorValid d = true) ∧
        ∀ f ∈ s.buffers.fetch, f.forReclaim = false) ∧
    (∀ d ∈ s.buffers.latch, descriptorValid d = false ∧
      ∀ f ∈ s.buffers.fetch, f.forReclaim = true)

/-- The completion ring: a ring write in flight carries the queue's head and has found room (R166). -/
abbrev CompletionRing (s : State) : Prop :=
  let n := completionSize s
  RingSize n ∧ s.completions.tail < n ∧ s.window.cpHead.toNat < n ∧ s.window.setup.threshold < n ∧
    s.window.setup.holdoff ≤ 65535 ∧
    ∀ w ∈ s.completions.write, s.completions.holding ≠ [] ∧ postedCount s < n - 1 ∧
      w.data.length = 32

/-- Before the device is ENABLED nothing is queued, fetched, captured or reported (R163, R177). -/
abbrev NothingHeld (s : State) : Prop :=
  s.commits = [] ∧ s.row = none ∧ s.coder = resetCoder ∧ s.records = [] ∧ s.buffers = resetBuffers ∧
    s.requests = resetRequests ∧ s.completions = resetCompletions ∧ s.profiles = resetProfiles ∧
    s.schedule = resetSchedule ∧ s.channels = Vector.replicate 16 resetChannel ∧
    (∀ p : Fin 4, s.ports[p].state ≠ .aligning) ∧ s.window.rqTail = 0 ∧ s.window.bfTail = 0 ∧
    s.window.cpHead = 0

/-- The ring indices' invariant (R149, R166, R177, R180). -/
abbrev RingInv (s : State) : Prop :=
  (s.window.device = .enabled → RequestRing s ∧ BufferRing s ∧ CompletionRing s) ∧
    (s.window.device = .init ∨ s.window.device = .disabled ∨ s.window.device = .setup → NothingHeld s) ∧
    (s.window.setupRead.isSome = true ↔ s.window.device = .setup)

/-! ### Device state, cause and notice line -/

/-- The causes of a fatal fault (R181). -/
abbrev FatalCause (c : Cause) : Prop :=
  c = .badIndex ∨ c = .bufferReadError ∨ c = .requestReadError ∨ c = .completionWriteError ∨
    c = .dropOverflow

/-- The causes of a failed enable (R178). -/
abbrev SetupCause (c : Cause) : Prop := c = .setupReadError ∨ c = .setupInvalid

/-- The cause in each device state (R176, R178, R181). -/
abbrev CauseInv (s : State) : Prop :=
  (s.window.device = .halted → FatalCause s.window.cause) ∧
    (s.window.device = .disabled →
      s.window.cause = .none ∧ s.window.detail = 0 ∨ SetupCause s.window.cause) ∧
    (s.window.device = .init ∨ s.window.device = .setup ∨ s.window.device = .enabled →
      s.window.cause = .none ∧ s.window.detail = 0)

/-- The notice line and its timer (R172, R173, R174): while ENABLED a low line means fewer completions posted than
the threshold, the timer runs only with the line low and a completion unread, and with a holdoff it does run then;
in HALTED the line is high. -/
abbrev NoticeInv (s : State) : Prop :=
  (s.window.device = .enabled →
      (s.completions.notice = false → postedCount s < max 1 s.window.setup.threshold) ∧
      (∀ t ∈ s.completions.timer, s.completions.notice = false ∧ 1 ≤ postedCount s ∧
        t ≤ 40 * s.window.setup.holdoff) ∧
      (s.completions.notice = false → 1 ≤ postedCount s → s.window.setup.holdoff ≠ 0 →
        s.completions.timer.isSome = true)) ∧
    (s.window.device = .halted → s.completions.notice = true ∧ s.completions.timer = none)

/-! ### All of them -/

/-- The machine's invariant: what every step keeps. -/
abbrev Inv (s : State) : Prop :=
  CapacityInv s ∧ ProfileInv s ∧ StreamInv s ∧ CommitInv s ∧ ScheduleInv s ∧ PortInv s ∧ SourceInv s ∧
    FrameInv s ∧ PayloadInv s ∧ TrimInv s ∧ EntriesInv s ∧ RingInv s ∧ CauseInv s ∧ NoticeInv s

/-! ### Situations of the statements -/

/-- A grant can be made: the device is ENABLED and a holding entry is free (R168, R169). -/
abbrev GrantPossible (s : State) : Prop :=
  s.window.device = .enabled ∧ s.completions.holding.length < 8

/-- A port has nothing to report (R81). -/
abbrev PortQuiet (q : Port) : Prop := q.state = q.lastReported ∧ q.changeCount = 0

/-- No producer of the orders 1 to 5 of TABLE 10-3 waits. -/
abbrev ProducersQuiet (s : State) : Prop :=
  (∀ r ∈ s.records, r.phase ≠ .reportWait) ∧ (∀ g ∈ s.commits, g.state ≠ .landedUnreported) ∧
    (∀ p : Fin 4, PortQuiet s.ports[p]) ∧ s.buffers.latch = none ∧ s.completions.summary = none

/-- A pending-list entry does not wait for a grant: it is not ready, and it is no RECLAIM in progress with a
descriptor to return (R144, R157). -/
abbrev EntryQuiet (s : State) (e : PendingEntry) : Prop :=
  e.answer = none ∧ (e.work = .reclaim → s.buffers.reclaim = none ∨ s.buffers.list = [])

/-- The record r is the intake's head, and the arbiter has a free entry for it and no other waiter (R152, R168). -/
abbrev ImmediateTurn (s : State) (r : Record) (rest : List Record) : Prop :=
  GrantPossible s ∧ ProducersQuiet s ∧ (∀ e ∈ s.requests.entries, EntryQuiet s e) ∧
    s.requests.intake = r :: rest

/-- The record r is the intake's head, and a pending-list entry is free for it (R153). -/
abbrev LongTurn (s : State) (r : Record) (rest : List Record) : Prop :=
  s.window.device = .enabled ∧ s.requests.entries.length < 4 ∧ s.requests.intake = r :: rest

/-- A record of kind code k with zero flags (TABLE 11-5, TABLE 11-12). -/
abbrev HasKind (r : Record) (k : Nat) : Prop := recordNat r 0x00 1 = k ∧ recordNat r 0x01 1 = 0

/-- The request ring head after a taking (R151). -/
def headAfter (s : State) : Nat :=
  if s.requests.head + 1 < requestSize s then s.requests.head + 1 else 0

/-- The machine s once the record r has been taken and answered in the instant of its grant (R151, R152, R156). -/
def answered (s : State) (r : Record) (rest : List Record) (a : Answer) : State :=
  { s with
    requests := { s.requests with intake := rest, head := headAfter s }
    completions := { s.completions with holding := s.completions.holding ++
      [.requestDone (recordField r 0x02 2) (recordField r 0x00 1) a (headAfter s)] } }

/-- The machine s once the record r has been taken into the pending request list (R151, R153). -/
def listed (s : State) (r : Record) (rest : List Record) (work : LongWork) (a : Option Answer) : State :=
  { s with
    requests := { s.requests with
      intake := rest
      head := headAfter s
      entries := s.requests.entries ++
        [{ kind := recordField r 0x00 1, tag := recordField r 0x02 2, ringHead := headAfter s, work := work,
           answer := a }] } }

/-- The pending list with the unanswered entries of a work answered (R153). -/
def answeredWork (s : State) (w : LongWork) (a : Answer) : List PendingEntry :=
  s.requests.entries.map fun e => if e.work = w ∧ e.answer = none then { e with answer := some a } else e

/-- The machine s in HALTED, with what each block's rule does at the entry (R18, R73, R92, R105, R107, R174,
R181). -/
def haltedAt (s : State) (cause : Cause) (detail : BitVec 4) : State :=
  { s with
    window := { s.window with device := .halted, cause := cause, detail := detail }
    stream := { s.stream with
      state := .stopped, current := none, setUp := none, missed := 0, frameMark := false
      maintenance := if rowsRun s then some 0 else s.stream.maintenance }
    ports := Vector.ofFn fun p : Fin 4 => { s.ports[p] with window := none }
    row := none
    trim := { s.trim with program := .idle, load := .idle }
    completions := { s.completions with notice := true, timer := none } }

/-! ### Rows and frames in the statements -/

/-- The row of the current frame f has lasted its row_period ticks (R1). -/
abbrev RowEnds (s : State) (f : SlotFrame) : Prop :=
  s.window.device = .enabled ∧ (s.stream.state = .running ∨ s.stream.state = .draining) ∧
    s.stream.current = some f ∧ f.bound.rowPeriod ≤ s.stream.rowTimer

/-- A channel's generators after a row strobe (R84, R85). -/
abbrev GeneratorStepped (before after : Channel) : Prop :=
  after.source = before.source ∧ after.constant = before.constant ∧ after.trimApply = before.trimApply ∧
    after.ramp = (if before.source = .ramp then
      (if before.ramp = 32767 then -32767 else before.ramp + 1) else before.ramp) ∧
    after.prbs = if before.source = .prbs then
      BitVec.ofNat 15 (2 * before.prbs.toNat +
        (if before.prbs.getLsbD 14 = before.prbs.getLsbD 13 then 0 else 1)) else before.prbs

/-- A PENDING group due at the frame about to be set up (R50). -/
abbrev DueNext (s : State) (g : CommitGroup) : Prop :=
  g.state = .pending ∧ g.landingFrame = s.stream.next

/-- A due group after its landing (R50). -/
def landedGroup (s : State) (g : CommitGroup) : CommitGroup :=
  if DueNext s g then { g with state := .landedUnreported, landedFrame := some s.stream.next } else g

/-- The copies of a profile after the landings of a setup: the pending copy of a named one has moved into its
active copy (R25). -/
def landedCopies (s : State) (p : Fin 4) : ProfileCopies :=
  if ∃ g ∈ s.commits, DueNext s g ∧ g.profileSet.getLsbD p.val = true then
    { s.profiles[p] with active := s.profiles[p].pend.getD s.profiles[p].active, pend := none }
  else s.profiles[p]

/-- The repeat of an entry of a schedule. -/
def repeatAt (entries : List ScheduleEntry) (i : Nat) : Nat :=
  ((entries[i]?).map ScheduleEntry.repeats).getD 1

/-- The schedule unit u after the landings of a setup: a due group that carries the schedule has moved the
pending schedule into the active one, at its entry 0 (R66). -/
def landedSchedule (s : State) (u : ScheduleUnit) : ScheduleUnit :=
  if ∃ g ∈ s.commits, DueNext s g ∧ g.scheduleFlag = true then
    match u.pend with
    | some e => { u with active := e, pend := none, entry := 0, remaining := repeatAt e 0 }
    | none => u
  else u

/-- The position one frame further (R67). -/
def steppedSchedule (u : ScheduleUnit) : ScheduleUnit :=
  if u.remaining ≤ 1 then
    let e := if u.entry + 1 < u.active.length then u.entry + 1 else 0
    { u with entry := e, remaining := repeatAt u.active e }
  else { u with remaining := u.remaining - 1 }

/-- The profile that the position gives (R67). -/
def scheduledProfile (u : ScheduleUnit) : Fin 4 :=
  ((u.active[u.entry]?).map ScheduleEntry.profile).getD 0

/-- The frame that stage 4 makes of the next sequence number, profile p and its copy: dropped by the first
condition that holds, or bound to the head of the buffer list (R134). -/
def stageFour (s : State) (p : Fin 4) (copy : Profile) : SlotFrame :=
  if s.completions.summary.isSome then .dropped s.stream.next p copy .backlog
  else if 4 ≤ s.records.length then .dropped s.stream.next p copy .overrun
  else if s.buffers.list = [] then .dropped s.stream.next p copy .noBuffer
  else .buffered s.stream.next s.nextRef copy

/-- The frame is buffered. -/
def isBuffered (f : SlotFrame) : Bool := (recordOf f).isSome

/-- The frame g that a setup makes of s with schedule unit u (R8). -/
def frameOf (s : State) (u : ScheduleUnit) : SlotFrame :=
  let p := scheduledProfile (landedSchedule s u)
  stageFour s p (landedCopies s p).active

/-- The record that a setup makes of s with schedule unit u, when its frame is buffered (R134). -/
def recordsMade (s : State) (u : ScheduleUnit) : List FrameRecord :=
  let b := (frameOf s u).bound
  if isBuffered (frameOf s u) then
    s.buffers.list.head?.toList.map fun d =>
      { ref := s.nextRef, sequence := s.stream.next, profile := scheduledProfile (landedSchedule s u)
        bound := b, descriptor := d, phase := .setUp
        rowsPlanned := (b.rowLast - b.rowFirst) / b.rowStep + 1
        rowsWritten := 0, rowsLost := 0, payloadBytes := 0, damage := 0, disposition := none, missed := 0
        startTime := none, reportKind := none, turn := 0 }
  else []

/-- A frame setup has taken the machine from s, with schedule unit u, to t, but for the record it makes (R7, R8,
R50, R66, R67, R134). -/
abbrev FrameSetUp (s t : State) (u : ScheduleUnit) : Prop :=
  t.stream.next = s.stream.next + 1#32 ∧ t.commits = s.commits.map (landedGroup s) ∧
    (∀ p : Fin 4, t.profiles[p] = landedCopies s p) ∧
    t.schedule = steppedSchedule (landedSchedule s u) ∧
    t.buffers = { s.buffers with
      list := if isBuffered (frameOf s u) then s.buffers.list.tail else s.buffers.list
      paused := t.buffers.paused } ∧
    t.nextRef = (if isBuffered (frameOf s u) then s.nextRef + 1 else s.nextRef)

/-- The records after the cancellation of a set-up frame (R17, R141). -/
def cancelledRecords (s : State) (g : SlotFrame) : List FrameRecord :=
  s.records.map fun r =>
    if recordOf g = some r.ref then
      { r with phase := .reportWait, reportKind := some .cancelled, turn := nextTurn s.records }
    else r

/-- The stream after the cancellation of the frame in the set-up slot, if there is one (R17). -/
def cancelledStream (t : Stream) : Stream :=
  { t with next := ((t.setUp.map SlotFrame.sequence).getD t.next), setUp := none }

/-- The records after the cancellation of the frame in the set-up slot, if there is one (R17, R141). -/
def recordsAfterCancel (s : State) : List FrameRecord :=
  match s.stream.setUp with
  | some g => cancelledRecords s g
  | none => s.records

/-! ### Replies in the statements -/

/-- All six words pass the test of R74: word 0 is the sync word, and word 5 is the ones' complement of the sum of
words 0 to 4, so that the six words sum to 0xFFFF. -/
abbrev GoodReply (bits : BitVec 96) : Prop :=
  replyWord bits 0 = 0xE41B#16 ∧
    replyWord bits 0 + replyWord bits 1 + replyWord bits 2 + replyWord bits 3 + replyWord bits 4 +
      replyWord bits 5 = 0xFFFF#16

/-- A GOOD reply that carries the alignment pattern (R74). -/
abbrev CorrectReply (bits : BitVec 96) : Prop :=
  GoodReply bits ∧ replyWord bits 1 = 0xA5C3#16 ∧ replyWord bits 2 = 0xA5C3#16 ∧
    replyWord bits 3 = 0xA5C3#16 ∧ replyWord bits 4 = 0xA5C3#16

/-- A port record after a change of state (R80). -/
def changedPort (q : Port) (state : PortState) (cause : PortCause) : Port :=
  { q with
    state := state, lastCause := cause, consecutiveBad := 0, goodAlign := 0, alignSpent := 0
    changeCount := if q.changeCount < 255 then q.changeCount + 1 else 255 }

/-- An UP port after a verdict (R76). -/
def upAfter (q : Port) (good : Prop) [Decidable good] : Port :=
  if good then { q with consecutiveBad := 0 }
  else if q.consecutiveBad < 7 then { q with consecutiveBad := q.consecutiveBad + 1 }
  else changedPort q .lost .linkLost

/-- An ALIGNING port after a verdict (R77). -/
def aligningAfter (q : Port) (correct : Prop) [Decidable correct] : Port :=
  if correct ∧ 7 ≤ q.goodAlign then changedPort q .up .aligned
  else if 512 ≤ q.alignSpent then changedPort q .lost .alignFailed
  else { q with goodAlign := if correct then q.goodAlign + 1 else 0 }

/-- The condition that a complete reply to a row strobe decides (R76). -/
def conditionAfter (bits : BitVec 96) : Condition :=
  if GoodReply bits then
    .good (replyWord bits 1) (replyWord bits 2) (replyWord bits 3) (replyWord bits 4)
  else .bad

/-! ### Requests in the statements -/

/-- The range of a profile field (TABLE 2-1). -/
def fieldRange : Nat → Option (Nat × Nat)
  | 1 => some (40, 65535)
  | 2 => some (16, 65535)
  | 3 => some (0, 65535)
  | 4 => some (0, 65535)
  | 5 => some (1, 64)
  | 6 => some (1, 65535)
  | 7 => some (0, 2)
  | 8 => some (0, 1)
  | 9 => some (0, 1)
  | _ => none

/-- A STAGE pair that passes its checks: a profile field and a value within its range (R32). -/
abbrev PairOk (x : Nat × Nat) : Prop := ∃ l ∈ fieldRange x.1, l.1 ≤ x.2 ∧ x.2 ≤ l.2

/-- A STAGE_SCHEDULE entry that passes its checks (R63). -/
abbrev EntryOk (x : Nat × Nat) : Prop := x.1 < 4 ∧ 1 ≤ x.2 ∧ x.2 ≤ 255

/-- A COMMIT whose operands are well formed and whose group is not empty (R43). -/
abbrev CommitForm (c : CommitOperands) : Prop :=
  c.count ≤ 4 ∧ c.mode ≤ 1 ∧ c.flag ≤ 1 ∧ (∀ v ∈ c.list, v < 4) ∧ c.list.Nodup ∧
    (1 ≤ c.count ∨ c.flag = 1)

/-- No named profile has a pending copy, nor the schedule if it is carried (R45). -/
abbrev NothingPending (s : State) (c : CommitOperands) : Prop :=
  (∀ v ∈ c.list, s.profiles[profileOf v].pend = none) ∧ (c.flag = 1 → s.schedule.pend = none)

/-- An AT landing is not behind next (R46). -/
abbrev NotLate (s : State) (c : CommitOperands) : Prop :=
  c.mode = 1 → (c.frame - s.stream.next).toNat < 2 ^ 31

/-- A COMMIT that passes every check of TABLE 3-2. -/
abbrev CommitPasses (s : State) (c : CommitOperands) : Prop :=
  CommitForm c ∧ (∀ g ∈ s.commits, g.tag ≠ c.tag) ∧ s.commits.length < 4 ∧ NothingPending s c ∧
    NotLate s c ∧ ∀ v ∈ c.list, CrossChecked (fitted s) s.profiles[profileOf v].staged

/-- The number of the first constraint of TABLE 3-3 that a copy fails, 0 if it fails none. -/
def failedConstraint (fittedPorts : Nat) (p : Profile) : Nat :=
  if p.rowLast < p.rowFirst then 1
  else if p.frameRows < p.rowLast + 5 then 2
  else if ¬ ∀ c : Fin 16, p.channelMask.getLsbD c.val = true → c.val / 4 < fittedPorts then 3
  else if p.rowPeriod < 40 ∨ p.rowPeriod < 24 + 4 * channelsIn p.channelMask then 4
  else 0

/-- The record that a live edit damages, if any (R91): that of the buffered current frame, while it is OPEN, its
first window row strobed and its last not, if the edit affects a channel of its mask. -/
def editedRecord (s : State) (affects : Fin 16 → Bool) : Option Nat :=
  match s.stream.current with
  | some (.buffered _ ref b) =>
    if (∃ r ∈ s.records, r.ref = ref ∧ r.phase = .opened) ∧ rowsRun s = true ∧
        b.rowFirst ≤ s.stream.rowIndex ∧
        s.stream.rowIndex < b.rowFirst + (b.rowLast - b.rowFirst) / b.rowStep * b.rowStep ∧
        (∃ c : Fin 16, b.channelMask.getLsbD c.val = true ∧ affects c = true) then some ref
    else none
  | _ => none

/-- The records with a damage kind added to those of a reference (R136). -/
def damagedRecords (s : State) (ref : Option Nat) (damage : BitVec 8) : List FrameRecord :=
  s.records.map fun r => if ref = some r.ref then { r with damage := r.damage ||| damage } else r

/-- The 16-bit modular sum of the 32 halfwords of a trim image (R99). -/
def halfwordSum (image : Record) : Half :=
  BitVec.ofNat 16 ((List.range 32).map fun i => (recordNat image (2 * i) 2)).sum

/-- The trim table of an image (TABLE 11-11): offsets and gains in channel order. -/
def tableOf (image : Record) : TrimTable :=
  Vector.ofFn fun c : Fin 16 =>
    { offset := (recordField image (4 * c.val) 2).toInt, gain := recordNat image (4 * c.val + 2) 2 }

/-- The record is of a long request: PORT_ALIGN, TRIM_PROGRAM, TRIM_LOAD, READ_OUT, RECLAIM, or a STOP END in RUNNING
(R151). -/
abbrev LongRecord (s : State) (r : Record) : Prop :=
  recordNat r 0x01 1 = 0 ∧
    (8 ≤ recordNat r 0x00 1 ∧ recordNat r 0x00 1 ≤ 12 ∨
      recordNat r 0x00 1 = 6 ∧ recordNat r 0x08 1 = 0 ∧ s.stream.state = .running)

/-! ### Drop reports and hand-overs in the statements -/

/-- The difference a − b modulo n (0.7, Ring indices). -/
abbrev modDiff (n a b : Nat) : Int := ((a : Int) - b) % n

/-- The bit of a drop reason in a reason set (TABLE 11-14). -/
def reasonBit : DropReason → BitVec 8
  | .noBuffer => 1
  | .overrun => 2
  | .backlog => 4

/-- The producers that wait for a grant, one for each line of TABLE 10-3. -/
def waitingProducers (s : State) : Nat :=
  (s.records.filter fun r => r.phase = .reportWait).length +
    (s.commits.filter fun g => g.state = .landedUnreported).length +
    ((List.finRange 4).filter fun p => ¬ PortQuiet s.ports[p]).length +
    (if s.buffers.latch = none then 0 else 1) + (if s.completions.summary = none then 0 else 1) +
    (s.requests.entries.filter fun e => ¬ EntryQuiet s e).length +
    match s.requests.intake with
    | r :: _ => if LongRecord s r then 0 else 1
    | [] => 0

/-- The completion unit after the drop report of frame number q: a FRAME_DROPPED of its own while there is no summary
and a free entry is left beside those that the waiting producers are granted, and otherwise the summary with the frame
merged in (R142, R169, R170). -/
def dropReported (s : State) (q : Word) (reason : DropReason) : Completions :=
  let u := s.completions
  match u.summary with
  | none =>
    if u.holding.length + waitingProducers s < 8 then
      { u with holding := u.holding ++ [.frameDropped q q 1 (reasonBit reason)] }
    else { u with summary := some { first := q, last := q, count := 1, reasons := reasonBit reason } }
  | some d =>
    let merged := { d with last := q, count := d.count + 1, reasons := d.reasons ||| reasonBit reason }
    { u with summary := some merged }

/-- The completion unit after the release of a current frame: a dropped one is reported (R2). -/
def releasedCompletions (s : State) : SlotFrame → Completions
  | .buffered .. => s.completions
  | .dropped q _ _ reason => dropReported s q reason

/-- The release of a current frame would make the range of the drop summary reach 2³¹ (R170). -/
def releaseOverflows (s : State) : SlotFrame → Bool
  | .buffered .. => false
  | .dropped q _ _ _ =>
    match s.completions.summary with
    | some d => decide (2 ^ 31 ≤ (q - d.first).toNat)
    | none => false

/-- The row r with the condition of port p decided. -/
def decidedRow (r : IntakeRow) (p : Fin 4) (c : Condition) : IntakeRow :=
  { r with conditions := r.conditions.set p c }

/-- A port of condition c gives the marker to a converter channel of the mask in this row. -/
abbrev MarkedBy (r : IntakeRow) (mask : BitVec 16) (c : Condition) : Prop :=
  ∃ ch : Fin 16, mask.getLsbD ch.val = true ∧ fromConverter r ch = true ∧
    r.conditions[(⟨ch.val / 4, by omega⟩ : Fin 4)] = c

/-- The damage of a row's samples: LINK_ERROR for a marker from a BAD port, PORT_DOWN for one from a DOWN port
(R90). -/
def markedDamage (r : IntakeRow) (mask : BitVec 16) : BitVec 8 :=
  (if MarkedBy r mask .bad then 0x02#8 else 0#8) ||| if MarkedBy r mask .down then 0x04#8 else 0#8

/-- The row coder and the record after the hand-over of a window row, in the order of R111: refused after a capture
stop, TRUNCATED without room in the buffer, lost without room in the staging store, staged otherwise. -/
def captured (c : Coder) (r : FrameRecord) (h : Handover) : Coder × FrameRecord :=
  let n := (codeRow r.bound c.preds h).length
  if c.stop ≠ .none then (c, r)
  else if r.descriptor.capacity.toNat < c.cursor + n then
    ({ c with stop := .truncated }, { r with damage := r.damage ||| 0x08 })
  else if 8192 < storeHeld c + n then
    (c, { r with rowsLost := r.rowsLost + 1, damage := r.damage ||| 0x10 })
  else
    ({ c with
        cursor := c.cursor + n
        preds := Vector.ofFn fun ch : Fin 16 =>
          match h.samples.find? fun x => x.1 == ch with
          | some x => some x.2
          | none => c.preds[ch]
        unissued := c.unissued ++ (codeRow r.bound c.preds h).mapIdx fun i b =>
          { ref := r.ref, offset := c.cursor + i, value := b } },
      { r with rowsWritten := r.rowsWritten + 1, payloadBytes := r.payloadBytes + n })

/-- The records with the one of x's reference replaced by x. -/
def withRecord (s : State) (x : FrameRecord) : List FrameRecord :=
  s.records.map fun r => if r.ref = x.ref then x else r

/-- A reply on port p with its start bit in the open window w, still unanswered, is complete (R74), in a device state in
which replies are judged (R94). -/
abbrev ReplyTaken (s : State) (p : Fin 4) (w : ReplyWindow) : Prop :=
  s.window.device ≠ .halted ∧ p.val < s.window.straps.toNat + 1 ∧ s.ports[p].window = some w ∧ w.answered = false

/-- The window w with its reply taken. -/
def takenWindow (w : ReplyWindow) : Option ReplyWindow := some { w with answered := true }

/-- The condition of every port but p is decided in the row r. -/
abbrev OthersDecided (r : IntakeRow) (p : Fin 4) : Prop :=
  ∀ q : Fin 4, q ≠ p → r.conditions[q] ≠ .pending

/-- The pending STOP END is marked complete with status OK, and no other entry changes (R15, R16). -/
abbrev StopEndAnswered (before after : List PendingEntry) : Prop :=
  after.length = before.length ∧ ∀ x ∈ before.zip after,
    if x.1.work = .stopEnd ∧ x.1.answer = none then
      x.2 = { x.1 with answer := x.2.answer } ∧ x.2.answer.map Answer.status = some .ok
    else x.2 = x.1

/-! ### Commits in the statements -/

/-- The set of profiles of a list: bit v for Pv (R183). -/
def setOf (list : List Nat) : BitVec 4 :=
  BitVec.ofNat 4 ((List.range 4).map fun v => if v ∈ list then 2 ^ v else 0).sum

/-- The first entry of a COMMIT's profile list that is no profile or repeats an earlier one (R43). -/
def firstBadEntry (list : List Nat) : Option Nat :=
  (List.range list.length).find? fun i => decide (4 ≤ list.getD i 0 ∨ list.getD i 0 ∈ list.take i)

/-- The first of the named profiles with a pending copy, or 4 for a pending schedule that the COMMIT would carry
(R45). -/
def firstPending (s : State) (c : CommitOperands) : Option Nat :=
  (c.list ++ (if c.flag = 1 then [4] else [])).find? fun v =>
    if v = 4 then s.schedule.pend.isSome else s.profiles[profileOf v].pend.isSome

/-- The first of the named profiles whose staged copy fails a constraint, coded 16 × profile + constraint (R47). -/
def firstUnsound (s : State) (c : CommitOperands) : Option Nat :=
  (c.list.map fun v => (v, failedConstraint (fitted s) s.profiles[profileOf v].staged)).find?
    (fun x => x.2 ≠ 0) |>.map fun x => 16 * x.1 + x.2

/-- The refusal of a COMMIT by the checks of TABLE 3-2, in their order: status and detail. -/
def commitRefusal (s : State) (c : CommitOperands) : Option (Status × Nat) :=
  if 4 < c.count ∨ 1 < c.mode ∨ 1 < c.flag then some (.badField, 255)
  else if (firstBadEntry c.list).isSome then some (.badField, (firstBadEntry c.list).getD 0)
  else if c.count = 0 ∧ c.flag = 0 then some (.badField, 255)
  else if ∃ g ∈ s.commits, g.tag = c.tag then some (.duplicateTag, 0)
  else if s.commits.length = 4 then some (.listFull, 0)
  else if (firstPending s c).isSome then some (.pending, (firstPending s c).getD 0)
  else if c.mode = 1 ∧ 2 ^ 31 ≤ (c.frame - s.stream.next).toNat then some (.late, 0)
  else if (firstUnsound s c).isSome then some (.invalid, (firstUnsound s c).getD 0)
  else none

/-! ### Channels and trim in the statements -/

/-- The channel-table entry after an accepted SET_CHANNEL of these operands (R83). -/
def writtenChannel (old : Channel) (source constant trimApply : Int) : Channel :=
  { source := if source = 0 then .converter else if source = 1 then .constant
      else if source = 2 then .ramp else .prbs
    constant := constant
    trimApply := decide (trimApply = 1)
    ramp := if source = 2 then constant else old.ramp
    prbs := if source = 3 then 1 else old.prbs }

/-- The write changes what the channel delivers (R83). -/
abbrev DeliveryChanges (old new : Channel) : Prop :=
  new.source ≠ old.source ∨ new.source = .ramp ∨ new.source = .prbs ∨
    (new.source = .constant ∧ new.constant ≠ old.constant) ∨
    (new.source = .converter ∧ new.trimApply ≠ old.trimApply)

/-- The state of a slot by its fields (R100). -/
def slotClass (k : TrimSlot) : SlotState :=
  if k.useMark = false then .blank
  else if k.voidMark = false ∧ k.check = some (~~~ halfwordSum (k.image.getD 0)) then .programmed
  else .defective

/-- The image of a TRIM_LOAD is in force: table, origin, live edit and answer (R91, R96, R107). -/
def trimLoaded (s : State) (image : Record) (origin : TrimOrigin) (aux : Nat) : State :=
  { s with
    trim := { s.trim with table := tableOf image, origin := origin, load := .idle }
    records := damagedRecords s
      (editedRecord s fun c => s.channels[c].source == .converter && s.channels[c].trimApply) 0x01
    requests := { s.requests with entries := answeredWork s .trimLoad (answer .ok 0 aux) } }

/-- The closing of an OPEN record by a STOP ABORT: ABORTED damage, and delivery whatever the policy (R136 to
R138). -/
def abortedRecord (r : FrameRecord) : FrameRecord :=
  { r with damage := r.damage ||| 0x40, phase := .closing, disposition := some .deliver }

/-! ### Ports, trim and payload in the statements -/

/-- The reply window of a port at the taking of its PORT_ALIGN: that of an UP port's row strobe is abandoned while its
reply has had no verdict, and any other stays (R78). -/
def windowAfterAlign (q : Port) : Option ReplyWindow :=
  q.window.filter fun w => !(q.state == .up && w.atRow && !w.answered)

/-- The use mark of slot k is written and its programming begins (R104). -/
def useMarkWritten (t : TrimUnit) (k : Fin 8) (image : Record) : TrimUnit :=
  { t with
    slots := t.slots.set k { t.slots[k] with useMark := true }
    slotStates := t.slotStates.set k .defective
    program := .programming k image 0 }

/-- Slot k is the lowest BLANK one of the slot-state table (R102). -/
abbrev LowestBlank (t : TrimUnit) (k : Fin 8) : Prop :=
  t.slotStates[k] = .blank ∧ ∀ j : Fin 8, j < k → t.slotStates[j] ≠ .blank

/-- Some beat of a read reports an error (0.7). -/
abbrev ReadFails {n : Nat} (a : ReadAnswer n) : Prop := ∃ x ∈ a.beats, x = .slverr ∨ x = .decerr

/-- A write's response reports an error (0.7). -/
abbrev WriteFails (a : WriteAnswer) : Prop := a.resp = .slverr ∨ a.resp = .decerr

/-- The coder and the record after the drain of a CLOSING frame whose payload has no byte unissued and no burst
unanswered: a discarded frame waits for its report, at the turn given, and a delivered frame's header write is
issued (R122, R123, R139). -/
def drained (turn : Nat) (c : Coder) (x : FrameRecord) : Coder × FrameRecord :=
  if x.phase = .closing ∧ (∀ b ∈ c.unissued, b.ref ≠ x.ref) ∧ (∀ b ∈ c.bursts, b.ref ≠ x.ref) ∧
      (∀ w ∈ c.headers, w.ref ≠ x.ref) then
    if x.disposition = some .discard then
      (c, { x with phase := .reportWait, reportKind := some .frameDiscarded, turn := turn })
    else
      ({ c with headers := c.headers ++ [⟨x.ref, x.descriptor.address, frameHeader x⟩] }, x)
  else (c, x)

/-- The record that waits for its report is told of by the completion of its report kind (R139, R141). -/
def reportCompletion (x : FrameRecord) : Completion :=
  let report : FrameReport := ⟨x.sequence, x.descriptor.tag, x.profile, x.damage, x.rowsWritten, x.rowsLost,
    x.payloadBytes, x.missed⟩
  if x.reportKind = some .cancelled then .bufferReturned x.descriptor.tag .cancelled
  else if x.reportKind = some .frameDiscarded then .frameDiscarded report
  else .frameDone report

/-- The machine with a completion placed at the tail of the holding queue (R165). -/
def placed (s : State) (x : Completion) : State :=
  { s with completions := { s.completions with holding := s.completions.holding ++ [x] } }

/-- The selector of a READ_OUT is valid for its kind (TABLE 9-2). -/
abbrev SelectorValid (o : ReadOutOperands) : Prop :=
  (o.kind = 1 → o.index < 4 ∧ o.copy < 3) ∧ (o.kind = 2 → o.copy < 3) ∧ (o.kind = 6 → o.index < 8)

/-- The copy that a READ_OUT names is absent: a pending profile copy or a pending schedule (R158). -/
abbrev CopyAbsent (s : State) (o : ReadOutOperands) : Prop :=
  (o.kind = 1 ∧ o.copy = 1 ∧ s.profiles[Fin.ofNat 4 o.index].pend = none) ∨
    (o.kind = 2 ∧ o.copy = 1 ∧ s.schedule.pend = none)

/-- The RECLAIM in progress has returned everything (R144). -/
abbrev AllReturned (b : Buffers) (target : Nat) : Prop :=
  b.list = [] ∧ b.fetch = none ∧ b.ringHead = target

/-- An ordinary descriptor fetch is due (R129). -/
abbrev OrdinaryFetchDue (s : State) : Prop :=
  s.window.device = .enabled ∧ s.buffers.paused = false ∧ s.buffers.fetch = none ∧ s.buffers.latch = none ∧
    s.buffers.list.length < 4 ∧ modDiff (bufferSize s) s.window.bfTail.toNat s.buffers.ringHead ≠ 0

/-- A descriptor fetch under RECLAIM is due (R144). -/
abbrev ReclaimFetchDue (s : State) : Prop :=
  s.window.device = .enabled ∧ s.buffers.fetch = none ∧ s.buffers.list.length < 4 ∧
    ∃ r ∈ s.buffers.reclaim, s.buffers.ringHead ≠ r.target

/-- The requirements on a descriptor (R130). -/
abbrev GoodDescriptor (d : Descriptor) : Prop :=
  d.address.toNat % 64 = 0 ∧ d.capacity.toNat % 64 = 0 ∧ 128 ≤ d.capacity.toNat ∧
    d.capacity.toNat ≤ 67108864

/-! ### Strobes and rows in the statements -/

/-- An UP port whose window gives MISSING as it closes: no reply, and not a maintenance window cut short by the
beginning of row 0 (R73, R74; log 24). -/
abbrev MissesReply (cut : Bool) (q : Port) (w : ReplyWindow) : Prop :=
  q.state = .up ∧ w.alignment = false ∧ w.answered = false ∧ ¬ (cut = true ∧ w.atRow = false)

/-- An ALIGNING port whose alignment window closes without a reply (R74, R77). -/
abbrev AwaitsAlignment (q : Port) (w : ReplyWindow) : Prop :=
  q.state = .aligning ∧ w.alignment = true ∧ w.answered = false

/-- A port after its window has closed at a strobe instant (R73 to R77): MISSING counts as a reply that is not GOOD
for an UP port and as one that is not CORRECT for an ALIGNING one; a window cut short gives no verdict, but an
ALIGNING port that has spent its 512th request in it is LOST. -/
def portClosed (cut : Bool) (q : Port) : Port :=
  match q.window with
  | none => q
  | some w =>
    let closed := { q with window := none }
    if MissesReply cut q w then upAfter closed False
    else if AwaitsAlignment q w then
      if cut = true ∧ w.atRow = false then
        if 512 ≤ q.alignSpent then changedPort closed .lost .alignFailed else closed
      else aligningAfter closed False
    else closed

/-- A fitted port after its strobe (R73, R77): an alignment request of 6 ticks to an ALIGNING port, which counts it,
and a strobe of 2 ticks otherwise; its reply window is open. -/
def portStruck (atRow : Bool) (q : Port) : Port :=
  { q with
    pulse := if q.state = .aligning then 6 else 2
    alignSpent := if q.state = .aligning then q.alignSpent + 1 else q.alignSpent
    window := some { atRow := atRow, alignment := q.state == .aligning, answered := false } }

/-- The ports after a strobe instant (R72, R73). -/
def strobedPorts (s : State) (atRow cut : Bool) : Vector Port 4 :=
  Vector.ofFn fun p : Fin 4 =>
    if p.val < s.window.straps.toNat + 1 then portStruck atRow (portClosed cut s.ports[p])
    else portClosed cut s.ports[p]

/-- The alignment of port p ends in failure as its window closes (R77). -/
def alignmentFails (s : State) (cut : Bool) (p : Fin 4) : Bool :=
  s.ports[p].state == .aligning && (portClosed cut s.ports[p]).state == .lost

/-- The ports whose alignment fails at a strobe instant. -/
def failingPorts (s : State) (cut : Bool) : List (Fin 4) :=
  [0, 1, 2, 3].filter (alignmentFails s cut)

/-- The PORT_ALIGN of every port whose alignment fails is answered ALIGN_FAILED with aux 512 and a detail that the
spec leaves open (R77; log 8), and no other entry changes. -/
abbrev FailedAlignsAnswered (s : State) (cut : Bool) (after : List PendingEntry) : Prop :=
  after.length = s.requests.entries.length ∧ ∀ x ∈ s.requests.entries.zip after,
    if x.1.answer = none ∧ ∃ p ∈ failingPorts s cut, x.1.work = .align p then
      x.2 = { x.1 with answer := x.2.answer } ∧ x.2.answer.map Answer.status = some .alignFailed ∧
        x.2.answer.map Answer.aux = some 512
    else x.2 = x.1

/-- The row r after the closing of the windows: MISSING for its strobe decides a PENDING condition BAD (R76, R88). -/
def settledRow (ports : Vector Port 4) (r : IntakeRow) : IntakeRow :=
  { r with conditions := Vector.ofFn fun p : Fin 4 =>
      match ports[p].window with
      | some w =>
        if r.conditions[p] = .pending ∧ w.atRow = true ∧ MissesReply false ports[p] w then .bad
        else r.conditions[p]
      | none => r.conditions[p] }

/-- The last window row of a profile (R22). -/
abbrev finalRow (b : Profile) : Nat := b.rowFirst + (b.rowLast - b.rowFirst) / b.rowStep * b.rowStep

/-- What the intake hands over for a window row (R89): its index, the samples of the channels of the mask in
ascending order, the indication of a BAD or DOWN condition for each port, and whether it is the last window row. -/
def handedOver (r : IntakeRow) (b : Profile) : Handover :=
  { index := r.index
    samples := ((List.finRange 16).filter fun c => b.channelMask.getLsbD c.val).map fun c => (c, sampleOf r c)
    bad := Vector.ofFn fun p : Fin 4 => decide (r.conditions[p] = .bad ∨ r.conditions[p] = .down)
    last := decide (r.index = finalRow b) }

/-- The record that takes the samples of row r at its completion: the row is a window row of its buffered frame, whose
record is OPEN (R89). -/
def takingRecord (records : List FrameRecord) (r : IntakeRow) : Option FrameRecord :=
  match r.frame with
  | some (.buffered _ ref b) =>
    if b.rowFirst ≤ r.index ∧ r.index ≤ b.rowLast ∧ (r.index - b.rowFirst) % b.rowStep = 0 then
      records.find? fun x => x.ref == ref && x.phase == .opened
    else none
  | _ => none

/-- An OPEN record at the end of its frame's capture: CLOSING with its disposition decided (R137). -/
def closedRecord (x : FrameRecord) : FrameRecord :=
  { x with
    phase := .closing
    disposition := some (if x.bound.damagePolicy = .discard ∧ x.damage ≠ 0 ∧ x.damage &&& 0xF8 = 0
      then .discard else .deliver) }

/-- The row coder c and the records after the completion of row r (R88, R89): a window row of an OPEN record adds its
samples' damage (R90) and is taken as the row coder decides (R111, R118); after the last window row the capture ends
(R110, R137) and the frame may drain (R122). -/
def rowTaken (c : Coder) (records : List FrameRecord) (r : IntakeRow) : Coder × List FrameRecord :=
  match takingRecord records r with
  | none => (c, records)
  | some x =>
    let y := { x with damage := x.damage ||| markedDamage r x.bound.channelMask }
    let kept := captured c y (handedOver r x.bound)
    let last := if r.index = finalRow x.bound then
        drained (nextTurn records) { kept.1 with openFrame := none } (closedRecord kept.2)
      else kept
    (last.1, records.map fun z => if z.ref = x.ref then last.2 else z)

/-- What a channel delivers for the row whose strobe finds it so (R82). -/
def deliveredBy (c : Channel) : FixedSample :=
  if c.source = .converter then .converter c.trimApply
  else .test (if c.source = .constant then c.constant else if c.source = .ramp then c.ramp else c.prbs.toNat)

/-- The row that begins at a row strobe, with the ports as the strobe leaves them: PENDING for a fitted UP port and
DOWN for any other (R88), the samples of the test sources (R82), and the trim table in force (R98). -/
def strobedRow (s : State) (ports : Vector Port 4) (frame : Option SlotFrame) (index : Nat) : IntakeRow :=
  { index := index, frame := frame
    conditions := Vector.ofFn fun p : Fin 4 =>
      if p.val < s.window.straps.toNat + 1 ∧ ports[p].state = .up then .pending else .down
    fixed := Vector.ofFn fun c : Fin 16 => deliveredBy s.channels[c]
    trim := s.trim.table }

/-- The row coder and the records once the row in progress has been completed at a strobe instant (R88). -/
def rowSettled (s : State) (c : Coder) (records : List FrameRecord) : Coder × List FrameRecord :=
  match s.row with
  | none => (c, records)
  | some r => rowTaken c records (settledRow s.ports r)

/-- What a strobe instant does to ports and requests: the windows close with their verdicts, the strobes go out
(R73 to R77), and each failed alignment takes one free value (log 8). -/
abbrev StrobesSent (s t : State) (atRow cut : Bool) : Prop :=
  t.ports = strobedPorts s atRow cut ∧ FailedAlignsAnswered s cut t.requests.entries

/-- The row awaits a port's verdict (R88). -/
abbrev AwaitsPort (r : IntakeRow) : Prop := ∃ p : Fin 4, r.conditions[p] = .pending

/-- A row of index i of the frame f begins, in a machine s whose row coder and records are c and records: the strobe
instant, the completion of the row in progress, the generators' advance (R84, R85), and the new row, which with no port
PENDING completes at once (R88). -/
abbrev RowBegun (s t : State) (cut : Bool) (f : SlotFrame) (i : Nat) (c : Coder)
    (records : List FrameRecord) : Prop :=
  let settled := rowSettled s c records
  let row := strobedRow s t.ports (some f) i
  let taken := if AwaitsPort row then settled else rowTaken settled.1 settled.2 row
  StrobesSent s t true cut ∧ (∀ ch : Fin 16, GeneratorStepped s.channels[ch] t.channels[ch]) ∧
    t.row = (if AwaitsPort row then some row else none) ∧ t.coder = taken.1 ∧ t.records = taken.2

/-- Nothing changes from s to t but what a row's beginning writes: the stream, ports, generators, row, coder and
records, the pending entries, and the count of free values by one for each failed alignment. -/
abbrev OnlyTheRow (s t : State) (cut : Bool) : Prop :=
  t = { s with
    stream := t.stream, ports := t.ports, channels := t.channels, row := t.row, coder := t.coder
    records := t.records, requests := { s.requests with entries := t.requests.entries }
    freeCount := s.freeCount + (failingPorts s cut).length }

/-- The record of a frame whose row 0 begins is OPEN with its start time and its missed-trigger count (R135). -/
def openedRecords (s : State) (records : List FrameRecord) (g : SlotFrame) : List FrameRecord :=
  records.map fun r => if recordOf g = some r.ref then
    { r with phase := .opened, startTime := some s.stream.timeCounter, missed := s.stream.missed } else r

/-- A buffered frame whose row 0 begins is the row coder's open frame, with nothing coded (R110). -/
def openedCoder (c : Coder) (g : SlotFrame) : Coder :=
  match recordOf g with
  | some ref =>
    { c with openFrame := some ref, cursor := 64, stop := .none, preds := Vector.replicate 16 none }
  | none => c

/-- Row 0 begins less than 400 ticks after the last maintenance strobe (R74; log 24). -/
def cutsWindows (s : State) : Bool := s.stream.maintenance.any fun m => decide (m < 400)

/-- Row 0 of the frame g has begun, and s was the machine before, with these records (R10, R110, R135). -/
abbrev RowZeroBegun (s t : State) (g : SlotFrame) (records : List FrameRecord) : Prop :=
  t.stream = { s.stream with
    state := .running, mode := t.stream.mode, current := some g, setUp := none, rowIndex := 0, rowTimer := 0
    maintenance := none, frameMark := true, missed := 0, next := t.stream.next } ∧
    RowBegun s t (cutsWindows s) g 0 (openedCoder s.coder g) (openedRecords s records g)

/-! ### The device's own events in the statements -/

/-- The maintenance strobe is due: 400 ticks have passed and no rows run, in any device state but INIT (R4). -/
abbrev StrobeDue (s : State) : Prop :=
  (∃ m ∈ s.stream.maintenance, 400 ≤ m) ∧ s.stream.state ≠ .running ∧ s.stream.state ≠ .draining ∧
    s.window.device ≠ .init

/-- The slot read has taken its 20 µs (R107). -/
def slotReadOver : TrimLoading → Bool
  | .slotRead _ elapsed => decide (800 ≤ elapsed)
  | _ => false

/-- The command that takes a record, by its kind, flags and manner (R151, R155, TABLE 11-12). -/
def commandOf (r : Record) : Instr :=
  let kind := recordNat r 0x00 1
  if kind < 1 ∨ 12 < kind then .badKind
  else if recordNat r 0x01 1 ≠ 0 then .badFlags
  else if kind = 6 ∧ recordNat r 0x08 1 = 1 then .stopAbort
  else ([.stage, .stageSchedule, .commit, .withdraw, .start, .stopEnd, .setChannel, .portAlign, .trimProgram,
    .trimLoad, .readOut, .reclaim] : List Instr).getD (kind - 1) .badKind

/-- The commands that take a request (R151, R155). -/
def takings : List Instr :=
  [.badKind, .badFlags, .stage, .stageSchedule, .commit, .withdraw, .start, .stopEnd, .stopAbort, .setChannel,
   .portAlign, .trimProgram, .trimLoad, .readOut, .reclaim]

/-- The record r at the intake's head may be taken: a long one in ENABLED with a pending-list entry free (R153), an
immediate one when the arbiter grants it (R152). -/
abbrev TakingDue (s : State) (r : Record) : Prop :=
  if LongRecord s r then s.window.device = .enabled ∧ s.requests.entries.length < 4
  else grant s = some .immediate

/-- The command that serves a granted waiter (TABLE 10-3, R144, R157). -/
def servedBy (s : State) : Waiter → Option Instr
  | .record _ => some .frameReportGrant
  | .group => some .commitLanded
  | .port _ => some .portEvent
  | .latch => some .rejectedReturn
  | .summary => some .dropSummaryGrant
  | .long i =>
    if ∃ e ∈ s.requests.entries[i]?, e.answer = none then some .reclaimedReturn else some .longRequestDone
  | .immediate => s.requests.intake.head?.map commandOf

/-- The device's own event that is due, in the order of log 2: the grant, the timers, the taking of a long request. -/
def dueEvent (s : State) : Option Instr :=
  if ∃ w ∈ grant s, (servedBy s w).isSome then (grant s).bind (servedBy s)
  else if s.window.device = .init ∧ 2000 ≤ s.window.initTicks then some .endOfInit
  else if ∃ f ∈ s.stream.current, RowEnds s f then some .rowEnd
  else if StrobeDue s then some .maintenanceStrobe
  else if slotReadOver s.trim.load then some .trimSlotReadDone
  else if s.completions.timer = some 0 then some .noticeTimerExpiry
  else if s.window.device = .enabled ∧ s.requests.entries.length < 4 then
    (s.requests.intake.head?.filter fun r => decide (LongRecord s r)).map commandOf
  else none

/-- The time of a programming after one tick: it counts up to 2.5 ms (R104). -/
def programTicked : TrimProgramming → TrimProgramming
  | .programming k image elapsed => .programming k image (if elapsed < 100000 then elapsed + 1 else elapsed)
  | other => other

/-- The time of a slot read after one tick (R107). -/
def loadTicked : TrimLoading → TrimLoading
  | .slotRead k elapsed => .slotRead k (elapsed + 1)
  | other => other

/-- The slot whose image a tick may write: the one being programmed, before its 2.5 ms have passed (R104; log 10). -/
def imageWritable : TrimProgramming → Option (Fin 8 × Record)
  | .programming k image elapsed => if elapsed < 100000 then some (k, image) else none
  | _ => none

/-- The trim unit after one tick: the times count, and the image of the slot being programmed may have been written
at it (R104, R107; log 10). -/
abbrev TrimTicked (before after : TrimUnit) : Prop :=
  after.program = programTicked before.program ∧ after.load = loadTicked before.load ∧
    after.table = before.table ∧ after.origin = before.origin ∧ after.slotStates = before.slotStates ∧
    ∀ k : Fin 8, after.slots[k] = before.slots[k] ∨
      (imageWritable before.program).map Prod.fst = some k ∧
        after.slots[k] =
          { before.slots[k] with image := (imageWritable before.program).map Prod.snd }

/-! ### Read-out images in the statements -/

/-- A signed value as an item of 24 bits (R159). -/
def code24 (v : Int) : Nat := (v % 16777216).toNat

/-- A flag as a number. -/
def flag (b : Bool) : Nat := if b then 1 else 0

/-- The two items of a quantity wider than 24 bits: its low 24 bits, and the bits above (R159). -/
def twoItems (id v : Nat) : List Item := [(id, v % 16777216), (id + 1, v / 16777216)]

/-- PROFILE (TABLE 9-3). -/
def profileImage (p : Profile) : List Item :=
  [(0x01, p.rowPeriod), (0x02, p.frameRows), (0x03, p.rowFirst), (0x04, p.rowLast), (0x05, p.rowStep),
   (0x06, p.channelMask.toNat),
   (0x07, if p.sampleFormat = .raw16 then 0 else if p.sampleFormat = .pack12 then 1 else 2),
   (0x08, if p.damagePolicy = .deliver then 0 else 1), (0x09, flag p.rowStamps)]

/-- SCHEDULE: the entry count, and profile and repeat of each entry (TABLE 9-3). -/
def scheduleImage (entries : List ScheduleEntry) : List Item :=
  (0x01, entries.length) :: entries.zipIdx.flatMap fun x =>
    [(0x10 + 2 * x.2, x.1.profile.val), (0x11 + 2 * x.2, x.1.repeats)]

/-- COMMITS: the number of groups, and the items of each; a landed frame only for a landed group (TABLE 9-3). -/
def commitsImage (groups : List CommitGroup) : List Item :=
  (0x01, groups.length) :: groups.zipIdx.flatMap fun x =>
    let g := x.1
    let id := 0x10 * x.2 + 0x10
    [(id, g.tag.toNat), (id + 1, if g.state = .pending then 0 else 1)] ++
      twoItems (id + 2) g.landingFrame.toNat ++
      [(id + 4, g.profileSet.toNat), (id + 5, flag g.scheduleFlag)] ++
      g.landedFrame.toList.flatMap fun f => twoItems (id + 6) f.toNat

/-- CHANNELS: source, constant and trim_apply of each channel (TABLE 9-3). -/
def channelsImage (s : State) : List Item :=
  (List.finRange 16).flatMap fun c =>
    let x := s.channels[c]
    [(0x10 + 4 * c.val, if x.source = .converter then 0 else if x.source = .constant then 1
        else if x.source = .ramp then 2 else 3),
     (0x11 + 4 * c.val, code24 x.constant), (0x12 + 4 * c.val, flag x.trimApply)]

/-- Offset and gain of each channel of a trim table (TABLE 9-3). -/
def trimImageItems (t : TrimTable) : List Item :=
  (List.finRange 16).flatMap fun c =>
    [(0x10 + 2 * c.val, code24 t[c].offset), (0x11 + 2 * c.val, t[c].gain)]

/-- The code of a trim origin: UNITY 0, SLOT k 1 + k, HOST 9 (TABLE 9-3). -/
def originCode : TrimOrigin → Nat
  | .unity => 0
  | .slot k => 1 + k.val
  | .host => 9

/-- The code of a slot state: BLANK 0, PROGRAMMED 1, DEFECTIVE 2 (TABLE 9-3). -/
def slotCode (k : SlotState) : Nat := if k = .blank then 0 else if k = .programmed then 1 else 2

/-- TRIM_SLOT: number and state, and the image of a PROGRAMMED slot (TABLE 9-3). -/
def slotImageItems (t : TrimUnit) (k : Fin 8) : List Item :=
  [(0x01, k.val), (0x02, slotCode t.slotStates[k])] ++
    if t.slotStates[k] = .programmed then trimImageItems (tableOf (t.slots[k].image.getD 0)) else []

/-- TABLE 2-2: identifier, minimum, maximum, default and class of each entry. -/
def limitRows : List (Nat × Int × Int × Int × Nat) :=
  [(0x01, 40, 65535, 400, 0), (0x02, 16, 65535, 1024, 0), (0x03, 0, 65535, 0, 0), (0x04, 0, 65535, 1019, 0),
   (0x05, 1, 64, 1, 0), (0x06, 0x0001, 0xFFFF, 0x000F, 0), (0x07, 0, 2, 0, 0), (0x08, 0, 1, 0, 0),
   (0x09, 0, 1, 0, 0), (0x11, 0, 3, 0, 1), (0x12, -32767, 32767, 0, 1), (0x13, 0, 1, 1, 1)]

/-- LIMITS: attribute a of the entry f has identifier f + 0x40 a (TABLE 9-3). -/
def limitsImage : List Item :=
  limitRows.flatMap fun x =>
    [(x.1, code24 x.2.1), (x.1 + 0x40, code24 x.2.2.1), (x.1 + 0x80, code24 x.2.2.2.1),
     (x.1 + 0xC0, x.2.2.2.2)]

/-- The slot of the TRIM_PROGRAM in progress, 255 if there is none (TABLE 9-4). -/
def programmedSlot (p : TrimProgramming) : Nat :=
  (((chosenSlot p).or (burningSlot p)).map Fin.val).getD 255

/-- STATUS (TABLE 9-4). -/
def statusImage (s : State) : List Item :=
  [(0x01, if s.stream.state = .stopped then 0 else if s.stream.state = .running then 1
      else if s.stream.state = .waiting then 2 else 3),
   (0x02, if s.stream.mode = .free then 0 else 1)] ++ twoItems 0x03 s.stream.next.toNat ++
  [(0x05, s.schedule.entry), (0x06, s.schedule.remaining), (0x07, s.commits.length),
   (0x08, s.records.length)] ++
  (s.records.zipIdx.flatMap fun x => twoItems (0x10 + 4 * x.2) x.1.sequence.toNat ++
    [(0x12 + 4 * x.2, if x.1.phase = .setUp then 0 else if x.1.phase = .opened then 1
      else if x.1.phase = .closing then 2 else 3)]) ++
  [(0x20, s.buffers.list.length), (0x21, flag s.buffers.latch.isSome), (0x22, flag s.buffers.paused),
   (0x23, flag s.buffers.reclaim.isSome), (0x24, s.buffers.ringHead),
   (0x28, s.completions.holding.length), (0x29, flag s.completions.summary.isSome)] ++
  ((List.finRange 4).map fun p => (0x30 + p.val, if s.ports[p].state = .off then 0
      else if s.ports[p].state = .aligning then 1 else if s.ports[p].state = .up then 2 else 3)) ++
  [(0x34, s.window.straps.toNat + 1), (0x38, s.requests.entries.length), (0x39, s.requests.head),
   (0x3A, s.requests.intake.length)] ++
  ((List.finRange 8).map fun k => (0x40 + k.val, slotCode s.trim.slotStates[k])) ++
  [(0x48, programmedSlot s.trim.program), (0x49, if s.trim.load = .idle then 0 else 1)] ++
  twoItems 0x50 s.stream.timeCounter.toNat

/-- The lists that an image tells of are within their capacities (R40, R60, R127). -/
abbrev ImageBounded (s : State) : Prop :=
  s.commits.length ≤ 4 ∧ s.records.length ≤ 4 ∧ s.schedule.staged.length ≤ 8 ∧
    (∀ e ∈ s.schedule.pend, e.length ≤ 8) ∧ s.schedule.active.length ≤ 8

/-- The items of the image that a READ_OUT names, none when the copy named is absent (R158, R160, TABLE 9-2): copy 0
is STAGED, 1 PENDING, 2 ACTIVE. -/
def imageOf (s : State) (o : ReadOutOperands) : Option (List Item) :=
  let p := s.profiles[Fin.ofNat 4 o.index]
  if o.kind = 1 then
    if o.copy = 0 then some (profileImage p.staged) else if o.copy = 1 then p.pend.map profileImage
    else some (profileImage p.active)
  else if o.kind = 2 then
    if o.copy = 0 then some (scheduleImage s.schedule.staged)
    else if o.copy = 1 then s.schedule.pend.map scheduleImage
    else some (scheduleImage s.schedule.active)
  else if o.kind = 3 then some (commitsImage s.commits)
  else if o.kind = 4 then some (channelsImage s)
  else if o.kind = 5 then some ((0x01, originCode s.trim.origin) :: trimImageItems s.trim.table)
  else if o.kind = 6 then some (slotImageItems s.trim (Fin.ofNat 8 o.index))
  else if o.kind = 7 then some limitsImage
  else some (statusImage s)

/-- The code of a device state in STATUS (11.1). -/
def deviceCode (d : DeviceState) : Nat :=
  if d = .init then 0 else if d = .disabled then 1 else if d = .setup then 2 else if d = .enabled then 3 else 4

/-- The code of a cause in STATUS (TABLE 11-14). -/
def causeCode (c : Cause) : Nat :=
  ([.none, .setupReadError, .setupInvalid, .badIndex, .bufferReadError, .requestReadError,
    .completionWriteError, .dropOverflow] : List Cause).idxOf c

/-! ### Fields of written records in the statements -/

/-- A field of a written record: its byte offset, its size in bytes and its value (11.5). -/
abbrev Field := Nat × Nat × Nat

/-- The number whose little-endian bytes hold these fields and zeros elsewhere (0.7, R182). -/
def recordOfFields (fields : List Field) : Nat :=
  (fields.map fun f => f.2.2 % 2 ^ (8 * f.2.1) * 2 ^ (8 * f.1)).sum

/-- The fields of FRAME_DONE and FRAME_DISCARDED (TABLE 11-7). -/
def reportLayout (r : FrameReport) : List Field :=
  [(0x02, 1, r.damage.toNat), (0x03, 1, r.profile.val), (0x04, 4, r.sequence.toNat), (0x08, 4, r.tag.toNat),
   (0x0C, 2, r.rowsWritten), (0x0E, 2, r.rowsLost), (0x10, 4, r.payloadBytes), (0x14, 1, r.missed)]

/-- The code of a status (TABLE 11-13): its place in the table. -/
def statusCode (x : Status) : Nat :=
  ([.ok, .accepted, .landed, .badKind, .badField, .range, .duplicateTag, .listFull, .pending, .late, .invalid, .notFound,
    .busy, .notFitted, .alignFailed, .storeFull, .readError, .verifyFailed, .absent, .writeError] :
    List Status).idxOf x

/-- The kind code of a completion (TABLE 11-12) and the fields of its kind (TABLE 11-7). -/
def completionLayout : Completion → Nat × List Field
  | .requestDone tag kind a head =>
    (1, [(0x02, 2, tag.toNat), (0x04, 1, kind.toNat), (0x05, 1, statusCode a.status), (0x06, 1, a.detail.toNat),
      (0x08, 4, a.aux.toNat), (0x0C, 2, head)])
  | .commitLanded tag frame set carries =>
    (2, [(0x02, 2, tag.toNat), (0x04, 4, frame.toNat), (0x08, 1, set.toNat), (0x09, 1, flag carries)])
  | .frameDone r => (3, reportLayout r)
  | .frameDiscarded r => (4, reportLayout r)
  | .frameDropped first last count reasons =>
    (5, [(0x02, 1, reasons.toNat), (0x04, 4, first.toNat), (0x08, 4, last.toNat), (0x0C, 4, count)])
  | .bufferReturned tag reason =>
    (6, [(0x02, 1, if reason = .rejected then 1 else if reason = .cancelled then 2 else 3),
      (0x04, 4, tag.toNat)])
  | .portEvent p state cause changes =>
    (7, [(0x02, 1, p.val),
      (0x03, 1, if state = .off then 0 else if state = .aligning then 1 else if state = .up then 2 else 3),
      (0x04, 1, if cause = .none then 0 else if cause = .alignRequested then 1 else if cause = .aligned then 2
        else if cause = .alignFailed then 3 else 4),
      (0x05, 1, changes)])

/-- The fields of a frame header (TABLE 11-9). -/
def headerLayout (r : FrameRecord) : List Field :=
  [(0x00, 1, 1), (0x01, 1, r.profile.val),
   (0x02, 1, if r.bound.sampleFormat = .raw16 then 0 else if r.bound.sampleFormat = .pack12 then 1 else 2),
   (0x03, 1, flag r.bound.rowStamps), (0x04, 4, r.sequence.toNat), (0x08, 2, r.bound.channelMask.toNat),
   (0x0A, 2, r.bound.rowFirst), (0x0C, 2, r.bound.rowStep), (0x0E, 2, r.bound.rowPeriod),
   (0x10, 2, r.rowsPlanned), (0x12, 2, r.rowsWritten), (0x14, 2, r.rowsLost), (0x16, 1, r.damage.toNat),
   (0x17, 1, r.missed), (0x18, 4, r.payloadBytes), (0x1C, 6, (r.startTime.getD 0).toNat)]

/-- The 32-bit value of a row stamp: the row index in bits 15–0, and bit 16 + p for a bad packet of port p
(TABLE 11-10). -/
def stampValue (index : Nat) (bad : Vector Bool 4) : Nat :=
  index % 65536 + ((List.finRange 4).map fun p => if bad[p] then 2 ^ (16 + p.val) else 0).sum

/-! ### Setup blocks in the statements -/

/-- Each ring size is a power of two from 16 to 4096 (R178, check 1). -/
abbrev SizesValid (b : Setup) : Prop :=
  RingSize b.request.size ∧ RingSize b.buffer.size ∧ RingSize b.completion.size

/-- Each ring base is a multiple of 64 (R178, check 2). -/
abbrev BasesAligned (b : Setup) : Prop :=
  b.request.base.toNat % 64 = 0 ∧ b.buffer.base.toNat % 64 = 0 ∧ b.completion.base.toNat % 64 = 0

/-- No ring's extent passes 2⁶⁴ − 1 (R178, check 3). -/
abbrev ExtentsFit (b : Setup) : Prop :=
  b.request.base.toNat + 64 * b.request.size ≤ 2 ^ 64 ∧
    b.buffer.base.toNat + 16 * b.buffer.size ≤ 2 ^ 64 ∧
    b.completion.base.toNat + 32 * b.completion.size ≤ 2 ^ 64

/-- Two extents share no byte: one ends before the other begins. -/
abbrev Apart (base1 bytes1 base2 bytes2 : Nat) : Prop :=
  base1 + bytes1 ≤ base2 ∨ base2 + bytes2 ≤ base1

/-- The extents are pairwise disjoint (R178, check 4). -/
abbrev ExtentsDisjoint (b : Setup) : Prop :=
  Apart b.request.base.toNat (64 * b.request.size) b.buffer.base.toNat (16 * b.buffer.size) ∧
    Apart b.request.base.toNat (64 * b.request.size) b.completion.base.toNat (32 * b.completion.size) ∧
    Apart b.buffer.base.toNat (16 * b.buffer.size) b.completion.base.toNat (32 * b.completion.size)

/-- The notice threshold is below the completion ring size (R178, check 5). -/
abbrev ThresholdFits (b : Setup) : Prop := b.threshold < b.completion.size

/-! ### Where buffer tags stand -/

/-- The tag of the buffer that a completion returns (R133). -/
def returnedTag : Completion → List Word
  | .frameDone r => [r.tag]
  | .frameDiscarded r => [r.tag]
  | .bufferReturned tag _ => [tag]
  | _ => []

/-- The tags of the buffers that the device holds: in the list, the latch, the records and the holding queue
(R133). -/
def heldTags (s : State) : List Word :=
  s.buffers.list.map Descriptor.tag ++ s.buffers.latch.toList.map Descriptor.tag ++
    s.records.map (fun r => r.descriptor.tag) ++ s.completions.holding.flatMap returnedTag

/-- The tags of the buffers that a command's answer returns: that of the completion posted (R133, R166). -/
def postedTags (c : Instr) (s : State) : List Word :=
  match c with
  | .completionWriteDone a =>
    if s.window.device = .enabled ∧ a.tracked = true ∧ s.completions.write ≠ none ∧
        ¬ (a.resp = .slverr ∨ a.resp = .decerr) then s.completions.holding.head?.toList.flatMap returnedTag
    else []
  | _ => []

/-- The tag of the buffer that a command's answer brings (R130, R133). -/
def fetchedTags (c : Instr) (s : State) : List Word :=
  match c with
  | .descriptorFetchDone a =>
    if s.window.device = .enabled ∧ a.tracked = true ∧ s.buffers.fetch ≠ none ∧
        ¬ (∃ x ∈ a.beats, x = .slverr ∨ x = .decerr) then [recordField a.data 12 4]
    else []
  | _ => []

/-- The answer to the setup-block read, which alone may bring the device into ENABLED (R177). -/
def answersSetup : Instr → Bool
  | .setupBlockReadDone _ => true
  | _ => false

/-- The steps at which a field of the trim store may be written by a command (R104, R107). -/
def writesSlots : Instr → Bool
  | .trimImageReadDone _ => true
  | .trimProgramVerify _ _ => true
  | .trimSlotReadDone => true
  | _ => false

/-- The events that write the trim table (R96). -/
def writesTrimTable : Instr → Bool
  | .endOfInit => true
  | .trimSlotReadDone => true
  | .trimHostReadDone _ => true
  | _ => false

/-- A command that resets every block: the reset input, or a write of CONTROL with bit 1 set (R176, R179). -/
def isReset : Instr → Bool
  | .powerOnReset _ => true
  | .reset => true
  | .registerWrite offset size value => offset == 8 && size == 4 && value.getLsbD 1
  | _ => false

/-! ### Reading what the device writes -/

/-- The little-endian value of bytes (0.7). -/
def littleEndian : List Byte → Nat
  | [] => 0
  | b :: rest => b.toNat + 256 * littleEndian rest

/-- The signed value of a code at a width (0.7). -/
def signedValue (width code : Nat) : Int := (BitVec.ofNat width code).toInt

/-- The 12-bit values of a PACK12 row of n samples, as a reader takes them (R115). -/
def readPack12 : Nat → List Byte → List Int
  | n + 2, a :: b :: c :: rest =>
    let v := littleEndian [a, b, c]
    signedValue 12 (v % 4096) :: signedValue 12 (v / 4096) :: readPack12 n rest
  | 1, a :: b :: _ => [signedValue 12 (littleEndian [a, b] % 4096)]
  | _, _ => []

/-- The sample v is coded in one byte against the predecessor p (R116): neither is the marker, and their difference lies
in −127 to 127. -/
abbrev OneByteDelta (p v : Int) : Prop := v ≠ -32768 ∧ p ≠ -32768 ∧ -127 ≤ v - p ∧ v - p ≤ 127

/-- The samples of a DELTA8 row, as a reader with the coder's predecessors takes them (R116): 0x80 is an escape
wherever a sample begins. -/
def readDelta8 (preds : Vector (Option Int) 16) : List (Fin 16) → List Byte → Option (List Int × List Byte)
  | [], bytes => some ([], bytes)
  | c :: channels, b :: bytes =>
    if b = 0x80#8 then
      match bytes with
      | lo :: hi :: rest =>
        (readDelta8 preds channels rest).map fun x =>
          ((signedValue 16 (littleEndian [lo, hi])) :: x.1, x.2)
      | _ => none
    else
      match preds[c] with
      | some p => (readDelta8 preds channels bytes).map fun x => ((p + b.toInt) :: x.1, x.2)
      | none => none
  | _ :: _, [] => none

end Sys2Proof.Safety
end

