-- ==== Sys2Proof/Certificates/Slice0/Obligations.lean ====
section
/-! DEFINITION. The statements about the machine, for the provers. Each docstring names the rules of spec/ that it
speaks of; OBLIGATIONS.json says which rules it states whole. -/

section Statements

open Sys2Proof Sys2Proof.Machine Sys2Proof.Safety

/-! ### Steps and resets -/

/-- With a command at the front of the queue, a step is that command on the rest of the machine (log 1). -/
def Obligations.StepTakesTheFrontCommand : Prop :=
  ∀ (c : Instr) (s : State), step { s with pending := c :: s.pending } = exec c s

/-- With no command waiting, a step is the device's own due event, or one tick of the clock. The due event is the command
of the arbiter's grant (R168), END_OF_INIT (R101), ROW_END (R1), MAINTENANCE_STROBE (R4), TRIM_SLOT_READ_DONE (R107),
NOTICE_TIMER_EXPIRY (R172) or the taking of a long request (R153), in this order, which is the model's (log 2). At a
tick the time counter advances (R6), the row timer counts while rows run (R1), the maintenance timer counts (R4), strobe
pulses shorten (R73), the notice timer runs down (R172), and the times of a programming, whose image may be written at
the tick (R104; log 10), and of a slot read (R107) count. -/
def Obligations.IdleStepTakesDueEventOrTicks : Prop :=
  ∀ s : State, s.pending = [] →
    dueCommand s = dueEvent s ∧ (∀ c ∈ dueEvent s, step s = exec c s) ∧
    (dueEvent s = none →
      ∃ t, step s = .next t ∧
        t.stream = { s.stream with
          timeCounter := BitVec.ofNat 48 (s.stream.timeCounter.toNat + 1)
          rowTimer := if rowsRun s then s.stream.rowTimer + 1 else s.stream.rowTimer
          maintenance := s.stream.maintenance.map (· + 1) } ∧
        t.window = { s.window with
          initTicks := s.window.initTicks + if s.window.device = .init then 1 else 0 } ∧
        (∀ p : Fin 4, t.ports[p] = { s.ports[p] with pulse := s.ports[p].pulse - 1 }) ∧
        t.completions = { s.completions with timer := s.completions.timer.map (· - 1) } ∧
        TrimTicked s.trim t.trim ∧
        t = { s with window := t.window, stream := t.stream, ports := t.ports, trim := t.trim,
                     completions := t.completions })

/-- The values of TABLES 1-3, 2-4, 3-4, 4-1, 5-7, 7-5, 8-4, 9-5, 10-4 and 11-3 hold after power-on reset. -/
def Obligations.ResetTablesHold : Prop :=
  let s := State.reset
  (s.window.device = .init ∧ s.window.cause = .none ∧ s.window.detail = 0 ∧ s.window.setupLo = 0 ∧
      s.window.setupHi = 0 ∧ s.window.rqTail = 0 ∧ s.window.bfTail = 0 ∧ s.window.cpHead = 0) ∧
    (s.stream.state = .stopped ∧ s.stream.mode = .free ∧ s.stream.rowIndex = 0 ∧ s.stream.rowTimer = 0 ∧
      s.stream.next = 0 ∧ s.stream.current = none ∧ s.stream.setUp = none ∧ s.stream.missed = 0 ∧
      s.stream.maintenance = none ∧ s.stream.frameMark = false ∧ s.stream.timeCounter = 0) ∧
    (∀ p : Fin 4, s.profiles[p].pend = none ∧ s.profiles[p].staged = s.profiles[p].active ∧
      [1, 2, 3, 4, 5, 6, 7, 8, 9].map (readField s.profiles[p].active) =
        [400, 1024, 0, 1019, 1, 0x000F, 0, 0, 0]) ∧
    s.commits = [] ∧
    (s.schedule.staged = [⟨0, 1⟩] ∧ s.schedule.pend = none ∧ s.schedule.active = [⟨0, 1⟩] ∧
      s.schedule.entry = 0 ∧ s.schedule.remaining = 1) ∧
    (∀ p : Fin 4, s.ports[p] = { state := .off, consecutiveBad := 0, goodAlign := 0, alignSpent := 0, lastCause := .none, lastReported := .off, changeCount := 0, window := none, pulse := 0 }) ∧
    (∀ c : Fin 16, s.channels[c] = { source := .converter, constant := 0, trimApply := true, ramp := 0, prbs := 1 }) ∧
    s.row = none ∧
    (s.coder.openFrame = none ∧ s.coder.cursor = 64 ∧ s.coder.stop = .none ∧
      (∀ c : Fin 16, s.coder.preds[c] = none) ∧ s.coder.unissued = [] ∧ s.coder.bursts = [] ∧
      s.coder.headers = []) ∧
    s.records = [] ∧
    (s.buffers.ringHead = 0 ∧ s.buffers.fetch = none ∧ s.buffers.list = [] ∧ s.buffers.latch = none ∧
      s.buffers.paused = false ∧ s.buffers.reclaim = none) ∧
    (s.requests.head = 0 ∧ s.requests.fetchIndex = 0 ∧ s.requests.fetch = none ∧ s.requests.intake = [] ∧
      s.requests.entries = []) ∧
    (s.completions.holding = [] ∧ s.completions.tail = 0 ∧ s.completions.phase = true ∧
      s.completions.write = none ∧ s.completions.summary = none ∧ s.completions.notice = false ∧
      s.completions.timer = none)

/-- Power-on reset samples the straps (R72, R179), keeps the trim store (R99), and gives every other item its reset
value; the zeros of the setup block's values (log 5), the reset value of the trim table and of the slot-state table (log
6) and that a CSTB pulse still high ends here (log 22) are the model's choices, and what it keeps of the model's own
fields is log 34. -/
def Obligations.PowerOnResetGivesTheResetState : Prop :=
  ∀ (straps : BitVec 2) (s : State),
    exec (.powerOnReset straps) s = .next { State.reset with
      pending := s.pending
      window := { State.reset.window with straps := straps }
      trim := { State.reset.trim with slots := s.trim.slots }
      freeCount := s.freeCount
      nextRef := s.nextRef }

/-- RESET, and a write of CONTROL with bit 1 set (R176), is a function reset (R179): SETUP_LO, SETUP_HI, the straps,
the time counter (R6) and every port's state but ALIGNING (TABLE 5-7) stay, operations on trim end (R105, R109), and
everything else is as after power-on reset. The model's choices in it: the setup block's values go to 0 (log 5), the trim
table and the slot-state table stand until the scan (log 6), a CSTB pulse still high ends here (log 22), and the queue
and the two counters stay (log 34). -/
def Obligations.FunctionResetKeepsWhatTheTablesKeep : Prop :=
  ∀ (s : State) (v : Word), v.getLsbD 1 = true →
    ∃ t, exec .reset s = .next t ∧ exec (.registerWrite 0x08 4 v) s = .next t ∧
      t.window = { State.reset.window with
        setupLo := s.window.setupLo, setupHi := s.window.setupHi, straps := s.window.straps } ∧
      t.stream = { State.reset.stream with timeCounter := s.stream.timeCounter } ∧
      (∀ p : Fin 4, t.ports[p] =
        let state := if s.ports[p].state = .aligning then .off else s.ports[p].state
        { State.reset.ports[p] with state := state, lastReported := state }) ∧
      t.trim = { s.trim with program := .idle, load := .idle } ∧
      t = { State.reset with
        pending := s.pending, window := t.window, stream := t.stream, ports := t.ports, trim := t.trim,
        freeCount := s.freeCount, nextRef := s.nextRef }

/-! ### The register window -/

/-- A write access of the register window (R176): SETUP_LO and SETUP_HI take every 32-bit write, a write at 0x14,
0x18 or 0x1C is the index register's own command (log 18), and an access of another width or alignment, at IDENT or
STATUS, or from 0x20, writes nothing, as a write of CONTROL with bits 1 and 0 clear does nothing. A read gives the part
number, the family code and the revision (free, log 9) at IDENT, the device state, the cause, its detail and the fitted
ports less one at STATUS, whose other bits read 0 (log 40), the values held at the five registers from 0x0C on, and 0
elsewhere; that a read is a value and no command is log 33. -/
def Obligations.RegisterWindowActsAsItsTableSays : Prop :=
  ∀ (s : State) (offset size : Nat) (v : Word),
    (readRegister s 0x00 4).toNat = 0x6410 * 2 ^ 16 + 0x0A * 2 ^ 8 + Config.revision.toNat ∧
    (readRegister s 0x04 4).toNat = deviceCode s.window.device + causeCode s.window.cause * 2 ^ 8 +
      s.window.detail.toNat * 2 ^ 16 + (fitted s - 1) * 2 ^ 24 ∧
    readRegister s 0x0C 4 = s.window.setupLo ∧ readRegister s 0x10 4 = s.window.setupHi ∧
    readRegister s 0x14 4 = s.window.rqTail ∧ readRegister s 0x18 4 = s.window.bfTail ∧
    readRegister s 0x1C 4 = s.window.cpHead ∧
    (size ≠ 4 ∨ offset ∉ [0x00, 0x04, 0x0C, 0x10, 0x14, 0x18, 0x1C] → readRegister s offset size = 0) ∧
    (size = 4 → offset = 0x0C →
      exec (.registerWrite offset size v) s = .next { s with window := { s.window with setupLo := v } }) ∧
    (size = 4 → offset = 0x10 →
      exec (.registerWrite offset size v) s = .next { s with window := { s.window with setupHi := v } }) ∧
    (size = 4 → offset = 0x14 → exec (.registerWrite offset size v) s = exec (.rqTailWrite v) s) ∧
    (size = 4 → offset = 0x18 → exec (.registerWrite offset size v) s = exec (.bfTailWrite v) s) ∧
    (size = 4 → offset = 0x1C → exec (.registerWrite offset size v) s = exec (.cpHeadWrite v) s) ∧
    (size = 4 → offset = 0x08 → v.getLsbD 1 = false → v.getLsbD 0 = false →
      exec (.registerWrite offset size v) s = .next s) ∧
    (size ≠ 4 ∨ offset ∉ [0x08, 0x0C, 0x10, 0x14, 0x18, 0x1C] →
      exec (.registerWrite offset size v) s = .next s)

/-- The ENABLE action, and a write of CONTROL with bit 0 set and bit 1 clear (R176): in DISABLED the device enters
SETUP and the setup-block read is in flight, or with a misaligned address it is back in DISABLED with SETUP_INVALID,
detail 1; in every other state the action is ignored (R178). -/
def Obligations.EnableActionReadsTheSetupBlock : Prop :=
  ∀ (s : State) (v : Word), v.getLsbD 1 = false → v.getLsbD 0 = true →
    let address := s.window.setupHi.toNat * 2 ^ 32 + s.window.setupLo.toNat
    exec (.registerWrite 0x08 4 v) s = exec .enable s ∧
    (s.window.device = .disabled → address % 64 = 0 →
      exec .enable s = .next { s with window := { s.window with
        device := .setup, cause := .none, detail := 0, setupRead := some (BitVec.ofNat 64 address) } }) ∧
    (s.window.device = .disabled → address % 64 ≠ 0 →
      exec .enable s = .next { s with window := { s.window with
        device := .disabled, cause := .setupInvalid, detail := 1, setupRead := none } }) ∧
    (s.window.device ≠ .disabled → exec .enable s = .next s)

/-- The answer to the setup-block read, with data that passes every check of R178, brings the device into ENABLED
with every ring index at 0, the phase at 1 and the block held (R177). -/
def Obligations.ValidSetupBlockEnables : Prop :=
  ∀ (s : State) (a : ReadAnswer 512) (address : Addr),
    s.window.device = .setup → s.window.setupRead = some address → a.tracked = true →
    (∀ x ∈ a.beats, x = .okay ∨ x = .exokay) →
    let b := setupOf a.data
    SizesValid b → BasesAligned b → ExtentsFit b → ExtentsDisjoint b → ThresholdFits b →
      exec (.setupBlockReadDone a) s = .next { s with
        window := { s.window with device := .enabled, rqTail := 0, bfTail := 0, cpHead := 0,
                                  setupRead := none, setup := b }
        requests := { s.requests with head := 0, fetchIndex := 0 }
        buffers := { s.buffers with ringHead := 0 }
        completions := { s.completions with tail := 0, phase := true } }

/-- A failed setup-block read, or the first check of R178 that the block fails, returns the device to DISABLED with
its cause and detail, and changes nothing else; an answer that is not awaited is discarded (log 12). -/
def Obligations.InvalidSetupBlockIsRefusedInOrder : Prop :=
  ∀ (s : State) (a : ReadAnswer 512),
    let b := setupOf a.data
    let failed := fun (cause : Cause) (detail : BitVec 4) => ({ s with window := { s.window with
      device := .disabled, cause := cause, detail := detail, setupRead := none } } : State)
    let good := ∀ x ∈ a.beats, x = .okay ∨ x = .exokay
    (a.tracked = false ∨ s.window.device ≠ .setup → exec (.setupBlockReadDone a) s = .next s) ∧
    (a.tracked = true → s.window.device = .setup → s.window.setupRead ≠ none →
      (¬ good → exec (.setupBlockReadDone a) s = .next (failed .setupReadError 0)) ∧
      (good → ¬ SizesValid b → exec (.setupBlockReadDone a) s = .next (failed .setupInvalid 2)) ∧
      (good → SizesValid b → ¬ BasesAligned b →
        exec (.setupBlockReadDone a) s = .next (failed .setupInvalid 3)) ∧
      (good → SizesValid b → BasesAligned b → ¬ ExtentsFit b →
        exec (.setupBlockReadDone a) s = .next (failed .setupInvalid 4)) ∧
      (good → SizesValid b → BasesAligned b → ExtentsFit b → ¬ ExtentsDisjoint b →
        exec (.setupBlockReadDone a) s = .next (failed .setupInvalid 5)) ∧
      (good → SizesValid b → BasesAligned b → ExtentsFit b → ExtentsDisjoint b → ¬ ThresholdFits b →
        exec (.setupBlockReadDone a) s = .next (failed .setupInvalid 6)))

/-- The end of INIT (R101): after 50 µs the slot-state table is by R100, the trim table is that of the highest
PROGRAMMED slot or unity, the maintenance timer starts at 0 (R4), and the device is in DISABLED. Before that the
command has no effect (log 3). -/
def Obligations.EndOfInitScansTheStore : Prop :=
  ∀ s : State,
    (s.window.device = .init → 2000 ≤ s.window.initTicks →
      ∃ t, exec .endOfInit s = .next t ∧
        t.window = { s.window with device := .disabled } ∧
        t.stream = { s.stream with maintenance := some 0 } ∧
        (∀ k : Fin 8, t.trim.slotStates[k] = slotClass s.trim.slots[k]) ∧
        (∀ k : Fin 8, slotClass s.trim.slots[k] = .programmed →
          (∀ j : Fin 8, k < j → slotClass s.trim.slots[j] ≠ .programmed) →
          t.trim.table = tableOf (s.trim.slots[k].image.getD 0) ∧ t.trim.origin = .slot k) ∧
        ((∀ k : Fin 8, slotClass s.trim.slots[k] ≠ .programmed) →
          (∀ c : Fin 16, t.trim.table[c] = ⟨0, 16384⟩) ∧ t.trim.origin = .unity) ∧
        t = { s with
          window := t.window, stream := t.stream
          trim := { s.trim with
            slotStates := t.trim.slotStates, table := t.trim.table, origin := t.trim.origin } }) ∧
    (s.window.device ≠ .init ∨ s.window.initTicks < 2000 → exec .endOfInit s = .next s)

/-- A write of RQ_TAIL (R180): ignored outside ENABLED; a fatal fault with detail 1 if the value is not below N or
would withdraw records already fetched; stored otherwise. -/
def Obligations.RequestTailWriteIsJudged : Prop :=
  ∀ (s : State) (v : Word),
    let n := requestSize s
    let head := s.requests.head
    let fault := n ≤ v.toNat ∨ modDiff n v.toNat head < modDiff n s.requests.fetchIndex head
    (s.window.device ≠ .enabled → exec (.rqTailWrite v) s = .next s) ∧
    (s.window.device = .enabled → 0 < n → fault →
      exec (.rqTailWrite v) s = .next (haltedAt s .badIndex 1)) ∧
    (s.window.device = .enabled → 0 < n → ¬ fault →
      exec (.rqTailWrite v) s = .next { s with window := { s.window with rqTail := v } })

/-- A write of BF_TAIL (R180): ignored outside ENABLED; a fatal fault with detail 2 if the value is not below N, if it
would withdraw the descriptor being fetched, or if it lies before the target of a RECLAIM; stored otherwise. -/
def Obligations.BufferTailWriteIsJudged : Prop :=
  ∀ (s : State) (v : Word),
    let n := bufferSize s
    let head := s.buffers.ringHead
    let fault := n ≤ v.toNat ∨ (s.buffers.fetch ≠ none ∧ (v.toNat + 1) % n = head) ∨
      ∃ r ∈ s.buffers.reclaim, modDiff n v.toNat head < modDiff n r.target head
    (s.window.device ≠ .enabled → exec (.bfTailWrite v) s = .next s) ∧
    (s.window.device = .enabled → head < n → fault →
      exec (.bfTailWrite v) s = .next (haltedAt s .badIndex 2)) ∧
    (s.window.device = .enabled → head < n → ¬ fault →
      exec (.bfTailWrite v) s = .next { s with window := { s.window with bfTail := v } })

/-- A write of CP_HEAD (R180): ignored outside ENABLED; a fatal fault with detail 3 if the value is not below N or
would consume what is not posted; otherwise stored, with the notice line and timer by the table of R173 for the
count left. That a line lowered and raised again at once is shown as its level only is log 25. -/
def Obligations.CompletionHeadWriteActsOnTheNoticeLine : Prop :=
  ∀ (s : State) (v : Word),
    let n := completionSize s
    let old := s.window.cpHead.toNat
    let tail := s.completions.tail
    let left := modDiff n tail v.toNat
    let threshold := max 1 s.window.setup.threshold
    let holdoff := if s.window.setup.holdoff = 0 then none else some (40 * s.window.setup.holdoff)
    let fault := n ≤ v.toNat ∨ modDiff n tail old < modDiff n v.toNat old
    let stored := fun (line : Bool) (timer : Option Nat) => ({ s with
      window := { s.window with cpHead := v }
      completions := { s.completions with notice := line, timer := timer } } : State)
    (s.window.device ≠ .enabled → exec (.cpHeadWrite v) s = .next s) ∧
    (s.window.device = .enabled → 0 < n → fault →
      exec (.cpHeadWrite v) s = .next (haltedAt s .badIndex 3)) ∧
    (s.window.device = .enabled → 0 < n → ¬ fault → left = 0 →
      exec (.cpHeadWrite v) s = .next (stored false none)) ∧
    (s.window.device = .enabled → 0 < n → ¬ fault → 0 < left → left < threshold →
      exec (.cpHeadWrite v) s = .next (stored false holdoff)) ∧
    (s.window.device = .enabled → 0 < n → ¬ fault → threshold ≤ left →
      exec (.cpHeadWrite v) s = .next (stored true none))

/-! ### Rows, frames and the trigger -/

/-- The end of a row that is not the frame's last (R1) and does not lead into the setup row of RUNNING (R3): the windows
close, MISSING for a fitted port's unanswered strobe (R73 to R77), a failed alignment's PORT_ALIGN being answered; the
row in progress is completed and handed over (R88, R89); the strobes go out (R73), the frame mark is low (R5), the
generators advance (R84, R85), and the new row is in progress, or with no fitted port UP completed at once (R88).
Nothing else changes. Before its row_period ticks have passed, and while no rows run, a row does not end (log 3). -/
def Obligations.RowEndBeginsTheNextRow : Prop :=
  (∀ s : State, s.window.device ≠ .enabled ∨ rowsRun s = false ∨
      (∀ f ∈ s.stream.current, s.stream.rowTimer < f.bound.rowPeriod) → exec .rowEnd s = .next s) ∧
  ∀ (s : State) (f : SlotFrame), RowEnds s f → s.stream.rowIndex + 1 < f.bound.frameRows →
    ¬ (s.stream.state = .running ∧ s.stream.rowIndex + 5 = f.bound.frameRows) →
    RecordsDistinct s → storeHeld s.coder ≤ 8192 →
    ∃ t, exec .rowEnd s = .next t ∧
      t.stream = { s.stream with
        rowIndex := s.stream.rowIndex + 1, rowTimer := 0, frameMark := false } ∧
      RowBegun s t false f (s.stream.rowIndex + 1) s.coder s.records ∧ OnlyTheRow s t false

/-- The beginning of row frame_rows − 4 in RUNNING (R3): the row begins as any other, and frame setup of the next
frame is performed in its four stages (R8): numbering (R7), landing (R50, R25, R66), choice (R67), binding (R134), its
record being the last of the table. That the strobe comes before the setup is log 19. -/
def Obligations.SetupRowSetsUpTheNextFrame : Prop :=
  ∀ (s : State) (f : SlotFrame), RowEnds s f → s.stream.state = .running →
    s.stream.rowIndex + 5 = f.bound.frameRows → RecordsDistinct s → storeHeld s.coder ≤ 8192 →
    ∃ t begun, exec .rowEnd s = .next t ∧
      t.stream = { s.stream with
        rowIndex := s.stream.rowIndex + 1, rowTimer := 0, frameMark := false
        next := s.stream.next + 1, setUp := some (frameOf s s.schedule) } ∧
      RowBegun s { t with records := begun } false f (s.stream.rowIndex + 1) s.coder s.records ∧
      t.records = begun ++ recordsMade s s.schedule ∧
      FrameSetUp s t s.schedule ∧ t.buffers.paused = s.buffers.paused ∧
      OnlyTheRow { s with
        commits := t.commits, profiles := t.profiles, schedule := t.schedule, buffers := t.buffers
        nextRef := t.nextRef } t false

/-- The frame end (R2, R15): the current frame is released, a dropped one being reported, by itself if an entry is free
beside those of the waiting producers and otherwise in the drop summary (R142, R169, R170; log 29); then row 0 of
the set-up frame begins in FREE mode (R10), its record OPEN with its start time (R135) and the last row of the former
frame completed (R88), or the state is WAITING in TRIGGERED mode, or STOPPED after DRAINING with
the pending STOP END answered OK (its detail and aux free, log 8). A drop report that would make the summary's range
reach 2³¹ halts the device with DROP_OVERFLOW instead (R170, R181; log 21). -/
def Obligations.FrameEndFollowsTheStreamState : Prop :=
  ∀ (s : State) (f : SlotFrame), RowEnds s f → f.bound.frameRows ≤ s.stream.rowIndex + 1 →
    (releaseOverflows s f = true → exec .rowEnd s = .next (haltedAt s .dropOverflow 0)) ∧
    (releaseOverflows s f = false →
      (s.stream.state = .running → s.stream.mode = .free → RecordsDistinct s → storeHeld s.coder ≤ 8192 →
        ∀ g ∈ s.stream.setUp, ∃ t, exec .rowEnd s = .next t ∧ RowZeroBegun s t g s.records ∧
          t.stream.mode = .free ∧ t.stream.next = s.stream.next ∧
          OnlyTheRow { s with completions := releasedCompletions s f } t (cutsWindows s)) ∧
      (s.stream.state = .running → s.stream.mode = .triggered →
        exec .rowEnd s = .next { s with
          stream := { s.stream with
            state := .waiting, current := none, frameMark := false, maintenance := some 0 }
          completions := releasedCompletions s f }) ∧
      (s.stream.state = .draining →
        ∃ t, exec .rowEnd s = .next t ∧
          t.stream = { s.stream with
            state := .stopped, current := none, frameMark := false, maintenance := some 0
            missed := 0 } ∧
          t.completions = releasedCompletions s f ∧
          t.requests = { s.requests with entries := t.requests.entries } ∧
          StopEndAnswered s.requests.entries t.requests.entries ∧
          t = { s with stream := t.stream, completions := t.completions, requests := t.requests,
                       freeCount := t.freeCount }))

/-- The maintenance strobe (R4, R73): with the timer at 400 ticks and no rows running, in every device state but INIT,
the timer starts again at 0, the windows close, with MISSING for an unanswered strobe of a port in UP or ALIGNING (R74
to R77), the row in progress is completed (R88), and every fitted port gets a strobe. In HALTED every fitted port gets
one of 2 ticks whatever its state, with its reply window, and the windows close without a verdict (R73, R94; log 27).
With the timer stopped or before 400 ticks, while rows run, and in INIT the command has no effect (log 3). -/
def Obligations.MaintenanceStrobeGoesToEveryFittedPort : Prop :=
  ∀ s : State,
    (s.stream.maintenance = none ∨ (∃ m ∈ s.stream.maintenance, m < 400) ∨ rowsRun s = true ∨
        s.window.device = .init →
      exec .maintenanceStrobe s = .next s) ∧
    ((∃ m ∈ s.stream.maintenance, 400 ≤ m) → rowsRun s = false → s.window.device ≠ .init →
      (s.window.device ≠ .halted → RecordsDistinct s → storeHeld s.coder ≤ 8192 →
        ∃ t, exec .maintenanceStrobe s = .next t ∧ t.stream = { s.stream with maintenance := some 0 } ∧
          StrobesSent s t false false ∧ t.channels = s.channels ∧ t.row = none ∧
          t.coder = (rowSettled s s.coder s.records).1 ∧ t.records = (rowSettled s s.coder s.records).2 ∧
          OnlyTheRow s t false) ∧
      (s.window.device = .halted → s.row = none →
        exec .maintenanceStrobe s = .next { s with
          stream := { s.stream with maintenance := some 0 }
          ports := Vector.ofFn fun p : Fin 4 =>
            if p.val < s.window.straps.toNat + 1 then
              { s.ports[p] with pulse := 2, window := some maintenanceWindow }
            else { s.ports[p] with window := none } }))

/-- A rising edge of the trigger (R11): in WAITING the set-up frame's row 0 begins (R10), cutting short a maintenance
window younger than 400 ticks (R74, R77; log 24), and its strobe begins a CSTB pulse that is still high again, with no
low level between the two, which is the model's choice (R73 is silent; log 22); in RUNNING with start mode TRIGGERED the
missed-trigger count rises, up to 255 (R12); otherwise the edge has no effect. -/
def Obligations.TriggerEdgeBeginsOrCounts : Prop :=
  ∀ s : State,
    (s.window.device = .enabled → s.stream.state = .waiting → RecordsDistinct s → storeHeld s.coder ≤ 8192 →
      ∀ g ∈ s.stream.setUp, ∃ t, exec .triggerEdge s = .next t ∧ RowZeroBegun s t g s.records ∧
        t.stream.mode = s.stream.mode ∧ t.stream.next = s.stream.next ∧ OnlyTheRow s t (cutsWindows s)) ∧
    (s.stream.state = .running → s.stream.mode = .triggered →
      exec .triggerEdge s = .next { s with stream := { s.stream with
        missed := if s.stream.missed < 255 then s.stream.missed + 1 else 255 } }) ∧
    (s.stream.state = .stopped ∨ s.stream.state = .draining ∨
        (s.stream.state = .running ∧ s.stream.mode = .free) →
      exec .triggerEdge s = .next s)

/-! ### Replies and rows at the intake -/

/-- A complete reply taken in an open window of an UP port (R74, R76): GOOD clears consecutive_bad, BAD adds to it and
the eighth makes the port LOST; the reply to a row strobe also decides the port's PENDING condition. No other port
changes, and while another port is PENDING nothing else does. A reply outside an open window, after an earlier one, of
a port that is not fitted, OFF or LOST, or in HALTED is not judged and changes nothing (R72, R74, R75, R94); one to the
kind of strobe that the port's state does not send is taken without a verdict (log 28). That the command itself says
whether the start bit came in the open window is log 23. -/
def Obligations.ReplyToAnUpPortIsJudged : Prop :=
  ∀ (s : State) (p : Fin 4) (bits : BitVec 96),
    (∀ w : ReplyWindow, ReplyTaken s p w → s.ports[p].state = .up → w.alignment = false →
      let q := { upAfter s.ports[p] (GoodReply bits) with window := takenWindow w }
      (w.atRow = false ∨ (∀ r ∈ s.row, r.conditions[p] ≠ .pending) →
        (∀ r ∈ s.row, ∃ p' : Fin 4, r.conditions[p'] = .pending) →
        exec (.replyReceived p true bits) s = .next { s with ports := s.ports.set p q }) ∧
      (w.atRow = true → ∀ r ∈ s.row, r.conditions[p] = .pending →
        (¬ OthersDecided r p → exec (.replyReceived p true bits) s = .next { s with
          ports := s.ports.set p q, row := some (decidedRow r p (conditionAfter bits)) }) ∧
        (OthersDecided r p → ∃ t, exec (.replyReceived p true bits) s = .next t ∧
          t.ports = s.ports.set p q ∧ t.row = none))) ∧
    (∀ w : ReplyWindow, ReplyTaken s p w → (∀ r ∈ s.row, ∃ p' : Fin 4, r.conditions[p'] = .pending) →
      s.ports[p].state = .up ∧ w.alignment = true ∨ s.ports[p].state = .aligning ∧ w.alignment = false →
      exec (.replyReceived p true bits) s =
        .next { s with ports := s.ports.set p { s.ports[p] with window := takenWindow w } }) ∧
    exec (.replyReceived p false bits) s = .next s ∧
    (fitted s ≤ p.val ∨ s.window.device = .halted ∨ s.ports[p].state = .off ∨ s.ports[p].state = .lost ∨
        s.ports[p].window = none ∨ (∃ w ∈ s.ports[p].window, w.answered = true) →
      exec (.replyReceived p true bits) s = .next s)

/-- A complete reply to an alignment request of an ALIGNING port (R77): a CORRECT reply adds to good_align and the
eighth in a row makes the port UP, any other sets good_align to 0; after the 512th request the port is LOST; the
PORT_ALIGN is answered as the alignment ends, with align_spent in aux (its detail is free, log 8). -/
def Obligations.ReplyToAnAligningPortIsJudged : Prop :=
  ∀ (s : State) (p : Fin 4) (w : ReplyWindow) (bits : BitVec 96), ReplyTaken s p w →
    s.ports[p].state = .aligning → w.alignment = true →
    (∀ r ∈ s.row, ∃ p' : Fin 4, r.conditions[p'] = .pending) →
    let q := { aligningAfter s.ports[p] (CorrectReply bits) with window := takenWindow w }
    (q.state = .aligning →
      exec (.replyReceived p true bits) s = .next { s with ports := s.ports.set p q }) ∧
    (q.state ≠ .aligning → ∃ detail,
      let a : Answer := ⟨if q.state = .up then .ok else .alignFailed, detail,
        BitVec.ofNat 32 (if q.state = .up then s.ports[p].alignSpent else 512)⟩
      exec (.replyReceived p true bits) s = .next { s with
        ports := s.ports.set p q
        requests := { s.requests with entries := answeredWork s (.align p) a }
        freeCount := s.freeCount + 1 })

/-- The completion of a row at the verdict on its last PENDING port (R88): a window row of an OPEN record is handed over,
with its index, the samples of the mask's channels in ascending order, the bad-packet indication of every BAD or DOWN
port and whether it is the last (R89); its samples' damage (R90) and the decision of the row coder (R111, R118) follow.
After the last window row the record leaves OPEN with its disposition decided (R137), the row coder has no open frame
(R110), and the frame drains if nothing of it is unanswered (R122). Nothing else changes but the port; a row that is no
window row, or of a dropped frame or a record not OPEN, is handed to nobody (R89). -/
def Obligations.CompletedWindowRowIsHandedOver : Prop :=
  ∀ (s : State) (p : Fin 4) (w : ReplyWindow) (bits : BitVec 96) (row : IntakeRow),
    ReplyTaken s p w → s.ports[p].state = .up → w.alignment = false → w.atRow = true →
    s.row = some row → row.conditions[p] = .pending → OthersDecided row p →
    RecordsDistinct s → storeHeld s.coder ≤ 8192 →
    let r := decidedRow row p (conditionAfter bits)
    let after := rowTaken s.coder s.records r
    exec (.replyReceived p true bits) s = .next { s with
      ports := s.ports.set p { upAfter s.ports[p] (GoodReply bits) with window := takenWindow w }
      row := none
      coder := after.1
      records := after.2 } ∧
    (∀ x ∈ s.records, x.phase = .opened → slotHolds row.frame x → x.bound.rowFirst ≤ row.index →
      row.index ≤ x.bound.rowLast → (row.index - x.bound.rowFirst) % x.bound.rowStep = 0 →
      let y := { x with damage := x.damage ||| markedDamage r x.bound.channelMask }
      let kept := captured s.coder y (handedOver r x.bound)
      (row.index ≠ finalRow x.bound → after.1 = kept.1 ∧ kept.2 ∈ after.2) ∧
      (row.index = finalRow x.bound → after.1.openFrame = none ∧ ∃ z ∈ after.2, z.ref = x.ref ∧
        z.phase ≠ .opened ∧ z.damage = kept.2.damage ∧ z.rowsWritten = kept.2.rowsWritten ∧
        z.rowsLost = kept.2.rowsLost ∧ z.payloadBytes = kept.2.payloadBytes ∧
        z.disposition = (closedRecord kept.2).disposition))

/-! ### The request ring -/

/-- A record fetch (R149): with a place in the intake and a posted record not yet fetched, the 64 bytes at base + 64 ×
fetch index are read and the fetch index advances; the answer's record joins the intake. Otherwise no fetch is issued,
and the command has no effect (log 3); an answer that is not awaited is discarded (log 12). -/
def Obligations.RequestFetchAdvances : Prop :=
  ∀ (s : State) (a : ReadAnswer 512),
    let n := requestSize s
    let due := s.window.device = .enabled ∧ s.requests.fetch = none ∧ s.requests.intake.length < 4 ∧
      modDiff n s.window.rqTail.toNat s.requests.fetchIndex ≠ 0
    (0 < n → due → exec .requestFetchIssue s = .next { s with requests := { s.requests with
      fetch := some (s.window.setup.request.base + BitVec.ofNat 64 (64 * s.requests.fetchIndex))
      fetchIndex := if s.requests.fetchIndex + 1 < n then s.requests.fetchIndex + 1 else 0 } }) ∧
    (0 < n → ¬ due → exec .requestFetchIssue s = .next s) ∧
    (s.window.device = .enabled → s.requests.fetch ≠ none → a.tracked = true → ¬ ReadFails a →
      exec (.requestFetchDone a) s = .next { s with requests := { s.requests with
        fetch := none, intake := s.requests.intake ++ [a.data] } }) ∧
    (s.window.device ≠ .enabled ∨ a.tracked = false ∨ s.requests.fetch = none →
      exec (.requestFetchDone a) s = .next s)

/-- A head record of unknown kind is answered BAD_KIND, and one of a known kind with flags BAD_FIELD with detail 254;
no block acts on either, the request ring head advances, and the kind is carried as read (R151, R155, R156, R183). With a
record of a known kind and zero flags at the head, the commands BAD_KIND and BAD_FLAGS have no effect, which is the
model's choice (log 3). -/
def Obligations.BadRecordsAreAnswered : Prop :=
  ∀ (s : State) (r : Record) (rest : List Record), ImmediateTurn s r rest →
    let kind := recordNat r 0x00 1
    let flags := recordNat r 0x01 1
    let known := 1 ≤ kind ∧ kind ≤ 12
    (¬ known → exec .badKind s = .next (answered s r rest ⟨.badKind, 0, 0⟩)) ∧
    (known → flags ≠ 0 → exec .badFlags s = .next (answered s r rest ⟨.badField, 254, 0⟩)) ∧
    (known → flags = 0 → exec .badKind s = .next s ∧ exec .badFlags s = .next s)

/-- A failed answer to a record fetch, a descriptor fetch or a completion ring write brings the device into HALTED
with its cause and detail 0, every block stopping as its rule gives (R132, R150, R167, R181). -/
def Obligations.FailedAccessesHaltTheDevice : Prop :=
  ∀ (s : State) (a : ReadAnswer 512) (b : ReadAnswer 128) (w : WriteAnswer),
    s.window.device = .enabled →
    (a.tracked = true → ReadFails a →
      s.requests.fetch ≠ none → exec (.requestFetchDone a) s =
        .next (haltedAt { s with requests := { s.requests with fetch := none } } .requestReadError 0)) ∧
    (b.tracked = true → ReadFails b →
      s.buffers.fetch ≠ none → exec (.descriptorFetchDone b) s =
        .next (haltedAt { s with buffers := { s.buffers with fetch := none } } .bufferReadError 0)) ∧
    (w.tracked = true → WriteFails w →
      s.completions.write ≠ none → exec (.completionWriteDone w) s =
        .next (haltedAt { s with completions := { s.completions with write := none } }
          .completionWriteError 0))

/-! ### Profiles, schedules and commits -/

/-- A STAGE whose pairs all pass (R32) writes the staged copy of its profile and nothing else: each field takes the
value of its last pair, the others stay, and it is answered OK with the number of pairs (R34); pending and active copies
are not touched (R35). -/
def Obligations.StageWritesTheLastPairs : Prop :=
  ∀ (s : State) (r : Record) (rest : List Record) (p : Fin 4), ImmediateTurn s r rest → HasKind r 0x01 →
    recordNat r 0x08 1 = p.val →
    let k := recordNat r 0x09 1
    k ≤ 12 → (∀ i < k, PairOk (stagePair r i)) →
    ∃ t, exec .stage s = .next t ∧
      (∀ id ∈ ([1, 2, 3, 4, 5, 6, 7, 8, 9] : List Nat), readField t.profiles[p].staged id =
        ((((List.range k).map (stagePair r)).filter fun x => x.1 == id).getLast?.map Prod.snd).getD
          (readField s.profiles[p].staged id)) ∧
      let c := { s.profiles[p] with staged := t.profiles[p].staged }
      t = answered { s with profiles := s.profiles.set p c } r rest ⟨.ok, 0, BitVec.ofNat 32 k⟩

/-- A STAGE is refused at its first failing check (R32): no such profile or more than 12 pairs, BAD_FIELD with detail
255; else the first failing pair i, BAD_FIELD for no profile field, RANGE for a value outside its range, with detail
i. A refused STAGE changes nothing (R34). -/
def Obligations.StageIsRefusedAtTheFirstFault : Prop :=
  ∀ (s : State) (r : Record) (rest : List Record) (i : Nat), ImmediateTurn s r rest → HasKind r 0x01 →
    let p := recordNat r 0x08 1
    let k := recordNat r 0x09 1
    let refused := fun (status : Status) (detail : Nat) =>
      exec .stage s = .next (answered s r rest ⟨status, BitVec.ofNat 8 detail, 0⟩)
    (4 ≤ p ∨ 12 < k → refused .badField 255) ∧
    (p < 4 → k ≤ 12 → i < k → (∀ j < i, PairOk (stagePair r j)) →
      (fieldRange (stagePair r i).1 = none → refused .badField i) ∧
      (fieldRange (stagePair r i).1 ≠ none → ¬ PairOk (stagePair r i) → refused .range i))

/-- A STAGE_SCHEDULE that passes every check replaces the staged schedule whole and is answered OK with its entry count
(R64); one that fails is refused at the first failing check and changes nothing (R63). -/
def Obligations.StageScheduleReplacesOrRefuses : Prop :=
  ∀ (s : State) (r : Record) (rest : List Record) (i : Nat), ImmediateTurn s r rest → HasKind r 0x02 →
    let count := recordNat r 0x08 1
    let refused := fun (status : Status) (detail : Nat) =>
      exec .stageSchedule s = .next (answered s r rest ⟨status, BitVec.ofNat 8 detail, 0⟩)
    (count < 1 ∨ 8 < count → refused .badField 255) ∧
    (1 ≤ count → count ≤ 8 → (∀ j < count, EntryOk (scheduleBodyEntry r j)) →
      exec .stageSchedule s = .next (answered { s with schedule := { s.schedule with
        staged := (List.range count).map fun j =>
          { profile := Fin.ofNat 4 (scheduleBodyEntry r j).1, repeats := (scheduleBodyEntry r j).2 } } }
        r rest ⟨.ok, 0, BitVec.ofNat 32 count⟩)) ∧
    (1 ≤ count → count ≤ 8 → i < count → (∀ j < i, EntryOk (scheduleBodyEntry r j)) →
      (4 ≤ (scheduleBodyEntry r i).1 → refused .badField i) ∧
      ((scheduleBodyEntry r i).1 < 4 → ¬ EntryOk (scheduleBodyEntry r i) → refused .range i))

/-- A COMMIT that passes every check (TABLE 3-2) and does not land at once becomes a PENDING group before every PENDING
group that is further ahead (R40, R48): each named profile's staged copy becomes its pending copy (R23), and so the
staged schedule if it is carried (R65); the answer is ACCEPTED with the landing frame. -/
def Obligations.CommitIsListedInLandingOrder : Prop :=
  ∀ (s : State) (r : Record) (rest : List Record), ImmediateTurn s r rest → HasKind r 0x03 →
    s.commits.Pairwise (InLandingOrder s) →
    let c := commitOperands r
    CommitPasses s c → ¬ (c.mode = 0 ∧ s.stream.state = .stopped) →
    let frame := if c.mode = 0 then s.stream.next else c.frame
    let g : CommitGroup := ⟨c.tag, setOf c.list, decide (c.flag = 1), frame, .pending, none⟩
    let further := fun (h : CommitGroup) => decide (h.state = .pending ∧ distance s g < distance s h)
    exec .commit s = .next (answered { s with
      profiles := Vector.ofFn fun p : Fin 4 =>
        if p.val ∈ c.list then { s.profiles[p] with pend := some s.profiles[p].staged } else s.profiles[p]
      schedule := { s.schedule with
        pend := if c.flag = 1 then some s.schedule.staged else s.schedule.pend }
      commits := s.commits.filter (fun h => !further h) ++ [g] ++ s.commits.filter further }
      r rest ⟨.accepted, 0, frame⟩)

/-- A COMMIT with landing NEXT that passes every check in STOPPED lands at once (R49): the staged copy of each named
profile becomes its active copy (R25), a carried schedule becomes active with the position at its entry 0, no group is
formed, and the answer is LANDED with the next frame. -/
def Obligations.CommitLandsAtOnceWhenStopped : Prop :=
  ∀ (s : State) (r : Record) (rest : List Record), ImmediateTurn s r rest → HasKind r 0x03 →
    let c := commitOperands r
    CommitPasses s c → c.mode = 0 → s.stream.state = .stopped →
    exec .commit s = .next (answered { s with
      profiles := Vector.ofFn fun p : Fin 4 =>
        if p.val ∈ c.list then { s.profiles[p] with active := s.profiles[p].staged } else s.profiles[p]
      schedule := if c.flag = 1 then { s.schedule with
        active := s.schedule.staged, entry := 0, remaining := repeatAt s.schedule.staged 0 }
        else s.schedule }
      r rest ⟨.landed, 0, s.stream.next⟩)

/-- A COMMIT is refused at the first failing check of TABLE 3-2, with its status and detail and aux 0, and changes
nothing (R42 to R47); a COMMIT that passes every check is one that no check refuses. -/
def Obligations.RefusedCommitChangesNothing : Prop :=
  ∀ (s : State) (r : Record) (rest : List Record), ImmediateTurn s r rest → HasKind r 0x03 →
    s.commits.length ≤ 4 →
    (∀ x ∈ commitRefusal s (commitOperands r),
      exec .commit s = .next (answered s r rest ⟨x.1, BitVec.ofNat 8 x.2, 0⟩)) ∧
    (commitRefusal s (commitOperands r) = none ↔ CommitPasses s (commitOperands r))

/-- WITHDRAW removes the PENDING group of its tag and discards what it would have landed, and is answered OK with the
group's landing frame; with no PENDING group of that tag it is answered NOT_FOUND and changes nothing. -/
def Obligations.WithdrawDiscardsAPendingGroup : Prop :=
  ∀ (s : State) (r : Record) (rest : List Record), ImmediateTurn s r rest → HasKind r 0x04 →
    (s.commits.map CommitGroup.tag).Nodup →
    let tag := recordField r 0x08 2
    (∀ g ∈ s.commits, g.state = .pending → g.tag = tag →
      exec .withdraw s = .next (answered { s with
        commits := s.commits.filter fun h => h.tag != tag
        profiles := Vector.ofFn fun p : Fin 4 =>
          if g.profileSet.getLsbD p.val then { s.profiles[p] with pend := none } else s.profiles[p]
        schedule := { s.schedule with pend := if g.scheduleFlag then none else s.schedule.pend } }
        r rest ⟨.ok, 0, g.landingFrame⟩)) ∧
    ((∀ g ∈ s.commits, g.tag = tag → g.state = .landedUnreported) →
      exec .withdraw s = .next (answered s r rest ⟨.notFound, 0, 0⟩))

/-! ### Runs -/

/-- START (R13): in STOPPED with no RECLAIM in progress the schedule position restarts (R69), the run's first frame is
set up (R8), fetching resumes (R145), and row 0 begins in FREE mode or the state is WAITING in TRIGGERED mode. A mode
that is neither is refused BAD_FIELD, and any other START BUSY, without effect. The row 0 of FREE mode cuts short a
maintenance window younger than 400 ticks (R74, R77), whose age the model takes from the maintenance timer (log 24), and
its strobe begins a CSTB pulse that is still high again, with no low level between the two, which is the model's choice
(R73 is silent; log 22). The spec gives no detail and no aux for START: they are free (log 8). That a RECLAIM counts as
pending from its taking to its completion is log 35. -/
def Obligations.StartBeginsARun : Prop :=
  ∀ (s : State) (r : Record) (rest : List Record), ImmediateTurn s r rest → HasKind r 0x05 →
    let mode := recordNat r 0x08 1
    let u := { s.schedule with entry := 0, remaining := repeatAt s.schedule.active 0 }
    let g := frameOf s u
    (mode ≤ 1 → s.stream.state = .stopped → s.buffers.reclaim = none →
      RecordsDistinct s → storeHeld s.coder ≤ 8192 →
      let records := s.records ++ recordsMade s u
      ∃ t, exec .start s = .next t ∧ FrameSetUp s t u ∧ t.buffers.paused = false ∧
        (∃ d a, t.completions = (answered s r rest ⟨.ok, d, a⟩).completions) ∧
        let taken := { s with
          commits := t.commits, profiles := t.profiles, schedule := t.schedule, buffers := t.buffers
          nextRef := t.nextRef, completions := t.completions, freeCount := s.freeCount + 1
          requests := { s.requests with intake := rest, head := headAfter s } }
        (mode = 0 → t.stream.mode = .free ∧ RowZeroBegun s t g records ∧
          OnlyTheRow taken t (cutsWindows s)) ∧
        (mode = 1 → t = { taken with
          records := records
          stream := { s.stream with
            state := .waiting, mode := .triggered, next := s.stream.next + 1, setUp := some g } })) ∧
    (1 < mode → ∃ d a, exec .start s =
      .next (answered { s with freeCount := s.freeCount + 1 } r rest ⟨.badField, d, a⟩)) ∧
    (mode ≤ 1 → s.stream.state ≠ .stopped ∨ s.buffers.reclaim ≠ none → ∃ d a, exec .start s =
      .next (answered { s with freeCount := s.freeCount + 1 } r rest ⟨.busy, d, a⟩))

/-- STOP END in RUNNING is a long request (R14, R153): the state is DRAINING, a set-up frame is cancelled at once (R17,
R141), and the request waits for the frame end. Outside RUNNING it is an immediate request (R151): in WAITING the set-up
frame is cancelled and the state is STOPPED, in DRAINING it is refused BUSY, in STOPPED it does nothing; a manner that
is neither END nor ABORT is refused BAD_FIELD (that STOP_END takes it is log 17). Detail and aux are free (log 8). -/
def Obligations.StopEndActsByTheStreamState : Prop :=
  ∀ (s : State) (r : Record) (rest : List Record), HasKind r 0x06 →
    let manner := recordNat r 0x08 1
    let done := fun (t : State) (status : Status) => ∃ d a, exec .stopEnd s =
      .next (answered { t with freeCount := s.freeCount + 1 } r rest ⟨status, d, a⟩)
    (LongTurn s r rest → manner = 0 → s.stream.state = .running →
      exec .stopEnd s = .next (listed { s with
        stream := { cancelledStream s.stream with state := .draining }
        records := recordsAfterCancel s } r rest .stopEnd none)) ∧
    (ImmediateTurn s r rest →
      (manner = 0 → s.stream.state = .waiting → done { s with
        stream := { cancelledStream s.stream with state := .stopped, missed := 0 }
        records := recordsAfterCancel s } .ok) ∧
      (manner = 0 → s.stream.state = .draining → done s .busy) ∧
      (manner = 0 → s.stream.state = .stopped → done s .ok) ∧
      (1 < manner → done s .badField))

/-- STOP ABORT outside STOPPED (R16): its REQUEST_DONE is OK; rows cease with the mark low, the row in progress is
abandoned (R92), the current frame's OPEN record closes with ABORTED and is delivered (R136 to R138), a dropped current
frame is reported (R142; after the REQUEST_DONE, log 20; beside waiting producers, log 29), the set-up frame is
cancelled (R17), and the state is STOPPED. The aborted frame's staged bytes stay to be written, and its header write is
issued at once if it has none unissued and no burst unanswered (R120, R122). No other record changes. In STOPPED it does
nothing more. Detail and aux are free (log 8). -/
def Obligations.StopAbortEndsTheRun : Prop :=
  ∀ (s : State) (r : Record) (rest : List Record), ImmediateTurn s r rest → HasKind r 0x06 →
    recordNat r 0x08 1 = 1 → RecordsDistinct s → SetUpHasRecord s →
    (s.stream.state = .stopped → ∃ d a, exec .stopAbort s =
      .next (answered { s with freeCount := s.freeCount + 1 } r rest ⟨.ok, d, a⟩)) ∧
    (s.stream.state ≠ .stopped →
      ∃ t, exec .stopAbort s = .next t ∧
        t.stream = { cancelledStream s.stream with
          state := .stopped, current := none, frameMark := false, missed := 0
          maintenance := if rowsRun s then some 0 else s.stream.maintenance } ∧
        t.row = none ∧
        t.requests = { s.requests with
          intake := rest, head := headAfter s, entries := t.requests.entries } ∧
        (if s.stream.state = .draining then StopEndAnswered s.requests.entries t.requests.entries
          else t.requests.entries = s.requests.entries) ∧
        (∃ d a, t.completions = ((s.stream.current.map
          (releasedCompletions { answered s r rest ⟨.ok, d, a⟩ with requests := t.requests })).getD
            (answered s r rest ⟨.ok, d, a⟩).completions)) ∧
        (∀ x ∈ s.records, x.phase = .opened → s.stream.current.bind recordOf = some x.ref →
          t.coder = (drained (nextTurn s.records) { s.coder with openFrame := none } (abortedRecord x)).1 ∧
          t.records = (recordsAfterCancel s).map fun z => if z.ref = x.ref then abortedRecord x else z) ∧
        ((∀ x ∈ s.records, x.phase = .opened → s.stream.current.bind recordOf ≠ some x.ref) →
          t.coder = s.coder ∧ t.records = recordsAfterCancel s) ∧
        t = { s with stream := t.stream, row := none, coder := t.coder, records := t.records,
                     requests := t.requests, completions := t.completions, freeCount := t.freeCount })

/-! ### Channels and ports -/

/-- SET_CHANNEL (R83): refused at the first failing check and then without effect; otherwise the entry takes the three
values, a ramp or PRBS starts again, and where the delivery changes the OPEN current frame gets LIVE_EDIT damage (R91).
Its answer is OK with the channel in aux. -/
def Obligations.SetChannelWritesTheEntry : Prop :=
  ∀ (s : State) (r : Record) (rest : List Record), ImmediateTurn s r rest → HasKind r 0x07 →
    RecordsDistinct s →
    let c := recordNat r 0x08 1
    let source := recordNat r 0x09 1
    let apply := recordNat r 0x0A 1
    let constant := (recordField r 0x0C 4).toInt
    let refused := fun (status : Status) (detail : Nat) =>
      exec .setChannel s = .next (answered s r rest ⟨status, BitVec.ofNat 8 detail, 0⟩)
    (16 ≤ c → refused .badField 255) ∧
    (c < 16 → fitted s ≤ c / 4 → refused .notFitted c) ∧
    (c < 16 → c / 4 < fitted s → 3 < source → refused .range 0) ∧
    (c < 16 → c / 4 < fitted s → source ≤ 3 → ¬ SampleValue constant → refused .range 1) ∧
    (c < 16 → c / 4 < fitted s → source ≤ 3 → SampleValue constant → 1 < apply → refused .range 2) ∧
    (∀ ch : Fin 16, ch.val = c → c / 4 < fitted s → source ≤ 3 → SampleValue constant → apply ≤ 1 →
      let new := writtenChannel s.channels[ch] source constant apply
      exec .setChannel s = .next (answered { s with
        channels := s.channels.set ch new
        records := if DeliveryChanges s.channels[ch] new then
          damagedRecords s (editedRecord s fun x => x == ch) 0x01 else s.records }
        r rest ⟨.ok, 0, BitVec.ofNat 32 c⟩))

/-- PORT_ALIGN (R78): refused at the first failing check; otherwise the port is ALIGNING with its counts at 0, the
change counted with cause ALIGN_REQUESTED (R80), an UP port's unanswered row reply abandoned, and its PENDING condition
DOWN, which may complete the row (R88); the request waits in the pending request list. -/
def Obligations.PortAlignBeginsAlignment : Prop :=
  ∀ (s : State) (r : Record) (rest : List Record), LongTurn s r rest → HasKind r 0x08 →
    let p := recordNat r 0x08 1
    let refused := fun (status : Status) (detail : Nat) =>
      exec .portAlign s = .next (listed s r rest .refused (some ⟨status, BitVec.ofNat 8 detail, 0⟩))
    (4 ≤ p → refused .badField 255) ∧
    (p < 4 → fitted s ≤ p → refused .notFitted p) ∧
    (∀ q : Fin 4, q.val = p → p < fitted s → s.ports[q].state = .aligning → refused .busy p) ∧
    (∀ q : Fin 4, q.val = p → p < fitted s → s.ports[q].state ≠ .aligning →
      let ports := s.ports.set q { changedPort s.ports[q] .aligning .alignRequested with
        window := windowAfterAlign s.ports[q] }
      ((∀ x ∈ s.row, x.conditions[q] ≠ .pending ∧ ¬ OthersDecided x q) →
        exec .portAlign s = .next (listed { s with ports := ports } r rest (.align q) none)) ∧
      (∀ x ∈ s.row, x.conditions[q] = .pending → ¬ OthersDecided x q →
        exec .portAlign s = .next (listed { s with
          ports := ports, row := some (decidedRow x q .down) } r rest (.align q) none)) ∧
      (∀ x ∈ s.row, x.conditions[q] = .pending → OthersDecided x q → RecordsDistinct s →
        storeHeld s.coder ≤ 8192 →
        let after := rowTaken s.coder s.records (decidedRow x q .down)
        exec .portAlign s = .next (listed { s with
          ports := ports, row := none, coder := after.1, records := after.2 } r rest (.align q) none)))

/-! ### Trim -/

/-- TRIM_PROGRAM and its steps: the checks in order, then the lowest BLANK slot (R102); the image read, with READ_ERROR
on failure (R103); the use mark, at once or after a slot read in progress (R104, R107); and after 2.5 ms the check and
the verify of what the slot reads back as (log 16), PROGRAMMED with OK or DEFECTIVE with VERIFY_FAILED (R104). A
verify before its time or without a programming has no effect (log 3), and an answer that is not awaited is discarded
(log 12). -/
def Obligations.TrimProgramBurnsTheLowestBlankSlot : Prop :=
  (∀ (s : State) (r : Record) (rest : List Record), LongTurn s r rest → HasKind r 0x09 →
    let address : Addr := recordField r 0x10 8
    let refused := fun (status : Status) =>
      exec .trimProgram s = .next (listed s r rest .refused (some ⟨status, 0, 0⟩))
    (address.toNat % 64 ≠ 0 → refused .range) ∧
    (address.toNat % 64 = 0 → s.trim.program ≠ .idle → refused .busy) ∧
    (address.toNat % 64 = 0 → s.trim.program = .idle → (∀ k : Fin 8, s.trim.slotStates[k] ≠ .blank) →
      refused .storeFull) ∧
    (address.toNat % 64 = 0 → s.trim.program = .idle → ∀ k : Fin 8, LowestBlank s.trim k →
      exec .trimProgram s = .next (listed { s with trim := { s.trim with
        program := .reading k address } } r rest .trimProgram none))) ∧
  (∀ (s : State) (a : ReadAnswer 512) (k : Fin 8) (address : Addr), s.trim.program = .reading k address →
    (a.tracked = false → exec (.trimImageReadDone a) s = .next s) ∧
    (a.tracked = true → ReadFails a → exec (.trimImageReadDone a) s = .next { s with
      trim := { s.trim with program := .idle }
      requests := { s.requests with
        entries := answeredWork s .trimProgram ⟨.readError, 0, BitVec.ofNat 32 k.val⟩ } }) ∧
    (a.tracked = true → ¬ ReadFails a → slotReadRuns s.trim = false →
      exec (.trimImageReadDone a) s = .next { s with trim := useMarkWritten s.trim k a.data }) ∧
    (a.tracked = true → ¬ ReadFails a → slotReadRuns s.trim = true →
      exec (.trimImageReadDone a) s =
        .next { s with trim := { s.trim with program := .held k a.data } })) ∧
  (∀ (s : State) (a : ReadAnswer 512), (∀ k address, s.trim.program ≠ .reading k address) →
    exec (.trimImageReadDone a) s = .next s) ∧
  (∀ (s : State) (back : Record) (checkBack : Half),
    (∀ k image elapsed, s.trim.program ≠ .programming k image elapsed) →
    exec (.trimProgramVerify back checkBack) s = .next s) ∧
  (∀ (s : State) (k : Fin 8) (image back : Record) (checkBack : Half) (elapsed : Nat),
    s.trim.program = .programming k image elapsed →
    let check := ~~~ halfwordSum image
    let good := back = image ∧ checkBack = check
    let a : Answer := ⟨if good then .ok else .verifyFailed, 0, BitVec.ofNat 32 k.val⟩
    (elapsed < 100000 → exec (.trimProgramVerify back checkBack) s = .next s) ∧
    (100000 ≤ elapsed → exec (.trimProgramVerify back checkBack) s = .next { s with
      trim := { s.trim with
        slots := s.trim.slots.set k ⟨true, some image, some check, decide (¬ good)⟩
        slotStates := s.trim.slotStates.set k (if good then .programmed else .defective)
        program := .idle
        load := match s.trim.load with
          | .waiting j => .slotRead j 0
          | other => other }
      requests := { s.requests with entries := answeredWork s .trimProgram a } }))

/-- TRIM_LOAD and its steps: the checks in order (R106); the slot read of 20 µs, which waits for a programming in
progress, or the host read (R107); then table and origin are replaced in one step (R96), the live edit comes into force
(R91), and the answer is OK; a failed host read is READ_ERROR and changes no entry. A use mark that waited is written
as the slot read ends (R107). A slot read's end before its time or without a slot read has no effect (log 3), and an
answer that is not awaited is discarded (log 12). -/
def Obligations.TrimLoadReplacesTheTable : Prop :=
  (∀ (s : State) (r : Record) (rest : List Record), LongTurn s r rest → HasKind r 0x0A →
    let source := recordNat r 0x08 1
    let slot := recordNat r 0x09 1
    let address : Addr := recordField r 0x10 8
    let refused := fun (status : Status) (detail : Nat) =>
      exec .trimLoad s = .next (listed s r rest .refused (some ⟨status, BitVec.ofNat 8 detail, 0⟩))
    let begun := fun (load : TrimLoading) =>
      exec .trimLoad s =
        .next (listed { s with trim := { s.trim with load := load } } r rest .trimLoad none)
    (1 < source ∨ (source = 0 ∧ 8 ≤ slot) → refused .badField 255) ∧
    (source = 1 → address.toNat % 64 ≠ 0 → refused .range 0) ∧
    (source = 1 → address.toNat % 64 = 0 → s.trim.load ≠ .idle → refused .busy 0) ∧
    (source = 1 → address.toNat % 64 = 0 → s.trim.load = .idle → begun (.hostRead address)) ∧
    (source = 0 → ∀ k : Fin 8, k.val = slot →
      (s.trim.load ≠ .idle → refused .busy 0) ∧
      (s.trim.load = .idle → s.trim.slotStates[k] ≠ .programmed → refused .absent slot) ∧
      (s.trim.load = .idle → s.trim.slotStates[k] = .programmed →
        begun (if programmingRuns s.trim then .waiting k else .slotRead k 0)))) ∧
  (∀ (s : State) (k : Fin 8) (elapsed : Nat), s.trim.load = .slotRead k elapsed → RecordsDistinct s →
    let loaded := trimLoaded s (s.trim.slots[k].image.getD 0) (.slot k) k.val
    (elapsed < 800 → exec .trimSlotReadDone s = .next s) ∧
    (800 ≤ elapsed → exec .trimSlotReadDone s = .next { loaded with
      trim := match s.trim.program with
        | .held j image => useMarkWritten loaded.trim j image
        | _ => loaded.trim })) ∧
  (∀ s : State, (∀ k elapsed, s.trim.load ≠ .slotRead k elapsed) →
    exec .trimSlotReadDone s = .next s) ∧
  (∀ (s : State) (a : ReadAnswer 512), (∀ address, s.trim.load ≠ .hostRead address) →
    exec (.trimHostReadDone a) s = .next s) ∧
  (∀ (s : State) (a : ReadAnswer 512) (address : Addr), s.trim.load = .hostRead address →
    RecordsDistinct s →
    (a.tracked = false → exec (.trimHostReadDone a) s = .next s) ∧
    (a.tracked = true → ReadFails a → exec (.trimHostReadDone a) s = .next { s with
      trim := { s.trim with load := .idle }
      requests := { s.requests with entries := answeredWork s .trimLoad ⟨.readError, 0, 255⟩ } }) ∧
    (a.tracked = true → ¬ ReadFails a →
      exec (.trimHostReadDone a) s = .next (trimLoaded s a.data .host 255)))

/-! ### Read-out, buffers and payload -/

/-- READ_OUT: the checks in order (R158), then the image as the state stands at the taking, with the request itself in
the pending list (R160), whose writes are issued (R161); and the responses of all its bursts, which answer it OK with
the size, or WRITE_ERROR (R161; one command brings them all, log 30). -/
def Obligations.ReadOutSnapshotsAnImage : Prop :=
  (∀ (s : State) (r : Record) (rest : List Record), LongTurn s r rest → HasKind r 0x0B →
    let o := readOutOperands r
    let kindKnown := 1 ≤ o.kind ∧ o.kind ≤ 8
    let aligned := o.target.toNat % 64 = 0
    let refused := fun (status : Status) (detail : BitVec 8) =>
      exec .readOut s = .next (listed s r rest .refused (some ⟨status, detail, 0⟩))
    (¬ kindKnown → refused .badField 255) ∧
    (kindKnown → ¬ SelectorValid o → refused .badField 0) ∧
    (kindKnown → SelectorValid o → ¬ aligned → refused .range 0) ∧
    (kindKnown → SelectorValid o → aligned → CopyAbsent s o → refused .absent 0) ∧
    (kindKnown → SelectorValid o → aligned → ¬ CopyAbsent s o →
      ∃ items ∈ imageItems (listed s r rest .refused none) o,
        (o.length < 8 + 4 * items.length → refused .range 1) ∧
        (8 + 4 * items.length ≤ o.length → exec .readOut s = .next (listed s r rest
          (.image (8 + 4 * items.length) (imageBursts o.target (imageBytes o.kind items))) none)))) ∧
  (∀ (s : State) (i size : Nat) (bursts : List ImageBurst) (responses : List Resp) (e : PendingEntry),
    s.window.device = .enabled → s.requests.entries[i]? = some e → e.work = .image size bursts →
    e.answer = none → responses.length = bursts.length →
    let failed := ∃ x ∈ responses, x = .slverr ∨ x = .decerr
    let a : Answer := if failed then ⟨.writeError, 0, 0⟩ else ⟨.ok, 0, BitVec.ofNat 32 size⟩
    exec (.imageWriteDone i responses) s = .next { s with requests := { s.requests with
      entries := s.requests.entries.set i { e with answer := some a } } })

/-- Every image a READ_OUT can name holds the items of TABLE 9-3 and TABLE 9-4 for its kind, in their order and with
their identifiers (R159, R160), after a header of its kind and item count (TABLE 11-11); it fits 256 bytes, and its
bursts carry exactly its bytes in ascending order, in one or two bursts of at most 256 bytes, none crossing a multiple
of 256 (R161). The bounds this needs hold in a machine that meets the invariant and at its taking of a READ_OUT. That
the address of the second burst wraps past 2⁶⁴ − 1 is log 39. -/
def Obligations.ReadOutImagesFitTheirBursts : Prop :=
  (∀ (s : State) (o : ReadOutOperands), 1 ≤ o.kind → o.kind ≤ 8 → imageItems s o = imageOf s o) ∧
  (∀ (s : State) (r : Record) (rest : List Record), Inv s →
    ImageBounded s ∧ ImageBounded (listed s r rest .refused none)) ∧
  (∀ (s : State) (o : ReadOutOperands) (items : List Item), ImageBounded s → 1 ≤ o.kind → o.kind ≤ 8 →
    imageItems s o = some items →
    let bytes := imageBytes o.kind items
    let bursts := imageBursts o.target bytes
    bytes.length = 8 + 4 * items.length ∧ bytes.length ≤ 256 ∧
      littleEndian (bytes.take 8) = o.kind + items.length * 2 ^ 16 ∧
      bytes.drop 8 = (items.flatMap fun x => [BitVec.ofNat 8 x.1, BitVec.ofNat 8 x.2,
        BitVec.ofNat 8 (x.2 / 2 ^ 8), BitVec.ofNat 8 (x.2 / 2 ^ 16)]) ∧
      (bursts.length = 1 ∨ bursts.length = 2) ∧ (bursts.map ImageBurst.data).flatten = bytes ∧
      (∀ b ∈ bursts, 0 < b.data.length ∧ b.address.toNat % 256 + b.data.length ≤ 256) ∧
      (∀ x ∈ bursts.zip bursts.tail,
        x.2.address = x.1.address + BitVec.ofNat 64 x.1.data.length) ∧
      bursts.head?.map ImageBurst.address = some o.target)

/-- RECLAIM (R143 to R145): BUSY with detail 0 unless STOPPED and with detail 1 while one is in progress; otherwise
fetching pauses, and the RECLAIM completes at once if nothing is held and posted, or is in progress with BF_TAIL as
target. Each of its grants returns the head of the buffer list as RECLAIMED, and the last completes it. -/
def Obligations.ReclaimReturnsWhatIsHeld : Prop :=
  (∀ (s : State) (r : Record) (rest : List Record), LongTurn s r rest → HasKind r 0x0C →
    let target := s.window.bfTail.toNat
    (s.stream.state ≠ .stopped →
      exec .reclaim s = .next (listed s r rest .refused (some ⟨.busy, 0, 0⟩))) ∧
    (s.stream.state = .stopped → s.buffers.reclaim ≠ none →
      exec .reclaim s = .next (listed s r rest .refused (some ⟨.busy, 1, 0⟩))) ∧
    (s.stream.state = .stopped → s.buffers.reclaim = none → AllReturned s.buffers target →
      exec .reclaim s = .next (listed { s with buffers := { s.buffers with paused := true } }
        r rest .reclaim (some ⟨.ok, 0, 0⟩))) ∧
    (s.stream.state = .stopped → s.buffers.reclaim = none → ¬ AllReturned s.buffers target →
      exec .reclaim s = .next (listed { s with buffers := { s.buffers with
        paused := true, reclaim := some ⟨target, 0⟩ } } r rest .reclaim none))) ∧
  (∀ (s : State) (i : Nat) (e : PendingEntry) (d : Descriptor) (ds : List Descriptor) (x : Reclaim),
    GrantPossible s → ProducersQuiet s → s.requests.entries[i]? = some e → e.work = .reclaim →
    e.answer = none → s.buffers.reclaim = some x → s.buffers.list = d :: ds →
    (∀ y ∈ s.requests.entries.take i, EntryQuiet s y) →
    let b := { s.buffers with list := ds, reclaim := some ⟨x.target, x.returned + 1⟩ }
    let a : Answer := ⟨.ok, 0, BitVec.ofNat 32 (x.returned + 1)⟩
    (¬ AllReturned b x.target → exec .reclaimedReturn s =
      .next (placed { s with buffers := b } (.bufferReturned d.tag .reclaimed))) ∧
    (AllReturned b x.target → exec .reclaimedReturn s =
      .next (placed { s with
        buffers := { b with reclaim := none }
        requests := { s.requests with entries := answeredWork s .reclaim a } }
        (.bufferReturned d.tag .reclaimed))))

/-- Descriptor fetches: one is issued when R129 or, under RECLAIM, R144 says so, at base + 16 × ring head, the head
advancing, and otherwise the command has no effect (log 3); its answer joins the buffer list if it meets R130 or was
fetched for a RECLAIM, and otherwise enters the reject latch (R131), which may be what a RECLAIM in progress still
awaited (R144). -/
def Obligations.DescriptorsAreFetchedAndValidated : Prop :=
  (∀ s : State, 0 < bufferSize s →
    let issued := fun (forReclaim : Bool) => ({ s with buffers := { s.buffers with
      fetch := some ⟨s.window.setup.buffer.base + BitVec.ofNat 64 (16 * s.buffers.ringHead), forReclaim⟩
      ringHead := if s.buffers.ringHead + 1 < bufferSize s then s.buffers.ringHead + 1 else 0 } } :
      State)
    (ReclaimFetchDue s → exec .descriptorFetchIssue s = .next (issued true)) ∧
    (¬ ReclaimFetchDue s → OrdinaryFetchDue s → exec .descriptorFetchIssue s = .next (issued false)) ∧
    (¬ ReclaimFetchDue s → ¬ OrdinaryFetchDue s → exec .descriptorFetchIssue s = .next s)) ∧
  (∀ (s : State) (f : DescriptorFetch) (a : ReadAnswer 128), s.window.device = .enabled →
    s.buffers.fetch = some f → a.tracked = true → ¬ ReadFails a →
    let d : Descriptor := ⟨recordField a.data 0 8, recordField a.data 8 4, recordField a.data 12 4⟩
    let latched := { s.buffers with fetch := none, latch := some d }
    (f.forReclaim = true ∨ GoodDescriptor d → exec (.descriptorFetchDone a) s = .next { s with
      buffers := { s.buffers with fetch := none, list := s.buffers.list ++ [d] } }) ∧
    (f.forReclaim = false → ¬ GoodDescriptor d →
      (∀ x ∈ s.buffers.reclaim, ¬ AllReturned latched x.target) →
      exec (.descriptorFetchDone a) s = .next { s with buffers := latched }) ∧
    (f.forReclaim = false → ¬ GoodDescriptor d → ∀ x ∈ s.buffers.reclaim, AllReturned latched x.target →
      let answer : Answer := ⟨.ok, 0, BitVec.ofNat 32 x.returned⟩
      exec (.descriptorFetchDone a) s = .next { s with
        buffers := { latched with reclaim := none }
        requests := { s.requests with entries := answeredWork s .reclaim answer } }))

/-- A payload burst (R120): the oldest unissued bytes of one frame, up to the next host address that is a multiple of
256, once the frame's bytes reach it or its capture has ended; never more than 256 bytes, and no burst before: the
command then has no effect (log 3). An address past 2⁶⁴ − 1 wraps (log 39). -/
def Obligations.PayloadBurstsStopAtMultiplesOf256 : Prop :=
  ∀ (s : State) (first : StagedByte) (more : List StagedByte) (x : FrameRecord),
    s.window.device = .enabled → s.coder.unissued = first :: more → x ∈ s.records → x.ref = first.ref →
    RecordsDistinct s →
    let address := x.descriptor.address + BitVec.ofNat 64 first.offset
    let room := 256 - address.toNat % 256
    let run := s.coder.unissued.takeWhile fun b => b.ref == first.ref
    let n := min room run.length
    (run.length < room → x.phase = .opened → exec .payloadBurstIssue s = .next s) ∧
    (room ≤ run.length ∨ x.phase ≠ .opened → exec .payloadBurstIssue s = .next { s with
      coder := { s.coder with
        unissued := s.coder.unissued.drop n
        bursts := s.coder.bursts ++
          [⟨x.ref, address, first.offset, (s.coder.unissued.take n).map StagedByte.value⟩] } })

/-- The answers to payload bursts and header writes: a burst's bytes leave the staging store (R121); a failed one
adds WRITE_ERROR damage, discards the frame's unissued bytes and refuses its later rows (R121); the last answer of a
CLOSING frame drains it (R122, R123, R139); a header's answer ends the frame with FRAME_DONE, with WRITE_ERROR damage if
it failed (R123, R139). A record that enters REPORT_WAIT does so after every record that waits (log 15 for its turn). -/
def Obligations.WriteAnswersDrainTheFrame : Prop :=
  (∀ (s : State) (i : Nat) (b : PayloadBurst) (x : FrameRecord) (a : WriteAnswer),
    s.window.device = .enabled → s.coder.bursts[i]? = some b → x ∈ s.records → x.ref = b.ref →
    RecordsDistinct s → a.tracked = true →
    let c := { s.coder with bursts := s.coder.bursts.eraseIdx i }
    let failed := { c with
      unissued := c.unissued.filter fun y => y.ref != b.ref
      stop := if c.openFrame = some b.ref then .writeFailed else c.stop }
    let after := if WriteFails a then drained (nextTurn s.records) failed { x with damage := x.damage ||| 0x20 }
      else drained (nextTurn s.records) c x
    exec (.payloadWriteDone i a) s = .next { s with coder := after.1, records := withRecord s after.2 }) ∧
  (∀ (s : State) (i : Nat) (h : HeaderWrite) (x : FrameRecord) (a : WriteAnswer),
    s.window.device = .enabled → s.coder.headers[i]? = some h → x ∈ s.records → x.ref = h.ref →
    RecordsDistinct s → a.tracked = true →
    exec (.headerWriteDone i a) s = .next { s with
      coder := { s.coder with headers := s.coder.headers.eraseIdx i }
      records := withRecord s { x with
        damage := if WriteFails a then x.damage ||| 0x20 else x.damage
        phase := .reportWait, reportKind := some .frameDone, turn := nextTurn s.records } })

/-! ### Completions -/

/-- A completion ring write (R166): issued for the queue's head with room in the ring, at base + 32 × tail with the
current phase; its success takes the head out of the queue and advances the tail, the phase changing at the wrap, and
the posting acts on the notice line and timer by the table of R172. An expired timer raises the line; an expiry that is
not due has no effect (log 3). -/
def Obligations.CompletionsArePostedInOrder : Prop :=
  (∀ (s : State) (c : Completion) (rest : List Completion), 0 < completionSize s →
    s.completions.holding = c :: rest →
    let n := completionSize s
    let due := s.window.device = .enabled ∧ s.completions.write = none ∧
      modDiff n s.completions.tail s.window.cpHead.toNat < n - 1
    (due → exec .completionWriteIssue s = .next { s with completions := { s.completions with
      write := some ⟨s.window.setup.completion.base + BitVec.ofNat 64 (32 * s.completions.tail),
        encodeCompletion s.completions.phase c⟩ } }) ∧
    (¬ due → exec .completionWriteIssue s = .next s)) ∧
  (∀ (s : State) (a : WriteAnswer) (c : Completion) (rest : List Completion), 0 < completionSize s →
    s.window.device = .enabled → s.completions.write ≠ none → s.completions.holding = c :: rest →
    a.tracked = true → ¬ WriteFails a →
    let n := completionSize s
    let wraps := ¬ s.completions.tail + 1 < n
    let tail := if wraps then 0 else s.completions.tail + 1
    let count := modDiff n tail s.window.cpHead.toNat
    let threshold := max 1 s.window.setup.threshold
    let u := { s.completions with
      holding := rest, write := none, tail := tail
      phase := if wraps then !s.completions.phase else s.completions.phase }
    (s.completions.notice = true →
      exec (.completionWriteDone a) s = .next { s with completions := u }) ∧
    (s.completions.notice = false → threshold ≤ count → exec (.completionWriteDone a) s =
      .next { s with completions := { u with notice := true, timer := none } }) ∧
    (s.completions.notice = false → count < threshold → s.completions.timer ≠ none →
      exec (.completionWriteDone a) s = .next { s with completions := u }) ∧
    (s.completions.notice = false → count < threshold → s.completions.timer = none →
      exec (.completionWriteDone a) s = .next { s with completions := { u with
        timer := if s.window.setup.holdoff = 0 then none else some (40 * s.window.setup.holdoff) } })) ∧
  (∀ s : State,
    (s.completions.timer = some 0 → exec .noticeTimerExpiry s = .next { s with
      completions := { s.completions with notice := true, timer := none } }) ∧
    (s.completions.timer ≠ some 0 → exec .noticeTimerExpiry s = .next s))

/-- The arbiter (R168, R169): no grant outside ENABLED or without a free entry; otherwise the first waiter in the order
of TABLE 10-3: the waiting record of the lowest sequence number, of two with equal numbers the one that entered
REPORT_WAIT first (R139; log 15), the first landed group (R52), the lowest
waiting port (R81), the reject latch, the drop summary, the oldest waiting request (R157), an immediate request. -/
def Obligations.ArbiterGrantsInOrder : Prop :=
  ∀ (s : State) (base : Word), (∀ r ∈ s.records, (r.sequence - base).toNat < 2 ^ 31) →
    (¬ GrantPossible s → grant s = none) ∧
    (GrantPossible s →
      ((∃ r ∈ s.records, r.phase = .reportWait) →
        ∃ r ∈ s.records, r.phase = .reportWait ∧ grant s = some (.record r.ref) ∧
          ∀ x ∈ s.records, x.phase = .reportWait →
            (r.sequence - base).toNat ≤ (x.sequence - base).toNat ∧
              (r.sequence = x.sequence → r.turn ≤ x.turn)) ∧
      ((∀ r ∈ s.records, r.phase ≠ .reportWait) →
        ((∃ g ∈ s.commits, g.state = .landedUnreported) → grant s = some .group) ∧
        ((∀ g ∈ s.commits, g.state ≠ .landedUnreported) →
          (∀ p : Fin 4, ¬ PortQuiet s.ports[p] → (∀ q : Fin 4, q < p → PortQuiet s.ports[q]) →
            grant s = some (.port p)) ∧
          ((∀ p : Fin 4, PortQuiet s.ports[p]) →
            (s.buffers.latch ≠ none → grant s = some .latch) ∧
            (s.buffers.latch = none → s.completions.summary ≠ none → grant s = some .summary) ∧
            (s.buffers.latch = none → s.completions.summary = none →
              (∀ i < s.requests.entries.length,
                (∀ e ∈ s.requests.entries[i]?, ¬ EntryQuiet s e) →
                (∀ e ∈ s.requests.entries.take i, EntryQuiet s e) → grant s = some (.long i)) ∧
              ((∀ e ∈ s.requests.entries, EntryQuiet s e) →
                (s.requests.intake = [] → grant s = none) ∧
                ∀ r rest, s.requests.intake = r :: rest →
                  (LongRecord s r → grant s = none) ∧
                    (¬ LongRecord s r → grant s = some .immediate)))))))

/-- What each granted producer places, and what it gives up: a record is freed (R139), a group leaves the list (R52), a
port is reported (R81), the latch empties (R131), the summary is absent (R171), a ready entry is freed (R156, R157). A
producer does nothing while the arbiter grants nothing or another producer, and the taking of a request nothing unless
the intake's head is its record and may be taken: an immediate one by its grant, a long one with an entry free in the
pending list (R151 to R153; log 3). -/
def Obligations.GrantsEmptyTheirProducers : Prop :=
  ∀ s : State,
    (RecordsDistinct s → ∀ r ∈ s.records, grant s = some (.record r.ref) →
      exec .frameReportGrant s =
        .next (placed { s with records := s.records.filter fun x => x.ref != r.ref } (reportCompletion r))) ∧
    (grant s = some .group → (s.commits.map CommitGroup.tag).Nodup →
      ∀ g ∈ s.commits.find? (fun (h : CommitGroup) => h.state == .landedUnreported), g.landedFrame.isSome = true →
      exec .commitLanded s = .next (placed { s with
        commits := s.commits.filter fun h => h.tag != g.tag }
        (.commitLanded g.tag (g.landedFrame.getD 0) g.profileSet g.scheduleFlag))) ∧
    (∀ p : Fin 4, grant s = some (.port p) →
      let q := s.ports[p]
      exec .portEvent s = .next (placed { s with
        ports := s.ports.set p { q with lastReported := q.state, changeCount := 0 } }
        (.portEvent p q.state q.lastCause q.changeCount))) ∧
    (grant s = some .latch → ∀ d ∈ s.buffers.latch,
      exec .rejectedReturn s = .next (placed { s with
        buffers := { s.buffers with latch := none } } (.bufferReturned d.tag .rejected))) ∧
    (grant s = some .summary → ∀ d ∈ s.completions.summary,
      exec .dropSummaryGrant s = .next (placed { s with
        completions := { s.completions with summary := none } }
        (.frameDropped d.first d.last d.count d.reasons))) ∧
    (∀ i < s.requests.entries.length, grant s = some (.long i) → ∀ e ∈ s.requests.entries[i]?,
      ∀ a ∈ e.answer,
      exec .longRequestDone s = .next (placed { s with
        requests := { s.requests with entries := s.requests.entries.eraseIdx i } }
        (.requestDone e.tag e.kind a e.ringHead))) ∧
    ((∀ ref, grant s ≠ some (.record ref)) → exec .frameReportGrant s = .next s) ∧
    (grant s ≠ some .group → exec .commitLanded s = .next s) ∧
    ((∀ p, grant s ≠ some (.port p)) → exec .portEvent s = .next s) ∧
    (grant s ≠ some .latch → exec .rejectedReturn s = .next s) ∧
    (grant s ≠ some .summary → exec .dropSummaryGrant s = .next s) ∧
    ((∀ i, grant s = some (.long i) → ∀ e ∈ s.requests.entries[i]?, e.answer = none) →
      exec .longRequestDone s = .next s) ∧
    ((∀ i, grant s = some (.long i) → ∀ e ∈ s.requests.entries[i]?, e.answer ≠ none) →
      exec .reclaimedReturn s = .next s) ∧
    (∀ c ∈ takings, (∀ r rest, s.requests.intake = r :: rest → commandOf r = c → ¬ TakingDue s r) →
      exec c s = .next s)

/-! ### Arithmetic and codings -/

/-- The corrected value of a converter sample with trim_apply 1, by the entry of the row's table: the product is exact,
q is its quotient by 16384 rounded toward minus infinity, and the sum with the offset is clamped at the end only. With
trim_apply 0 the sample is the raw code, −32768 taken as −32767 (R86); a test source gives the value fixed at the strobe
whatever the port's condition (R82); a converter channel of a BAD or DOWN port gives the marker (R86, R87). -/
def Obligations.TrimArithmeticClampsAtTheEnd : Prop :=
  ∀ (r : IntakeRow) (c : Fin 16) (w1 w2 w3 w4 : Half) (trimmed : Bool) (v : Int),
    let condition := r.conditions[(⟨c.val / 4, by omega⟩ : Fin 4)]
    let e := r.trim[c]
    let w := if c.val % 4 = 0 then w1 else if c.val % 4 = 1 then w2 else if c.val % 4 = 2 then w3 else w4
    let raw : Int := if w = 0x8000#16 then -32767 else w.toInt
    (r.fixed[c] = .test v → sampleOf r c = v) ∧
    (r.fixed[c] = .converter false → condition = .good w1 w2 w3 w4 → sampleOf r c = raw) ∧
    (r.fixed[c] = .converter true → condition = .good w1 w2 w3 w4 →
      let p := raw * e.gain
      (e.gain ≤ 65535 → -2147385345 ≤ p ∧ p ≤ 2147385345) ∧
      (∀ q : Int, 16384 * q ≤ p → p < 16384 * (q + 1) →
        sampleOf r c = if q + e.offset < -32767 then -32767
          else if 32767 < q + e.offset then 32767 else q + e.offset) ∧
      (e.gain = 16384 → e.offset = 0 → sampleOf r c = raw) ∧
      (e.gain = 0 → sampleOf r c = max (-32767) (min 32767 e.offset)) ∧
      sampleOf r c ≠ -32768) ∧
    (r.fixed[c] = .converter trimmed → condition = .bad ∨ condition = .down → sampleOf r c = -32768)

/-- RAW16: each sample is its 16-bit two's complement code, least significant byte first, one after another, and reads
back as itself; among the values a row can hold only the marker is coded 0x8000. -/
def Obligations.Raw16IsTwosComplement : Prop :=
  ∀ (preds : Vector (Option Int) 16) (xs : List (Fin 16 × Int)),
    codeSamples .raw16 preds xs = xs.flatMap (fun x =>
      [(BitVec.ofInt 16 x.2).extractLsb' 0 8, (BitVec.ofInt 16 x.2).extractLsb' 8 8]) ∧
    ∀ x ∈ xs, SampleValue x.2 ∨ x.2 = -32768 →
      signedValue 16 (littleEndian (codeSamples .raw16 preds [x])) = x.2 ∧
      (codeSamples .raw16 preds [x] = [0x00#8, 0x80#8] ↔ x.2 = -32768)

/-- PACK12 reads back as the reduced values: floor(s / 16), with −2048 for the marker alone and −2047 in its place, within
16 of the sample when multiplied by 16; a pair takes 3 bytes, its first sample in the low 12 bits, and an odd last
sample 2 bytes with zeros in the high 4 bits. -/
def Obligations.Pack12ReadsBack : Prop :=
  ∀ xs : List Int, (∀ v ∈ xs, SampleValue v ∨ v = -32768) →
    let t := fun (v : Int) => if v = -32768 then -2048 else max (-2047) (v / 16)
    (codePack12 xs).length = 3 * (xs.length / 2) + 2 * (xs.length % 2) ∧
      readPack12 xs.length (codePack12 xs) = xs.map t ∧
      (xs.length % 2 = 1 → ∀ b ∈ (codePack12 xs).getLast?, b.toNat < 16) ∧
      ∀ v ∈ xs, (t v = -2048 ↔ v = -32768) ∧ -16 < 16 * t v - v ∧ 16 * t v - v < 16

/-- DELTA8 codes a row sample by sample (R116): one byte, the signed 8-bit code of the difference d from the channel's
predecessor, when that is present, neither is the marker and d lies in −127 to 127; otherwise the escape 0x80 and the
sample's 16-bit code, least significant byte first. It decodes to what was coded: a reader that holds the coder's
predecessors takes the samples of a row back one by one, whatever bytes follow, every sample at every value a row can
hold. -/
def Obligations.Delta8RoundTrip : Prop :=
  ∀ (preds : Vector (Option Int) 16) (xs : List (Fin 16 × Int)) (rest : List Byte),
    codeSamples .delta8 preds xs = xs.flatMap (fun x => codeSamples .delta8 preds [x]) ∧
    (∀ x ∈ xs, ∀ p, preds[x.1] = some p → OneByteDelta p x.2 →
      codeSamples .delta8 preds [x] = [BitVec.ofInt 8 (x.2 - p)]) ∧
    (∀ x ∈ xs, (∀ p, preds[x.1] = some p → ¬ OneByteDelta p x.2) →
      codeSamples .delta8 preds [x] =
        [0x80#8, (BitVec.ofInt 16 x.2).extractLsb' 0 8, (BitVec.ofInt 16 x.2).extractLsb' 8 8]) ∧
    ((∀ x ∈ xs, SampleValue x.2 ∨ x.2 = -32768) →
      readDelta8 preds (xs.map Prod.fst) (codeSamples .delta8 preds xs ++ rest) =
        some (xs.map Prod.snd, rest))

/-- Sizes of what the device writes: a coded row is a multiple of 4 bytes and at most 52 bytes long, its samples after
the 4 bytes of its stamp (R112, TABLE 7-2), whose bits are those of TABLE 11-10 (R113); a completion is 32 bytes with
its kind code, its phase and the fields of TABLE 11-7 at their offsets (R164), its status by its code in TABLE 11-13; a
frame header is 64 bytes with the fields of TABLE 11-9 (R124); every byte outside the fields is 0 (R182). -/
def Obligations.WrittenRecordsHaveTheirSizes : Prop :=
  (∀ (p : Profile) (preds : Vector (Option Int) 16) (h : Handover), h.samples.length ≤ 16 →
    let row := codeRow p preds h
    let samples := codeSamples p.sampleFormat preds h.samples
    let stamp := if p.rowStamps then rowStamp h.index h.bad else []
    row.length % 4 = 0 ∧ row.length ≤ 52 ∧ row.take (stamp.length + samples.length) = stamp ++ samples ∧
      row.length < stamp.length + samples.length + 4 ∧
      (p.rowStamps = true → stamp.length = 4 ∧ littleEndian stamp = stampValue h.index h.bad) ∧
      ∀ b ∈ row.drop (stamp.length + samples.length), b = 0) ∧
  (∀ (phase : Bool) (c : Completion), (encodeCompletion phase c).length = 32 ∧
    littleEndian (encodeCompletion phase c) = recordOfFields
      ([(0x00, 1, (completionLayout c).1), (0x01, 1, flag phase)] ++ (completionLayout c).2)) ∧
  (∀ r : FrameRecord, (frameHeader r).length = 64 ∧
    littleEndian (frameHeader r) = recordOfFields (headerLayout r))

/-! ### Invariants -/

/-- The machine right after power-on reset meets every invariant. -/
def Obligations.ResetMeetsTheInvariant : Prop := Inv State.reset

/-- Every step keeps the capacities (R118, R127, R128, R149, R153, R165), the ranges of the profile copies (R21) and the
rules on the commit list (R23, R39 to R41) and the schedule (R60, R67). The bound on a PENDING group's distance, which
grows by the cancellation of a set-up frame (R57) against R40's remark, is the DEDUCED choice of log 31. -/
def Obligations.StepsKeepCapacitiesProfilesAndCommits : Prop :=
  ∀ s t : State, Inv s → step s = .next t →
    CapacityInv t ∧ ProfileInv t ∧ CommitInv t ∧ ScheduleInv t

/-- Every step keeps the stream controller's shape (TABLE 1-2, R4, R5, R7, R12), the frame record table (R127, R134 to
R139) and the payload writer's bounds: no byte outside the payload area of its frame's buffer (R119 to R123). -/
def Obligations.StepsKeepFramesAndPayloadInside : Prop :=
  ∀ s t : State, Inv s → step s = .next t → StreamInv t ∧ FrameInv t ∧ PayloadInv t

/-- Every step keeps the ports' counts and the sources' ranges (R76, R77, R80, R84, R85, R87), the trim unit in agreement
with its store (R99, R100), no written field of which changes (R99), and one pending-list entry for each long operation
in progress (R153). -/
def Obligations.StepsKeepPortsTrimAndEntries : Prop :=
  ∀ s t : State, Inv s → step s = .next t →
    PortInv t ∧ SourceInv t ∧ TrimInv t ∧ EntriesInv t ∧
      ∀ k : Fin 8, SlotKept s.trim.slots[k] t.trim.slots[k]

/-- Every step keeps the ring indices in their rings (R149, R166, R177, R180), the cause with the device state (R178,
R181) and the notice line and timer with the count posted (R172, R173). -/
def Obligations.StepsKeepRingsCauseAndNotice : Prop :=
  ∀ s t : State, Inv s → step s = .next t → RingInv t ∧ CauseInv t ∧ NoticeInv t

/-- HALTED is left only by a reset, and until then only the registers SETUP_LO and SETUP_HI, the time counter, the
maintenance timer and the port lines with their reply windows change (R181, R6, R4, R73, R94, R176, R18 and every block's
rule on HALTED). -/
def Obligations.HaltedIsLeftOnlyByReset : Prop :=
  ∀ s t : State, Inv s → s.window.device = .halted → (∀ c ∈ s.pending.head?, isReset c = false) →
    step s = .next t →
    t.window.device = .halted ∧
      (∀ p : Fin 4, t.ports[p] = { s.ports[p] with
        pulse := t.ports[p].pulse, window := t.ports[p].window }) ∧
      t = { s with
        pending := s.pending.tail
        window := { s.window with setupLo := t.window.setupLo, setupHi := t.window.setupHi }
        stream := { s.stream with
          timeCounter := t.stream.timeCounter, maintenance := t.stream.maintenance }
        ports := t.ports }

/-- No buffer is lost or returned twice (R133): apart from resets, the tags of the buffers held after a command, and of
one returned by a completion it posts, are those held before and the one of a descriptor it brings. -/
def Obligations.BuffersAreConserved : Prop :=
  ∀ (c : Instr) (s t : State), Inv s → isReset c = false → exec c s = .next t →
    (heldTags t ++ postedTags c s).Perm (heldTags s ++ fetchedTags c s)

/-- Who may change what: the time counter and the straps only power-on reset (besides the tick, R6, R72); the trim store
only the steps of a programming (R99); the channel table only SET_CHANNEL, row beginnings and resets (R82, R83); active
copies only setups, COMMIT and resets (R25); the next frame sequence number only setups, cancellations and resets (R7);
the rings' sizes and bases only the entry into ENABLED and resets (R177). A profile's three copies together and the
schedule change by STAGE or STAGE_SCHEDULE and by WITHDRAW too. -/
def Obligations.FieldsHaveTheirWriters : Prop :=
  ∀ (c : Instr) (s t : State), exec c s = .next t → isReset c = false →
    t.pending = s.pending ∧ t.stream.timeCounter = s.stream.timeCounter ∧
      t.window.straps = s.window.straps ∧
      (t.window.setup ≠ s.window.setup → answersSetup c = true) ∧
      (t.trim.slots ≠ s.trim.slots → writesSlots c = true) ∧
      (t.trim.table ≠ s.trim.table → writesTrimTable c = true) ∧
      (t.channels ≠ s.channels → c = .setChannel ∨ c = .rowEnd ∨ c = .triggerEdge ∨ c = .start) ∧
      (t.profiles ≠ s.profiles →
        c = .stage ∨ c = .commit ∨ c = .withdraw ∨ c = .rowEnd ∨ c = .start) ∧
      (∀ p : Fin 4, t.profiles[p].active ≠ s.profiles[p].active → c = .commit ∨ c = .rowEnd ∨ c = .start) ∧
      (t.schedule ≠ s.schedule →
        c = .stageSchedule ∨ c = .commit ∨ c = .withdraw ∨ c = .rowEnd ∨ c = .start) ∧
      (t.stream.next ≠ s.stream.next → c = .rowEnd ∨ c = .start ∨ c = .stopEnd ∨ c = .stopAbort)

end Statements
end

