-- ==== Sys2Proof/Laws/State.lean ====
section
/-! SUPPORT. What each named update of State does to each of its fields, true by definition, so that no proof unfolds
a record update. -/

namespace Sys2Proof.Laws

open Sys2Proof.Machine

/-! ### place: a completion enters the holding queue. -/

@[simp] theorem place_pending (s : State) (c : Completion) : (place s c).pending = s.pending := rfl
@[simp] theorem place_window (s : State) (c : Completion) : (place s c).window = s.window := rfl
@[simp] theorem place_stream (s : State) (c : Completion) : (place s c).stream = s.stream := rfl
@[simp] theorem place_profiles (s : State) (c : Completion) : (place s c).profiles = s.profiles := rfl
@[simp] theorem place_commits (s : State) (c : Completion) : (place s c).commits = s.commits := rfl
@[simp] theorem place_schedule (s : State) (c : Completion) : (place s c).schedule = s.schedule := rfl
@[simp] theorem place_ports (s : State) (c : Completion) : (place s c).ports = s.ports := rfl
@[simp] theorem place_channels (s : State) (c : Completion) : (place s c).channels = s.channels := rfl
@[simp] theorem place_row (s : State) (c : Completion) : (place s c).row = s.row := rfl
@[simp] theorem place_trim (s : State) (c : Completion) : (place s c).trim = s.trim := rfl
@[simp] theorem place_coder (s : State) (c : Completion) : (place s c).coder = s.coder := rfl
@[simp] theorem place_records (s : State) (c : Completion) : (place s c).records = s.records := rfl
@[simp] theorem place_buffers (s : State) (c : Completion) : (place s c).buffers = s.buffers := rfl
@[simp] theorem place_requests (s : State) (c : Completion) : (place s c).requests = s.requests := rfl
@[simp] theorem place_completions (s : State) (c : Completion) :
    (place s c).completions = { s.completions with holding := s.completions.holding ++ [c] } := rfl
@[simp] theorem place_freeCount (s : State) (c : Completion) : (place s c).freeCount = s.freeCount := rfl
@[simp] theorem place_nextRef (s : State) (c : Completion) : (place s c).nextRef = s.nextRef := rfl

/-! ### updateRecord: a change of the records with a reference. -/

@[simp] theorem updateRecord_pending (s : State) (ref : Nat) (f : FrameRecord → FrameRecord) :
    (updateRecord s ref f).pending = s.pending := rfl
@[simp] theorem updateRecord_window (s : State) (ref : Nat) (f : FrameRecord → FrameRecord) :
    (updateRecord s ref f).window = s.window := rfl
@[simp] theorem updateRecord_stream (s : State) (ref : Nat) (f : FrameRecord → FrameRecord) :
    (updateRecord s ref f).stream = s.stream := rfl
@[simp] theorem updateRecord_profiles (s : State) (ref : Nat) (f : FrameRecord → FrameRecord) :
    (updateRecord s ref f).profiles = s.profiles := rfl
@[simp] theorem updateRecord_commits (s : State) (ref : Nat) (f : FrameRecord → FrameRecord) :
    (updateRecord s ref f).commits = s.commits := rfl
@[simp] theorem updateRecord_schedule (s : State) (ref : Nat) (f : FrameRecord → FrameRecord) :
    (updateRecord s ref f).schedule = s.schedule := rfl
@[simp] theorem updateRecord_ports (s : State) (ref : Nat) (f : FrameRecord → FrameRecord) :
    (updateRecord s ref f).ports = s.ports := rfl
@[simp] theorem updateRecord_channels (s : State) (ref : Nat) (f : FrameRecord → FrameRecord) :
    (updateRecord s ref f).channels = s.channels := rfl
@[simp] theorem updateRecord_row (s : State) (ref : Nat) (f : FrameRecord → FrameRecord) :
    (updateRecord s ref f).row = s.row := rfl
@[simp] theorem updateRecord_trim (s : State) (ref : Nat) (f : FrameRecord → FrameRecord) :
    (updateRecord s ref f).trim = s.trim := rfl
@[simp] theorem updateRecord_coder (s : State) (ref : Nat) (f : FrameRecord → FrameRecord) :
    (updateRecord s ref f).coder = s.coder := rfl
@[simp] theorem updateRecord_records (s : State) (ref : Nat) (f : FrameRecord → FrameRecord) :
    (updateRecord s ref f).records = s.records.map fun r => if r.ref == ref then f r else r := rfl
@[simp] theorem updateRecord_buffers (s : State) (ref : Nat) (f : FrameRecord → FrameRecord) :
    (updateRecord s ref f).buffers = s.buffers := rfl
@[simp] theorem updateRecord_requests (s : State) (ref : Nat) (f : FrameRecord → FrameRecord) :
    (updateRecord s ref f).requests = s.requests := rfl
@[simp] theorem updateRecord_completions (s : State) (ref : Nat) (f : FrameRecord → FrameRecord) :
    (updateRecord s ref f).completions = s.completions := rfl
@[simp] theorem updateRecord_freeCount (s : State) (ref : Nat) (f : FrameRecord → FrameRecord) :
    (updateRecord s ref f).freeCount = s.freeCount := rfl
@[simp] theorem updateRecord_nextRef (s : State) (ref : Nat) (f : FrameRecord → FrameRecord) :
    (updateRecord s ref f).nextRef = s.nextRef := rfl

/-! ### addDamage: damage added to a record. -/

@[simp] theorem addDamage_pending (s : State) (ref : Nat) (damage : BitVec 8) :
    (addDamage s ref damage).pending = s.pending := rfl
@[simp] theorem addDamage_window (s : State) (ref : Nat) (damage : BitVec 8) :
    (addDamage s ref damage).window = s.window := rfl
@[simp] theorem addDamage_stream (s : State) (ref : Nat) (damage : BitVec 8) :
    (addDamage s ref damage).stream = s.stream := rfl
@[simp] theorem addDamage_profiles (s : State) (ref : Nat) (damage : BitVec 8) :
    (addDamage s ref damage).profiles = s.profiles := rfl
@[simp] theorem addDamage_commits (s : State) (ref : Nat) (damage : BitVec 8) :
    (addDamage s ref damage).commits = s.commits := rfl
@[simp] theorem addDamage_schedule (s : State) (ref : Nat) (damage : BitVec 8) :
    (addDamage s ref damage).schedule = s.schedule := rfl
@[simp] theorem addDamage_ports (s : State) (ref : Nat) (damage : BitVec 8) :
    (addDamage s ref damage).ports = s.ports := rfl
@[simp] theorem addDamage_channels (s : State) (ref : Nat) (damage : BitVec 8) :
    (addDamage s ref damage).channels = s.channels := rfl
@[simp] theorem addDamage_row (s : State) (ref : Nat) (damage : BitVec 8) :
    (addDamage s ref damage).row = s.row := rfl
@[simp] theorem addDamage_trim (s : State) (ref : Nat) (damage : BitVec 8) :
    (addDamage s ref damage).trim = s.trim := rfl
@[simp] theorem addDamage_coder (s : State) (ref : Nat) (damage : BitVec 8) :
    (addDamage s ref damage).coder = s.coder := rfl
@[simp] theorem addDamage_records (s : State) (ref : Nat) (damage : BitVec 8) :
    (addDamage s ref damage).records = s.records.map fun r =>
      if r.ref == ref then { r with damage := r.damage ||| damage } else r := rfl
@[simp] theorem addDamage_buffers (s : State) (ref : Nat) (damage : BitVec 8) :
    (addDamage s ref damage).buffers = s.buffers := rfl
@[simp] theorem addDamage_requests (s : State) (ref : Nat) (damage : BitVec 8) :
    (addDamage s ref damage).requests = s.requests := rfl
@[simp] theorem addDamage_completions (s : State) (ref : Nat) (damage : BitVec 8) :
    (addDamage s ref damage).completions = s.completions := rfl
@[simp] theorem addDamage_freeCount (s : State) (ref : Nat) (damage : BitVec 8) :
    (addDamage s ref damage).freeCount = s.freeCount := rfl
@[simp] theorem addDamage_nextRef (s : State) (ref : Nat) (damage : BitVec 8) :
    (addDamage s ref damage).nextRef = s.nextRef := rfl

/-! ### advanceHead: a record leaves the intake. -/

@[simp] theorem advanceHead_pending (s : State) (rest : List Record) :
    (advanceHead s rest).pending = s.pending := rfl
@[simp] theorem advanceHead_window (s : State) (rest : List Record) : (advanceHead s rest).window = s.window := rfl
@[simp] theorem advanceHead_stream (s : State) (rest : List Record) : (advanceHead s rest).stream = s.stream := rfl
@[simp] theorem advanceHead_profiles (s : State) (rest : List Record) :
    (advanceHead s rest).profiles = s.profiles := rfl
@[simp] theorem advanceHead_commits (s : State) (rest : List Record) :
    (advanceHead s rest).commits = s.commits := rfl
@[simp] theorem advanceHead_schedule (s : State) (rest : List Record) :
    (advanceHead s rest).schedule = s.schedule := rfl
@[simp] theorem advanceHead_ports (s : State) (rest : List Record) : (advanceHead s rest).ports = s.ports := rfl
@[simp] theorem advanceHead_channels (s : State) (rest : List Record) :
    (advanceHead s rest).channels = s.channels := rfl
@[simp] theorem advanceHead_row (s : State) (rest : List Record) : (advanceHead s rest).row = s.row := rfl
@[simp] theorem advanceHead_trim (s : State) (rest : List Record) : (advanceHead s rest).trim = s.trim := rfl
@[simp] theorem advanceHead_coder (s : State) (rest : List Record) : (advanceHead s rest).coder = s.coder := rfl
@[simp] theorem advanceHead_records (s : State) (rest : List Record) :
    (advanceHead s rest).records = s.records := rfl
@[simp] theorem advanceHead_buffers (s : State) (rest : List Record) :
    (advanceHead s rest).buffers = s.buffers := rfl
@[simp] theorem advanceHead_requests (s : State) (rest : List Record) :
    (advanceHead s rest).requests = { s.requests with
      intake := rest, head := ringNext (requestSize s) s.requests.head } := rfl
@[simp] theorem advanceHead_completions (s : State) (rest : List Record) :
    (advanceHead s rest).completions = s.completions := rfl
@[simp] theorem advanceHead_freeCount (s : State) (rest : List Record) :
    (advanceHead s rest).freeCount = s.freeCount := rfl
@[simp] theorem advanceHead_nextRef (s : State) (rest : List Record) :
    (advanceHead s rest).nextRef = s.nextRef := rfl

/-! ### completeWork: the entries of a work become ready. -/

@[simp] theorem completeWork_pending (s : State) (w : LongWork) (a : Answer) :
    (completeWork s w a).pending = s.pending := rfl
@[simp] theorem completeWork_window (s : State) (w : LongWork) (a : Answer) :
    (completeWork s w a).window = s.window := rfl
@[simp] theorem completeWork_stream (s : State) (w : LongWork) (a : Answer) :
    (completeWork s w a).stream = s.stream := rfl
@[simp] theorem completeWork_profiles (s : State) (w : LongWork) (a : Answer) :
    (completeWork s w a).profiles = s.profiles := rfl
@[simp] theorem completeWork_commits (s : State) (w : LongWork) (a : Answer) :
    (completeWork s w a).commits = s.commits := rfl
@[simp] theorem completeWork_schedule (s : State) (w : LongWork) (a : Answer) :
    (completeWork s w a).schedule = s.schedule := rfl
@[simp] theorem completeWork_ports (s : State) (w : LongWork) (a : Answer) :
    (completeWork s w a).ports = s.ports := rfl
@[simp] theorem completeWork_channels (s : State) (w : LongWork) (a : Answer) :
    (completeWork s w a).channels = s.channels := rfl
@[simp] theorem completeWork_row (s : State) (w : LongWork) (a : Answer) : (completeWork s w a).row = s.row := rfl
@[simp] theorem completeWork_trim (s : State) (w : LongWork) (a : Answer) :
    (completeWork s w a).trim = s.trim := rfl
@[simp] theorem completeWork_coder (s : State) (w : LongWork) (a : Answer) :
    (completeWork s w a).coder = s.coder := rfl
@[simp] theorem completeWork_records (s : State) (w : LongWork) (a : Answer) :
    (completeWork s w a).records = s.records := rfl
@[simp] theorem completeWork_buffers (s : State) (w : LongWork) (a : Answer) :
    (completeWork s w a).buffers = s.buffers := rfl
@[simp] theorem completeWork_requests (s : State) (w : LongWork) (a : Answer) :
    (completeWork s w a).requests = { s.requests with
      entries := s.requests.entries.map fun e =>
        if e.work = w ∧ e.answer = none then { e with answer := some a } else e } := rfl
@[simp] theorem completeWork_completions (s : State) (w : LongWork) (a : Answer) :
    (completeWork s w a).completions = s.completions := rfl
@[simp] theorem completeWork_freeCount (s : State) (w : LongWork) (a : Answer) :
    (completeWork s w a).freeCount = s.freeCount := rfl
@[simp] theorem completeWork_nextRef (s : State) (w : LongWork) (a : Answer) :
    (completeWork s w a).nextRef = s.nextRef := rfl

/-! ### enterList: a long request enters the pending request list. -/

@[simp] theorem enterList_pending (s : State) (r : Record) (w : LongWork) (a : Option Answer) :
    (enterList r s w a).pending = s.pending := rfl
@[simp] theorem enterList_window (s : State) (r : Record) (w : LongWork) (a : Option Answer) :
    (enterList r s w a).window = s.window := rfl
@[simp] theorem enterList_stream (s : State) (r : Record) (w : LongWork) (a : Option Answer) :
    (enterList r s w a).stream = s.stream := rfl
@[simp] theorem enterList_profiles (s : State) (r : Record) (w : LongWork) (a : Option Answer) :
    (enterList r s w a).profiles = s.profiles := rfl
@[simp] theorem enterList_commits (s : State) (r : Record) (w : LongWork) (a : Option Answer) :
    (enterList r s w a).commits = s.commits := rfl
@[simp] theorem enterList_schedule (s : State) (r : Record) (w : LongWork) (a : Option Answer) :
    (enterList r s w a).schedule = s.schedule := rfl
@[simp] theorem enterList_ports (s : State) (r : Record) (w : LongWork) (a : Option Answer) :
    (enterList r s w a).ports = s.ports := rfl
@[simp] theorem enterList_channels (s : State) (r : Record) (w : LongWork) (a : Option Answer) :
    (enterList r s w a).channels = s.channels := rfl
@[simp] theorem enterList_row (s : State) (r : Record) (w : LongWork) (a : Option Answer) :
    (enterList r s w a).row = s.row := rfl
@[simp] theorem enterList_trim (s : State) (r : Record) (w : LongWork) (a : Option Answer) :
    (enterList r s w a).trim = s.trim := rfl
@[simp] theorem enterList_coder (s : State) (r : Record) (w : LongWork) (a : Option Answer) :
    (enterList r s w a).coder = s.coder := rfl
@[simp] theorem enterList_records (s : State) (r : Record) (w : LongWork) (a : Option Answer) :
    (enterList r s w a).records = s.records := rfl
@[simp] theorem enterList_buffers (s : State) (r : Record) (w : LongWork) (a : Option Answer) :
    (enterList r s w a).buffers = s.buffers := rfl
@[simp] theorem enterList_requests (s : State) (r : Record) (w : LongWork) (a : Option Answer) :
    (enterList r s w a).requests = { s.requests with entries := s.requests.entries ++ [longEntry r s w a] } := rfl
@[simp] theorem enterList_completions (s : State) (r : Record) (w : LongWork) (a : Option Answer) :
    (enterList r s w a).completions = s.completions := rfl
@[simp] theorem enterList_freeCount (s : State) (r : Record) (w : LongWork) (a : Option Answer) :
    (enterList r s w a).freeCount = s.freeCount := rfl
@[simp] theorem enterList_nextRef (s : State) (r : Record) (w : LongWork) (a : Option Answer) :
    (enterList r s w a).nextRef = s.nextRef := rfl

/-! ### useFree: a free value has been used. -/

@[simp] theorem useFree_pending (s : State) : (useFree s).pending = s.pending := rfl
@[simp] theorem useFree_window (s : State) : (useFree s).window = s.window := rfl
@[simp] theorem useFree_stream (s : State) : (useFree s).stream = s.stream := rfl
@[simp] theorem useFree_profiles (s : State) : (useFree s).profiles = s.profiles := rfl
@[simp] theorem useFree_commits (s : State) : (useFree s).commits = s.commits := rfl
@[simp] theorem useFree_schedule (s : State) : (useFree s).schedule = s.schedule := rfl
@[simp] theorem useFree_ports (s : State) : (useFree s).ports = s.ports := rfl
@[simp] theorem useFree_channels (s : State) : (useFree s).channels = s.channels := rfl
@[simp] theorem useFree_row (s : State) : (useFree s).row = s.row := rfl
@[simp] theorem useFree_trim (s : State) : (useFree s).trim = s.trim := rfl
@[simp] theorem useFree_coder (s : State) : (useFree s).coder = s.coder := rfl
@[simp] theorem useFree_records (s : State) : (useFree s).records = s.records := rfl
@[simp] theorem useFree_buffers (s : State) : (useFree s).buffers = s.buffers := rfl
@[simp] theorem useFree_requests (s : State) : (useFree s).requests = s.requests := rfl
@[simp] theorem useFree_completions (s : State) : (useFree s).completions = s.completions := rfl
@[simp] theorem useFree_freeCount (s : State) : (useFree s).freeCount = s.freeCount + 1 := rfl
@[simp] theorem useFree_nextRef (s : State) : (useFree s).nextRef = s.nextRef := rfl

/-! ### enterHalted: the entry into HALTED. -/

@[simp] theorem enterHalted_pending (s : State) (c : Cause) (d : BitVec 4) :
    (enterHalted s c d).pending = s.pending := rfl
@[simp] theorem enterHalted_window (s : State) (c : Cause) (d : BitVec 4) :
    (enterHalted s c d).window = { s.window with device := .halted, cause := c, detail := d } := rfl
@[simp] theorem enterHalted_stream (s : State) (c : Cause) (d : BitVec 4) :
    (enterHalted s c d).stream = haltStream s.stream := rfl
@[simp] theorem enterHalted_profiles (s : State) (c : Cause) (d : BitVec 4) :
    (enterHalted s c d).profiles = s.profiles := rfl
@[simp] theorem enterHalted_commits (s : State) (c : Cause) (d : BitVec 4) :
    (enterHalted s c d).commits = s.commits := rfl
@[simp] theorem enterHalted_schedule (s : State) (c : Cause) (d : BitVec 4) :
    (enterHalted s c d).schedule = s.schedule := rfl
@[simp] theorem enterHalted_ports (s : State) (c : Cause) (d : BitVec 4) :
    (enterHalted s c d).ports = Vector.ofFn fun p => closeWindow s.ports[p] := rfl
@[simp] theorem enterHalted_channels (s : State) (c : Cause) (d : BitVec 4) :
    (enterHalted s c d).channels = s.channels := rfl
@[simp] theorem enterHalted_row (s : State) (c : Cause) (d : BitVec 4) : (enterHalted s c d).row = none := rfl
@[simp] theorem enterHalted_trim (s : State) (c : Cause) (d : BitVec 4) :
    (enterHalted s c d).trim = haltTrim s.trim := rfl
@[simp] theorem enterHalted_coder (s : State) (c : Cause) (d : BitVec 4) :
    (enterHalted s c d).coder = s.coder := rfl
@[simp] theorem enterHalted_records (s : State) (c : Cause) (d : BitVec 4) :
    (enterHalted s c d).records = s.records := rfl
@[simp] theorem enterHalted_buffers (s : State) (c : Cause) (d : BitVec 4) :
    (enterHalted s c d).buffers = s.buffers := rfl
@[simp] theorem enterHalted_requests (s : State) (c : Cause) (d : BitVec 4) :
    (enterHalted s c d).requests = s.requests := rfl
@[simp] theorem enterHalted_completions (s : State) (c : Cause) (d : BitVec 4) :
    (enterHalted s c d).completions = { s.completions with notice := true, timer := none } := rfl
@[simp] theorem enterHalted_freeCount (s : State) (c : Cause) (d : BitVec 4) :
    (enterHalted s c d).freeCount = s.freeCount := rfl
@[simp] theorem enterHalted_nextRef (s : State) (c : Cause) (d : BitVec 4) :
    (enterHalted s c d).nextRef = s.nextRef := rfl

/-! ### setPort: the record of a port replaced. -/

@[simp] theorem setPort_pending (s : State) (p : Fin 4) (q : Port) : (setPort s p q).pending = s.pending := rfl
@[simp] theorem setPort_window (s : State) (p : Fin 4) (q : Port) : (setPort s p q).window = s.window := rfl
@[simp] theorem setPort_stream (s : State) (p : Fin 4) (q : Port) : (setPort s p q).stream = s.stream := rfl
@[simp] theorem setPort_profiles (s : State) (p : Fin 4) (q : Port) : (setPort s p q).profiles = s.profiles := rfl
@[simp] theorem setPort_commits (s : State) (p : Fin 4) (q : Port) : (setPort s p q).commits = s.commits := rfl
@[simp] theorem setPort_schedule (s : State) (p : Fin 4) (q : Port) : (setPort s p q).schedule = s.schedule := rfl
@[simp] theorem setPort_ports (s : State) (p : Fin 4) (q : Port) : (setPort s p q).ports = s.ports.set p q := rfl
@[simp] theorem setPort_channels (s : State) (p : Fin 4) (q : Port) : (setPort s p q).channels = s.channels := rfl
@[simp] theorem setPort_row (s : State) (p : Fin 4) (q : Port) : (setPort s p q).row = s.row := rfl
@[simp] theorem setPort_trim (s : State) (p : Fin 4) (q : Port) : (setPort s p q).trim = s.trim := rfl
@[simp] theorem setPort_coder (s : State) (p : Fin 4) (q : Port) : (setPort s p q).coder = s.coder := rfl
@[simp] theorem setPort_records (s : State) (p : Fin 4) (q : Port) : (setPort s p q).records = s.records := rfl
@[simp] theorem setPort_buffers (s : State) (p : Fin 4) (q : Port) : (setPort s p q).buffers = s.buffers := rfl
@[simp] theorem setPort_requests (s : State) (p : Fin 4) (q : Port) : (setPort s p q).requests = s.requests := rfl
@[simp] theorem setPort_completions (s : State) (p : Fin 4) (q : Port) :
    (setPort s p q).completions = s.completions := rfl
@[simp] theorem setPort_freeCount (s : State) (p : Fin 4) (q : Port) :
    (setPort s p q).freeCount = s.freeCount := rfl
@[simp] theorem setPort_nextRef (s : State) (p : Fin 4) (q : Port) : (setPort s p q).nextRef = s.nextRef := rfl

/-! ### setCopies: the copies of a profile replaced. -/

@[simp] theorem setCopies_pending (s : State) (p : Fin 4) (c : ProfileCopies) :
    (setCopies s p c).pending = s.pending := rfl
@[simp] theorem setCopies_window (s : State) (p : Fin 4) (c : ProfileCopies) :
    (setCopies s p c).window = s.window := rfl
@[simp] theorem setCopies_stream (s : State) (p : Fin 4) (c : ProfileCopies) :
    (setCopies s p c).stream = s.stream := rfl
@[simp] theorem setCopies_profiles (s : State) (p : Fin 4) (c : ProfileCopies) :
    (setCopies s p c).profiles = s.profiles.set p c := rfl
@[simp] theorem setCopies_commits (s : State) (p : Fin 4) (c : ProfileCopies) :
    (setCopies s p c).commits = s.commits := rfl
@[simp] theorem setCopies_schedule (s : State) (p : Fin 4) (c : ProfileCopies) :
    (setCopies s p c).schedule = s.schedule := rfl
@[simp] theorem setCopies_ports (s : State) (p : Fin 4) (c : ProfileCopies) :
    (setCopies s p c).ports = s.ports := rfl
@[simp] theorem setCopies_channels (s : State) (p : Fin 4) (c : ProfileCopies) :
    (setCopies s p c).channels = s.channels := rfl
@[simp] theorem setCopies_row (s : State) (p : Fin 4) (c : ProfileCopies) : (setCopies s p c).row = s.row := rfl
@[simp] theorem setCopies_trim (s : State) (p : Fin 4) (c : ProfileCopies) : (setCopies s p c).trim = s.trim := rfl
@[simp] theorem setCopies_coder (s : State) (p : Fin 4) (c : ProfileCopies) :
    (setCopies s p c).coder = s.coder := rfl
@[simp] theorem setCopies_records (s : State) (p : Fin 4) (c : ProfileCopies) :
    (setCopies s p c).records = s.records := rfl
@[simp] theorem setCopies_buffers (s : State) (p : Fin 4) (c : ProfileCopies) :
    (setCopies s p c).buffers = s.buffers := rfl
@[simp] theorem setCopies_requests (s : State) (p : Fin 4) (c : ProfileCopies) :
    (setCopies s p c).requests = s.requests := rfl
@[simp] theorem setCopies_completions (s : State) (p : Fin 4) (c : ProfileCopies) :
    (setCopies s p c).completions = s.completions := rfl
@[simp] theorem setCopies_freeCount (s : State) (p : Fin 4) (c : ProfileCopies) :
    (setCopies s p c).freeCount = s.freeCount := rfl
@[simp] theorem setCopies_nextRef (s : State) (p : Fin 4) (c : ProfileCopies) :
    (setCopies s p c).nextRef = s.nextRef := rfl

/-! ### sendStrobes: a strobe to each fitted port. -/

@[simp] theorem sendStrobes_pending (s : State) (atRow : Bool) : (sendStrobes s atRow).pending = s.pending := rfl
@[simp] theorem sendStrobes_window (s : State) (atRow : Bool) : (sendStrobes s atRow).window = s.window := rfl
@[simp] theorem sendStrobes_stream (s : State) (atRow : Bool) : (sendStrobes s atRow).stream = s.stream := rfl
@[simp] theorem sendStrobes_profiles (s : State) (atRow : Bool) : (sendStrobes s atRow).profiles = s.profiles := rfl
@[simp] theorem sendStrobes_commits (s : State) (atRow : Bool) : (sendStrobes s atRow).commits = s.commits := rfl
@[simp] theorem sendStrobes_schedule (s : State) (atRow : Bool) : (sendStrobes s atRow).schedule = s.schedule := rfl
@[simp] theorem sendStrobes_ports (s : State) (atRow : Bool) :
    (sendStrobes s atRow).ports = Vector.ofFn fun p : Fin 4 =>
      if portFitted s p then strobePort (s.window.device == .halted) atRow s.ports[p] else s.ports[p] := rfl
@[simp] theorem sendStrobes_channels (s : State) (atRow : Bool) : (sendStrobes s atRow).channels = s.channels := rfl
@[simp] theorem sendStrobes_row (s : State) (atRow : Bool) : (sendStrobes s atRow).row = s.row := rfl
@[simp] theorem sendStrobes_trim (s : State) (atRow : Bool) : (sendStrobes s atRow).trim = s.trim := rfl
@[simp] theorem sendStrobes_coder (s : State) (atRow : Bool) : (sendStrobes s atRow).coder = s.coder := rfl
@[simp] theorem sendStrobes_records (s : State) (atRow : Bool) : (sendStrobes s atRow).records = s.records := rfl
@[simp] theorem sendStrobes_buffers (s : State) (atRow : Bool) : (sendStrobes s atRow).buffers = s.buffers := rfl
@[simp] theorem sendStrobes_requests (s : State) (atRow : Bool) : (sendStrobes s atRow).requests = s.requests := rfl
@[simp] theorem sendStrobes_completions (s : State) (atRow : Bool) :
    (sendStrobes s atRow).completions = s.completions := rfl
@[simp] theorem sendStrobes_freeCount (s : State) (atRow : Bool) :
    (sendStrobes s atRow).freeCount = s.freeCount := rfl
@[simp] theorem sendStrobes_nextRef (s : State) (atRow : Bool) : (sendStrobes s atRow).nextRef = s.nextRef := rfl

/-! ### fillSetUp: a frame placed in the set-up frame slot. -/

@[simp] theorem fillSetUp_pending (s : State) (f : SlotFrame) : (fillSetUp s f).pending = s.pending := rfl
@[simp] theorem fillSetUp_window (s : State) (f : SlotFrame) : (fillSetUp s f).window = s.window := rfl
@[simp] theorem fillSetUp_stream (s : State) (f : SlotFrame) :
    (fillSetUp s f).stream = { s.stream with setUp := some f } := rfl
@[simp] theorem fillSetUp_profiles (s : State) (f : SlotFrame) : (fillSetUp s f).profiles = s.profiles := rfl
@[simp] theorem fillSetUp_commits (s : State) (f : SlotFrame) : (fillSetUp s f).commits = s.commits := rfl
@[simp] theorem fillSetUp_schedule (s : State) (f : SlotFrame) : (fillSetUp s f).schedule = s.schedule := rfl
@[simp] theorem fillSetUp_ports (s : State) (f : SlotFrame) : (fillSetUp s f).ports = s.ports := rfl
@[simp] theorem fillSetUp_channels (s : State) (f : SlotFrame) : (fillSetUp s f).channels = s.channels := rfl
@[simp] theorem fillSetUp_row (s : State) (f : SlotFrame) : (fillSetUp s f).row = s.row := rfl
@[simp] theorem fillSetUp_trim (s : State) (f : SlotFrame) : (fillSetUp s f).trim = s.trim := rfl
@[simp] theorem fillSetUp_coder (s : State) (f : SlotFrame) : (fillSetUp s f).coder = s.coder := rfl
@[simp] theorem fillSetUp_records (s : State) (f : SlotFrame) : (fillSetUp s f).records = s.records := rfl
@[simp] theorem fillSetUp_buffers (s : State) (f : SlotFrame) : (fillSetUp s f).buffers = s.buffers := rfl
@[simp] theorem fillSetUp_requests (s : State) (f : SlotFrame) : (fillSetUp s f).requests = s.requests := rfl
@[simp] theorem fillSetUp_completions (s : State) (f : SlotFrame) :
    (fillSetUp s f).completions = s.completions := rfl
@[simp] theorem fillSetUp_freeCount (s : State) (f : SlotFrame) : (fillSetUp s f).freeCount = s.freeCount := rfl
@[simp] theorem fillSetUp_nextRef (s : State) (f : SlotFrame) : (fillSetUp s f).nextRef = s.nextRef := rfl

/-! ### landGroup: the landing of a group's pending copies. -/

@[simp] theorem landGroup_pending (s : State) (g : CommitGroup) : (landGroup s g).pending = s.pending := rfl
@[simp] theorem landGroup_window (s : State) (g : CommitGroup) : (landGroup s g).window = s.window := rfl
@[simp] theorem landGroup_stream (s : State) (g : CommitGroup) : (landGroup s g).stream = s.stream := rfl
@[simp] theorem landGroup_profiles (s : State) (g : CommitGroup) :
    (landGroup s g).profiles = mapSet s.profiles g.profileSet landCopy := rfl
@[simp] theorem landGroup_commits (s : State) (g : CommitGroup) : (landGroup s g).commits = s.commits := rfl
@[simp] theorem landGroup_schedule (s : State) (g : CommitGroup) :
    (landGroup s g).schedule = if g.scheduleFlag then landSchedule s.schedule else s.schedule := rfl
@[simp] theorem landGroup_ports (s : State) (g : CommitGroup) : (landGroup s g).ports = s.ports := rfl
@[simp] theorem landGroup_channels (s : State) (g : CommitGroup) : (landGroup s g).channels = s.channels := rfl
@[simp] theorem landGroup_row (s : State) (g : CommitGroup) : (landGroup s g).row = s.row := rfl
@[simp] theorem landGroup_trim (s : State) (g : CommitGroup) : (landGroup s g).trim = s.trim := rfl
@[simp] theorem landGroup_coder (s : State) (g : CommitGroup) : (landGroup s g).coder = s.coder := rfl
@[simp] theorem landGroup_records (s : State) (g : CommitGroup) : (landGroup s g).records = s.records := rfl
@[simp] theorem landGroup_buffers (s : State) (g : CommitGroup) : (landGroup s g).buffers = s.buffers := rfl
@[simp] theorem landGroup_requests (s : State) (g : CommitGroup) : (landGroup s g).requests = s.requests := rfl
@[simp] theorem landGroup_completions (s : State) (g : CommitGroup) :
    (landGroup s g).completions = s.completions := rfl
@[simp] theorem landGroup_freeCount (s : State) (g : CommitGroup) : (landGroup s g).freeCount = s.freeCount := rfl
@[simp] theorem landGroup_nextRef (s : State) (g : CommitGroup) : (landGroup s g).nextRef = s.nextRef := rfl

/-! ### enterReportWait: a record enters REPORT_WAIT. -/

@[simp] theorem enterReportWait_pending (s : State) (ref : Nat) (k : ReportKind) :
    (enterReportWait s ref k).pending = s.pending := rfl
@[simp] theorem enterReportWait_window (s : State) (ref : Nat) (k : ReportKind) :
    (enterReportWait s ref k).window = s.window := rfl
@[simp] theorem enterReportWait_stream (s : State) (ref : Nat) (k : ReportKind) :
    (enterReportWait s ref k).stream = s.stream := rfl
@[simp] theorem enterReportWait_profiles (s : State) (ref : Nat) (k : ReportKind) :
    (enterReportWait s ref k).profiles = s.profiles := rfl
@[simp] theorem enterReportWait_commits (s : State) (ref : Nat) (k : ReportKind) :
    (enterReportWait s ref k).commits = s.commits := rfl
@[simp] theorem enterReportWait_schedule (s : State) (ref : Nat) (k : ReportKind) :
    (enterReportWait s ref k).schedule = s.schedule := rfl
@[simp] theorem enterReportWait_ports (s : State) (ref : Nat) (k : ReportKind) :
    (enterReportWait s ref k).ports = s.ports := rfl
@[simp] theorem enterReportWait_channels (s : State) (ref : Nat) (k : ReportKind) :
    (enterReportWait s ref k).channels = s.channels := rfl
@[simp] theorem enterReportWait_row (s : State) (ref : Nat) (k : ReportKind) :
    (enterReportWait s ref k).row = s.row := rfl
@[simp] theorem enterReportWait_trim (s : State) (ref : Nat) (k : ReportKind) :
    (enterReportWait s ref k).trim = s.trim := rfl
@[simp] theorem enterReportWait_coder (s : State) (ref : Nat) (k : ReportKind) :
    (enterReportWait s ref k).coder = s.coder := rfl
@[simp] theorem enterReportWait_records (s : State) (ref : Nat) (k : ReportKind) :
    (enterReportWait s ref k).records = s.records.map fun r =>
      if r.ref == ref then { r with phase := .reportWait, reportKind := some k, turn := nextTurn s.records } else r :=
  rfl
@[simp] theorem enterReportWait_buffers (s : State) (ref : Nat) (k : ReportKind) :
    (enterReportWait s ref k).buffers = s.buffers := rfl
@[simp] theorem enterReportWait_requests (s : State) (ref : Nat) (k : ReportKind) :
    (enterReportWait s ref k).requests = s.requests := rfl
@[simp] theorem enterReportWait_completions (s : State) (ref : Nat) (k : ReportKind) :
    (enterReportWait s ref k).completions = s.completions := rfl
@[simp] theorem enterReportWait_freeCount (s : State) (ref : Nat) (k : ReportKind) :
    (enterReportWait s ref k).freeCount = s.freeCount := rfl
@[simp] theorem enterReportWait_nextRef (s : State) (ref : Nat) (k : ReportKind) :
    (enterReportWait s ref k).nextRef = s.nextRef := rfl

/-! ### issueDescriptorFetch: the issue of a descriptor read. -/

@[simp] theorem issueDescriptorFetch_pending (s : State) (b : Bool) :
    (issueDescriptorFetch s b).pending = s.pending := rfl
@[simp] theorem issueDescriptorFetch_window (s : State) (b : Bool) :
    (issueDescriptorFetch s b).window = s.window := rfl
@[simp] theorem issueDescriptorFetch_stream (s : State) (b : Bool) :
    (issueDescriptorFetch s b).stream = s.stream := rfl
@[simp] theorem issueDescriptorFetch_profiles (s : State) (b : Bool) :
    (issueDescriptorFetch s b).profiles = s.profiles := rfl
@[simp] theorem issueDescriptorFetch_commits (s : State) (b : Bool) :
    (issueDescriptorFetch s b).commits = s.commits := rfl
@[simp] theorem issueDescriptorFetch_schedule (s : State) (b : Bool) :
    (issueDescriptorFetch s b).schedule = s.schedule := rfl
@[simp] theorem issueDescriptorFetch_ports (s : State) (b : Bool) :
    (issueDescriptorFetch s b).ports = s.ports := rfl
@[simp] theorem issueDescriptorFetch_channels (s : State) (b : Bool) :
    (issueDescriptorFetch s b).channels = s.channels := rfl
@[simp] theorem issueDescriptorFetch_row (s : State) (b : Bool) : (issueDescriptorFetch s b).row = s.row := rfl
@[simp] theorem issueDescriptorFetch_trim (s : State) (b : Bool) : (issueDescriptorFetch s b).trim = s.trim := rfl
@[simp] theorem issueDescriptorFetch_coder (s : State) (b : Bool) :
    (issueDescriptorFetch s b).coder = s.coder := rfl
@[simp] theorem issueDescriptorFetch_records (s : State) (b : Bool) :
    (issueDescriptorFetch s b).records = s.records := rfl
@[simp] theorem issueDescriptorFetch_buffers (s : State) (b : Bool) :
    (issueDescriptorFetch s b).buffers = { s.buffers with
      fetch := some { address := descriptorAddress s, forReclaim := b }
      ringHead := ringNext (bufferSize s) s.buffers.ringHead } := rfl
@[simp] theorem issueDescriptorFetch_requests (s : State) (b : Bool) :
    (issueDescriptorFetch s b).requests = s.requests := rfl
@[simp] theorem issueDescriptorFetch_completions (s : State) (b : Bool) :
    (issueDescriptorFetch s b).completions = s.completions := rfl
@[simp] theorem issueDescriptorFetch_freeCount (s : State) (b : Bool) :
    (issueDescriptorFetch s b).freeCount = s.freeCount := rfl
@[simp] theorem issueDescriptorFetch_nextRef (s : State) (b : Bool) :
    (issueDescriptorFetch s b).nextRef = s.nextRef := rfl

/-! ### tick: one tick. -/

@[simp] theorem tick_pending (s : State) : (tick s).pending = s.pending := rfl
@[simp] theorem tick_window (s : State) :
    (tick s).window = { s.window with
      initTicks := if s.window.device = .init then s.window.initTicks + 1 else s.window.initTicks } := rfl
@[simp] theorem tick_stream (s : State) : (tick s).stream = tickStream s.stream := rfl
@[simp] theorem tick_profiles (s : State) : (tick s).profiles = s.profiles := rfl
@[simp] theorem tick_commits (s : State) : (tick s).commits = s.commits := rfl
@[simp] theorem tick_schedule (s : State) : (tick s).schedule = s.schedule := rfl
@[simp] theorem tick_ports (s : State) : (tick s).ports = Vector.ofFn fun p : Fin 4 => tickPort s.ports[p] := rfl
@[simp] theorem tick_channels (s : State) : (tick s).channels = s.channels := rfl
@[simp] theorem tick_row (s : State) : (tick s).row = s.row := rfl
@[simp] theorem tick_trim (s : State) : (tick s).trim = tickLoad (tickProgram s.trim) := rfl
@[simp] theorem tick_coder (s : State) : (tick s).coder = s.coder := rfl
@[simp] theorem tick_records (s : State) : (tick s).records = s.records := rfl
@[simp] theorem tick_buffers (s : State) : (tick s).buffers = s.buffers := rfl
@[simp] theorem tick_requests (s : State) : (tick s).requests = s.requests := rfl
@[simp] theorem tick_completions (s : State) :
    (tick s).completions = { s.completions with timer := s.completions.timer.map (· - 1) } := rfl
@[simp] theorem tick_freeCount (s : State) : (tick s).freeCount = s.freeCount := rfl
@[simp] theorem tick_nextRef (s : State) : (tick s).nextRef = s.nextRef := rfl

end Sys2Proof.Laws
end

