-- ==== Sys2Proof/Laws/Ops.lean ====
section
/-! SUPPORT. One lemma for each shared operation: everything it can do. -/

namespace Sys2Proof.Laws

open Sys2Proof Sys2Proof.Machine Sys2Proof.Safety

/-! ### Ring indices and sequence numbers -/

theorem ringNext_lt {n i : Nat} (h : 0 < n) : ringNext n i < n := by
  unfold ringNext; split <;> omega

theorem ringDist_lt {n a b : Nat} (h : 0 < n) : ringDist n a b < n := Nat.mod_lt _ h

/-- The distance of 0.7 is the difference modulo the ring size. -/
theorem ringDist_eq_modDiff {n : Nat} (a b : Nat) (h : 0 < n) : (ringDist n a b : Int) = modDiff n a b := by
  have hb : b % n ≤ n := (Nat.mod_lt b h).le
  unfold ringDist modDiff
  push_cast [Nat.cast_sub hb]
  rw [show (a : Int) + (n - b % n) = (a - b % n) + n by ring, Int.add_emod_right,
    Int.sub_emod, Int.emod_emod_of_dvd _ (dvd_refl _), ← Int.sub_emod]

/-- Sequence numbers compare over half the circle (0.7). -/
theorem atOrAhead_iff (a b : Word) : atOrAhead a b = true ↔ (a - b).toNat < 2 ^ 31 := by
  simp [atOrAhead]

/-! ### The arbiter and the taking of requests -/

theorem grant_eq_some_iff (s : State) (w : Waiter) :
    grant s = some w ↔ GrantPossible s ∧ firstWaiter s = some w := by
  unfold grant
  by_cases h : s.window.device = .enabled <;> by_cases h' : s.completions.holding.length < 8 <;>
    simp [isEnabled, entryFree, GrantPossible, h, h']

theorem grant_eq_none_of_not_possible {s : State} (h : ¬ GrantPossible s) : grant s = none := by
  cases hg : grant s with
  | none => rfl
  | some w => exact absurd ((grant_eq_some_iff s w).1 hg).1 h

/-- The character of a record by its kind, its flags and whether it is a STOP END in RUNNING (R151). -/
theorem isImmediate_kind :
    ∀ (k : BitVec 8) (flagged ending : Bool),
      (!kindKnown k || flagged || k == kindStage || k == kindStageSchedule || k == kindCommit ||
        k == kindWithdraw || k == kindStart || k == kindSetChannel || (k == kindStop && !ending)) =
      decide (¬ (flagged = false ∧ (8 ≤ k.toNat ∧ k.toNat ≤ 12 ∨ k.toNat = 6 ∧ ending = true))) := by
  decide +kernel

theorem toNat_eq_zero_iff_beq {n : Nat} (x : BitVec n) : x.toNat = 0 ↔ (x == 0#n) = true := by
  rw [beq_iff_eq, ← BitVec.toNat_inj]; simp

/-- A record is immediate when it is not of a long request (R151). -/
theorem isImmediate_iff (s : State) (r : Record) : isImmediate s r = true ↔ ¬ LongRecord s r := by
  have h := isImmediate_kind (requestKind r) (requestFlags r != 0)
    (stopMannerEnd r && s.stream.state == .running)
  unfold isImmediate
  simp only [h, decide_eq_true_eq, LongRecord]
  rw [show recordNat r 0x01 1 = 0 ↔ (requestFlags r != 0) = false by
      simp [recordNat, requestFlags, toNat_eq_zero_iff_beq, bne],
    show recordNat r 0x08 1 = 0 ↔ stopMannerEnd r = true by
      simp [recordNat, stopMannerEnd, toNat_eq_zero_iff_beq]]
  simp [recordNat, requestKind, Bool.and_eq_true]

/-- A pending-list entry waits when it is not quiet (R144, R157). -/
theorem entryWaits_iff (s : State) (e : PendingEntry) : entryWaits s e = true ↔ ¬ EntryQuiet s e := by
  cases ha : e.answer <;> cases hr : s.buffers.reclaim <;>
    by_cases hw : e.work = .reclaim <;> simp [entryWaits, PendingEntry.ready, EntryQuiet, ha, hr, hw]

/-- A port waits when it has something to report (R81). -/
theorem portWaits_iff (q : Port) : q.waits = true ↔ ¬ PortQuiet q := by
  simp only [Port.waits, PortQuiet, Bool.or_eq_true, bne_iff_ne, decide_eq_true_eq, not_and_or,
    Nat.pos_iff_ne_zero, ne_eq]

/-- The waiters are counted line by line of TABLE 10-3. -/
theorem waiterCount_eq_waitingProducers (s : State) : waiterCount s = waitingProducers s := by
  have he : ∀ e, entryWaits s e = decide (¬ EntryQuiet s e) := fun e =>
    Bool.eq_iff_iff.2 (by rw [entryWaits_iff, decide_eq_true_eq])
  have hp : ∀ q : Port, q.waits = decide (¬ PortQuiet q) := fun q =>
    Bool.eq_iff_iff.2 (by rw [portWaits_iff, decide_eq_true_eq])
  have hi : (if immediateWaits s = true then 1 else 0) =
      (match s.requests.intake with | r :: _ => if LongRecord s r then 0 else 1 | [] => 0) := by
    unfold immediateWaits
    cases s.requests.intake with
    | nil => rfl
    | cons r rest => by_cases hl : LongRecord s r <;> simp [hl, isImmediate_iff]
  unfold waiterCount waitingProducers
  simp only [List.countP_eq_length_filter, funext he, hp, Option.length_toList, beq_eq_decide]
  congr 1
  · cases s.buffers.latch <;> cases s.completions.summary <;> rfl

/-- An immediate request is taken when it is the intake's head, passes the test, and has the grant (R152). -/
theorem takeImmediate_eq_some_iff (s : State) (test : Record → Bool) (r : Record) (t : State) :
    takeImmediate s test = some (r, t) ↔
      ∃ rest, s.requests.intake = r :: rest ∧ test r = true ∧ grant s = some .immediate ∧
        t = advanceHead s rest := by
  unfold takeImmediate
  cases s.requests.intake with
  | nil => simp
  | cons x rest =>
    by_cases h : test x = true <;> by_cases h' : grant s = some .immediate <;> simp [h, h'] <;> aesop

/-- A long request is taken when it is the intake's head, passes the test, is long, and finds a free entry (R153). -/
theorem takeLong_eq_some_iff (s : State) (test : Record → Bool) (r : Record) (t : State) :
    takeLong s test = some (r, t) ↔
      ∃ rest, LongTurn s r rest ∧ test r = true ∧ isImmediate s r = false ∧ t = advanceHead s rest := by
  unfold takeLong LongTurn
  cases s.requests.intake with
  | nil => simp
  | cons x rest =>
    by_cases h : test x = true <;> by_cases h1 : s.window.device = .enabled <;>
      by_cases h2 : isImmediate s x = true <;> by_cases h3 : s.requests.entries.length < 4 <;>
      simp [isEnabled, h, h1, h2, h3] <;> aesop

/-- The taking of an immediate request: nothing, or the owner's part and its answer (R152). -/
theorem runImmediate_cases (s : State) (test : Record → Bool) (owner : Record → State → State × Answer) :
    (takeImmediate s test = none ∧ runImmediate s test owner = .next s) ∨
    ∃ r rest, s.requests.intake = r :: rest ∧ test r = true ∧ grant s = some .immediate ∧
      runImmediate s test owner = .next (answerImmediate r (owner r (advanceHead s rest)).1
        (owner r (advanceHead s rest)).2) := by
  unfold runImmediate
  cases h : takeImmediate s test with
  | none => exact .inl ⟨rfl, rfl⟩
  | some x =>
    obtain ⟨rest, h1, h2, h3, h4⟩ := (takeImmediate_eq_some_iff s test x.1 x.2).1 h
    exact .inr ⟨x.1, rest, h1, h2, h3, by simp [h4]⟩

/-- The taking of a long request: nothing, or the owner's part and its entry in the pending list (R153). -/
theorem runLong_cases (s : State) (test : Record → Bool) (owner : Record → State → Taken) :
    (takeLong s test = none ∧ runLong s test owner = .next s) ∨
    ∃ r rest, LongTurn s r rest ∧ test r = true ∧ isImmediate s r = false ∧
      runLong s test owner = .next (enterList r (owner r (advanceHead s rest)).state
        (owner r (advanceHead s rest)).work (owner r (advanceHead s rest)).answer) := by
  unfold runLong
  cases h : takeLong s test with
  | none => exact .inl ⟨rfl, rfl⟩
  | some x =>
    obtain ⟨rest, h1, h2, h3, h4⟩ := (takeLong_eq_some_iff s test x.1 x.2).1 h
    exact .inr ⟨x.1, rest, h1, h2, h3, by simp [h4]⟩

/-- An immediate request that is taken and leaves the rest of the machine alone. -/
theorem answerImmediate_advanceHead (s : State) (r : Record) (rest : List Record) (a : Answer) :
    answerImmediate r (advanceHead s rest) a = answered s r rest a := rfl

/-- A long request that is taken and leaves the rest of the machine alone. -/
theorem enterList_advanceHead (s : State) (r : Record) (rest : List Record) (w : LongWork)
    (a : Option Answer) : enterList r (advanceHead s rest) w a = listed s r rest w a := rfl

theorem completeWork_eq_answeredWork (s : State) (w : LongWork) (a : Answer) :
    completeWork s w a = { s with requests := { s.requests with entries := answeredWork s w a } } := rfl

/-! ### The entry into HALTED -/

theorem enterHalted_eq_haltedAt (s : State) (c : Cause) (d : BitVec 4) :
    enterHalted s c d = haltedAt s c d := by
  simp [enterHalted, haltedAt, haltStream, closeWindow, haltTrim, rowsRun]

/-! ### Reply windows -/

/-- The window in which a reply is taken: what R72 to R75 and R94 ask of it. -/
theorem takingWindow_eq_some {s : State} {p : Fin 4} {own : Bool} {w : ReplyWindow} :
    takingWindow s p own = some w ↔
      ReplyTaken s p w ∧ own = true ∧ (s.ports[p].state = .up ∨ s.ports[p].state = .aligning) := by
  unfold takingWindow
  cases hw : s.ports[p].window with
  | none => exact ⟨nofun, fun h => absurd (hw.symm.trans h.1.2.2.1) nofun⟩
  | some v =>
    simp only [Option.ite_none_right_eq_some, Bool.and_eq_true, Bool.or_eq_true, ReplyTaken, hw,
      Option.some.injEq, portFitted, fitted, bne_iff_ne, beq_iff_eq, Bool.not_eq_true']
    constructor
    · rintro ⟨⟨⟨⟨⟨h1, h2⟩, h3⟩, h4⟩, h5⟩, rfl⟩
      exact ⟨⟨h4, by simpa using h2, rfl, h3⟩, h1, h5⟩
    · rintro ⟨⟨h4, h2, rfl, h3⟩, h1, h5⟩
      exact ⟨⟨⟨⟨⟨h1, by simpa using h2⟩, h3⟩, h4⟩, h5⟩, rfl⟩

/-- In HALTED a window closes without a verdict (R94). -/
theorem closeAtStrobe_of_halted {s : State} (h : s.window.device = .halted) (cut : Bool) (p : Fin 4) :
    closeAtStrobe cut s p = setPort s p (closeWindow s.ports[p]) := by
  unfold closeAtStrobe
  cases hw : s.ports[p].window with
  | none =>
    have : closeWindow s.ports[p] = s.ports[p] := by unfold closeWindow; rw [← hw]
    show s = setPort s p (closeWindow s.ports[p])
    rw [this]
    show s = { s with ports := s.ports.set p.val s.ports[p.val] }
    rw [Vector.set_getElem_self]
  | some w => simp [h]

/-! ### Records -/

theorem findRecord_mem {s : State} {ref : Nat} {r : FrameRecord} (h : findRecord s ref = some r) :
    r ∈ s.records ∧ r.ref = ref := by
  have := List.find?_some h
  exact ⟨List.mem_of_find?_eq_some h, by simpa using this⟩

theorem findRecord_of_mem {s : State} {r : FrameRecord} (hd : (s.records.map FrameRecord.ref).Nodup)
    (hr : r ∈ s.records) : findRecord s r.ref = some r := by
  unfold findRecord
  generalize s.records = l at hd hr
  induction l with
  | nil => cases hr
  | cons x l ih =>
    rw [List.map_cons, List.nodup_cons] at hd
    rcases List.mem_cons.1 hr with rfl | h
    · simp
    · have hne : x.ref ≠ r.ref := fun he => hd.1 (he ▸ List.mem_map_of_mem h)
      rw [List.find?_cons_of_neg (by simpa using hne)]
      exact ih hd.2 h

theorem le_foldl_max (l : List Nat) (n : Nat) : n ≤ l.foldl max n ∧ ∀ x ∈ l, x ≤ l.foldl max n := by
  induction l generalizing n with
  | nil => simp
  | cons y l ih =>
    obtain ⟨h1, h2⟩ := ih (max n y)
    refine ⟨Nat.le_trans (Nat.le_max_left n y) h1, fun x hx => ?_⟩
    rcases List.mem_cons.1 hx with rfl | hx
    · exact Nat.le_trans (Nat.le_max_right n x) h1
    · exact h2 x hx

/-- A record that enters REPORT_WAIT does so after every record of the table (R139). -/
theorem turn_lt_nextTurn {records : List FrameRecord} {r : FrameRecord} (h : r ∈ records) :
    r.turn < nextTurn records :=
  Nat.lt_succ_of_le ((le_foldl_max _ 0).2 _ (List.mem_map_of_mem h))

/-- Of two waiting records one is offered first: by number, and at equal numbers by turn (R139). -/
theorem firstOffered_cases (best r : FrameRecord) :
    (firstOffered best r = best ∧
      (r.sequence = best.sequence ∧ best.turn ≤ r.turn ∨
        r.sequence ≠ best.sequence ∧ atOrAhead r.sequence best.sequence = true)) ∨
    (firstOffered best r = r ∧
      (r.sequence = best.sequence ∧ r.turn < best.turn ∨
        r.sequence ≠ best.sequence ∧ atOrAhead r.sequence best.sequence = false)) := by
  unfold firstOffered
  by_cases h : r.sequence = best.sequence
  · by_cases ht : r.turn < best.turn
    · exact .inr ⟨by simp [h, ht], .inl ⟨h, ht⟩⟩
    · exact .inl ⟨by simp [h, ht], .inl ⟨h, by omega⟩⟩
  · cases ha : atOrAhead r.sequence best.sequence with
    | true => exact .inl ⟨by simp [h], .inr ⟨h, rfl⟩⟩
    | false => exact .inr ⟨by simp [h], .inr ⟨h, rfl⟩⟩

/-- The record that is offered waits in the table (R139). -/
theorem waitingRecord_mem {s : State} {r : FrameRecord} (h : waitingRecord s = some r) :
    r ∈ s.records ∧ r.phase = .reportWait := by
  have fold : ∀ (l : List FrameRecord) (b : FrameRecord), l.foldl firstOffered b ∈ b :: l := by
    intro l
    induction l with
    | nil => simp
    | cons x l ih =>
      intro b
      have := ih (firstOffered b x)
      rcases firstOffered_cases b x with ⟨he, -⟩ | ⟨he, -⟩ <;> rw [he] at this <;>
        simp only [List.foldl_cons, he, List.mem_cons] at this ⊢ <;> tauto
  unfold waitingRecord at h
  split at h
  · cases h
  · rename_i x l hl
    have hm : r ∈ s.records.filter fun r => r.phase == .reportWait := by
      rw [hl]
      cases h
      exact fold l x
    simpa using hm

/-- The drain of a frame: nothing, the report of a discarded frame, or its header's write (R122, R123, R139). -/
theorem drainIfDone_cases (s : State) (ref : Nat) :
    drainIfDone s ref = s ∨
    ∃ r, findRecord s ref = some r ∧ r.phase = .closing ∧ payloadAnswered s.coder ref = true ∧
      (drainIfDone s ref = enterReportWait s r.ref .frameDiscarded ∨
        drainIfDone s ref = { s with coder := { s.coder with headers := s.coder.headers ++
          [{ ref := r.ref, address := r.descriptor.address, data := frameHeader r }] } }) := by
  unfold drainIfDone drain
  cases h : findRecord s ref with
  | none => exact .inl rfl
  | some r =>
    dsimp only
    split
    · rename_i hc
      refine .inr ⟨r, rfl, hc.1, hc.2.1, ?_⟩
      split
      · exact .inl rfl
      · exact .inr rfl
    · exact .inl rfl

/-- The row coder's decision at a hand-over: refused, truncated, lost, or staged (R111, R118). -/
theorem takeRow_cases (s : State) (r : FrameRecord) (h : Handover) :
    let bytes := codeRow r.bound s.coder.preds h
    (s.coder.stop ≠ .none ∧ takeRow s r h = s) ∨
    (s.coder.stop = .none ∧ r.descriptor.capacity.toNat < s.coder.cursor + bytes.length ∧
      takeRow s r h = addDamage { s with coder := { s.coder with stop := .truncated } } r.ref damageTruncated) ∨
    (s.coder.stop = .none ∧ s.coder.cursor + bytes.length ≤ r.descriptor.capacity.toNat ∧
      storeSize - storeHeld s.coder < bytes.length ∧
      takeRow s r h = updateRecord s r.ref fun x =>
        { x with rowsLost := x.rowsLost + 1, damage := x.damage ||| damageRowsLost }) ∨
    (s.coder.stop = .none ∧ s.coder.cursor + bytes.length ≤ r.descriptor.capacity.toNat ∧
      bytes.length ≤ storeSize - storeHeld s.coder ∧
      takeRow s r h = updateRecord
        { s with coder := { s.coder with
            cursor := s.coder.cursor + bytes.length
            preds := newPreds s.coder.preds h.samples
            unissued := s.coder.unissued ++ stageBytes r.ref s.coder.cursor bytes } }
        r.ref fun x =>
        { x with rowsWritten := x.rowsWritten + 1, payloadBytes := x.payloadBytes + bytes.length }) := by
  intro bytes
  unfold takeRow
  by_cases h1 : s.coder.stop = .none
  · by_cases h2 : r.descriptor.capacity.toNat < s.coder.cursor + bytes.length
    · exact .inr (.inl ⟨h1, h2, by simp [h1, bytes, h2]⟩)
    · by_cases h3 : storeSize - storeHeld s.coder < bytes.length
      · exact .inr (.inr (.inl ⟨h1, by omega, h3, by simp [h1, bytes, h2, h3]⟩))
      · exact .inr (.inr (.inr ⟨h1, by omega, by omega, by simp [h1, bytes, h2, h3]⟩))
  · exact .inl ⟨h1, by simp [h1]⟩

/-- A live edit damages one record or none (R91). -/
theorem liveEdit_cases (s : State) (affects : Fin 16 → Bool) :
    liveEdit s affects = s ∨ ∃ ref, liveEditRecord s affects = some ref ∧
      liveEdit s affects = addDamage s ref damageLiveEdit := by
  unfold liveEdit
  cases h : liveEditRecord s affects with
  | none => exact .inl rfl
  | some ref => exact .inr ⟨ref, rfl, rfl⟩

/-! ### Drops, cancellation, RECLAIM -/

/-- An entry that a drop report finds is free, and no waiter of the arbiter's takes it (R142, R169). -/
theorem entryFound_spec {s : State} (h : entryFound s = true) :
    s.completions.holding.length < 8 ∧ s.completions.holding.length + waitingProducers s < 8 := by
  rw [← waiterCount_eq_waitingProducers]
  have := of_decide_eq_true h
  exact ⟨by omega, this⟩

/-- A drop report: a FRAME_DROPPED of its own, the halt, or the summary (R142, R170). -/
theorem dropReport_cases (s : State) (q : Word) (reason : DropReason) :
    (s.completions.summary = none ∧ entryFound s = true ∧
      dropReport s q reason = place s (.frameDropped q q 1 reason.bit)) ∨
    (dropOverflows s.completions.summary q = true ∧
      dropReport s q reason = enterHalted s .dropOverflow 0) ∨
    (dropOverflows s.completions.summary q = false ∧
      dropReport s q reason = { s with completions :=
        { s.completions with summary := some (mergeDrop s.completions.summary q reason) } }) := by
  unfold dropReport
  by_cases h1 : s.completions.summary = none ∧ entryFound s = true
  · exact .inl ⟨h1.1, h1.2, by simp [h1]⟩
  · rw [if_neg h1]
    cases h2 : dropOverflows s.completions.summary q with
    | true => exact .inr (.inl ⟨rfl, by simp⟩)
    | false => exact .inr (.inr ⟨rfl, by simp⟩)

/-- A cancellation: nothing, or next set back, the slot empty, and a buffered frame's record reported (R17). -/
theorem cancelSetUp_cases (s : State) :
    (s.stream.setUp = none ∧ cancelSetUp s = s) ∨
    ∃ f, s.stream.setUp = some f ∧
      let undone := { s with stream := { s.stream with next := f.sequence, setUp := none } }
      (recordOf f = none ∧ cancelSetUp s = undone) ∨
        ∃ ref, recordOf f = some ref ∧ cancelSetUp s = enterReportWait undone ref .cancelled := by
  unfold cancelSetUp
  cases h : s.stream.setUp with
  | none => exact .inl ⟨rfl, rfl⟩
  | some f =>
    refine .inr ⟨f, rfl, ?_⟩
    cases f with
    | buffered q ref b => exact .inr ⟨ref, rfl, rfl⟩
    | dropped q p b reason => exact .inl ⟨rfl, rfl⟩

/-- The completion of a RECLAIM: nothing, or its answer with everything returned (R144). -/
theorem finishReclaim_cases (s : State) :
    finishReclaim s = s ∨ ∃ r, s.buffers.reclaim = some r ∧ AllReturned s.buffers r.target ∧
      finishReclaim s = completeWork { s with buffers := { s.buffers with reclaim := none } } .reclaim
        (answer .ok 0 r.returned) := by
  unfold finishReclaim
  cases h : s.buffers.reclaim with
  | none => exact .inl rfl
  | some r =>
    dsimp only
    split
    · rename_i hd
      refine .inr ⟨r, rfl, ?_, rfl⟩
      simpa [reclaimDone, AllReturned, and_assoc, List.isEmpty_iff] using hd
    · exact .inl rfl

/-! ### Rows at the intake -/

/-- The completion of a row: none in progress, or over, with or without a hand-over (R88, R89). -/
theorem completeRow_cases (s : State) :
    (s.row = none ∧ completeRow s = s) ∨
    ∃ r, s.row = some r ∧
      ((rowReceiver { s with row := none } r = none ∧ completeRow s = { s with row := none }) ∨
        ∃ x, rowReceiver { s with row := none } r = some x ∧
          completeRow s = handOver { s with row := none } r x) := by
  unfold completeRow
  cases h : s.row with
  | none => exact .inl ⟨rfl, rfl⟩
  | some r =>
    refine .inr ⟨r, rfl, ?_⟩
    dsimp only
    cases hx : rowReceiver { s with row := none } r with
    | none => exact .inl ⟨rfl, rfl⟩
    | some x => exact .inr ⟨x, rfl, rfl⟩

/-- The record that receives a row is OPEN and is that of the row's frame (R89). -/
theorem rowReceiver_open {s : State} {r : IntakeRow} {x : FrameRecord} (h : rowReceiver s r = some x) :
    x ∈ s.records ∧ x.phase = .opened ∧ ∃ q b, r.frame = some (.buffered q x.ref b) := by
  unfold rowReceiver at h
  split at h
  · rename_i q ref b hf
    split at h
    · split at h
      · rename_i y hy
        split at h
        · rename_i hp
          cases h
          obtain ⟨hm, hr⟩ := findRecord_mem hy
          exact ⟨hm, hp, q, b, by rw [hf, hr]⟩
        · cases h
      · cases h
    · cases h
  · cases h

/-- The condition of a port is decided in the row in progress, or nothing changes (R88). -/
theorem decideCondition_cases (s : State) (p : Fin 4) (c : Condition) :
    decideCondition s p c = s ∨ ∃ r, s.row = some r ∧ r.conditions[p] = .pending ∧
      decideCondition s p c = { s with row := some (decidedRow r p c) } := by
  unfold decideCondition
  cases h : s.row with
  | none => exact .inl rfl
  | some r =>
    dsimp only
    split
    · rename_i hp
      exact .inr ⟨r, rfl, hp, rfl⟩
    · exact .inl rfl

/-! ### Every command and every step answers a next state -/

theorem runImmediate_next (s : State) (test : Record → Bool) (owner : Record → State → State × Answer) :
    ∃ t, runImmediate s test owner = .next t := by
  rcases runImmediate_cases s test owner with h | ⟨r, rest, -, -, -, h⟩
  · exact ⟨_, h.2⟩
  · exact ⟨_, h⟩

theorem runLong_next (s : State) (test : Record → Bool) (owner : Record → State → Taken) :
    ∃ t, runLong s test owner = .next t := by
  rcases runLong_cases s test owner with h | ⟨r, rest, -, -, -, h⟩
  · exact ⟨_, h.2⟩
  · exact ⟨_, h⟩

end Sys2Proof.Laws
end

