-- ==== Sys2Proof/Laws/Exec.lean ====
section
/-! SUPPORT. Every command, and so every step, answers a next state. -/

namespace Sys2Proof.Laws

open Sys2Proof Sys2Proof.Machine

/-- No command stops: each answers a next state. -/
theorem exec_next (c : Instr) (s : State) : ∃ t, exec c s = .next t := by
  cases c <;> dsimp only [exec]
  · unfold execPowerOnReset
    repeat first | exact ⟨_, rfl⟩ | exact runImmediate_next .. | exact runLong_next .. | split
  · unfold execReset
    repeat first | exact ⟨_, rfl⟩ | exact runImmediate_next .. | exact runLong_next .. | split
  · unfold execEnable
    repeat first | exact ⟨_, rfl⟩ | exact runImmediate_next .. | exact runLong_next .. | split
  · unfold execSetupBlockReadDone
    repeat first | exact ⟨_, rfl⟩ | exact runImmediate_next .. | exact runLong_next .. | split
  · unfold execEndOfInit
    repeat first | exact ⟨_, rfl⟩ | exact runImmediate_next .. | exact runLong_next .. | split
  · unfold execRegisterWrite
    repeat first | exact ⟨_, rfl⟩ | exact runImmediate_next .. | exact runLong_next .. | split
  · unfold execRqTailWrite
    repeat first | exact ⟨_, rfl⟩ | exact runImmediate_next .. | exact runLong_next .. | split
  · unfold execBfTailWrite
    repeat first | exact ⟨_, rfl⟩ | exact runImmediate_next .. | exact runLong_next .. | split
  · unfold execCpHeadWrite
    repeat first | exact ⟨_, rfl⟩ | exact runImmediate_next .. | exact runLong_next .. | split
  · unfold execRowEnd
    repeat first | exact ⟨_, rfl⟩ | exact runImmediate_next .. | exact runLong_next .. | split
  · unfold execMaintenanceStrobe
    repeat first | exact ⟨_, rfl⟩ | exact runImmediate_next .. | exact runLong_next .. | split
  · unfold execTriggerEdge
    repeat first | exact ⟨_, rfl⟩ | exact runImmediate_next .. | exact runLong_next .. | split
  · unfold execReplyReceived
    repeat first | exact ⟨_, rfl⟩ | exact runImmediate_next .. | exact runLong_next .. | split
  · unfold execRequestFetchIssue
    repeat first | exact ⟨_, rfl⟩ | exact runImmediate_next .. | exact runLong_next .. | split
  · unfold execRequestFetchDone
    repeat first | exact ⟨_, rfl⟩ | exact runImmediate_next .. | exact runLong_next .. | split
  · unfold execBadKind
    repeat first | exact ⟨_, rfl⟩ | exact runImmediate_next .. | exact runLong_next .. | split
  · unfold execBadFlags
    repeat first | exact ⟨_, rfl⟩ | exact runImmediate_next .. | exact runLong_next .. | split
  · unfold execStage
    repeat first | exact ⟨_, rfl⟩ | exact runImmediate_next .. | exact runLong_next .. | split
  · unfold execStageSchedule
    repeat first | exact ⟨_, rfl⟩ | exact runImmediate_next .. | exact runLong_next .. | split
  · unfold execCommit
    repeat first | exact ⟨_, rfl⟩ | exact runImmediate_next .. | exact runLong_next .. | split
  · unfold execWithdraw
    repeat first | exact ⟨_, rfl⟩ | exact runImmediate_next .. | exact runLong_next .. | split
  · unfold execStart
    repeat first | exact ⟨_, rfl⟩ | exact runImmediate_next .. | exact runLong_next .. | split
  · unfold execStopEnd
    repeat first | exact ⟨_, rfl⟩ | exact runImmediate_next .. | exact runLong_next .. | split
  · unfold execStopAbort
    repeat first | exact ⟨_, rfl⟩ | exact runImmediate_next .. | exact runLong_next .. | split
  · unfold execSetChannel
    repeat first | exact ⟨_, rfl⟩ | exact runImmediate_next .. | exact runLong_next .. | split
  · unfold execPortAlign
    repeat first | exact ⟨_, rfl⟩ | exact runImmediate_next .. | exact runLong_next .. | split
  · unfold execTrimProgram
    repeat first | exact ⟨_, rfl⟩ | exact runImmediate_next .. | exact runLong_next .. | split
  · unfold execTrimImageReadDone
    repeat first | exact ⟨_, rfl⟩ | exact runImmediate_next .. | exact runLong_next .. | split
  · unfold execTrimProgramVerify
    repeat first | exact ⟨_, rfl⟩ | exact runImmediate_next .. | exact runLong_next .. | split
  · unfold execTrimLoad
    repeat first | exact ⟨_, rfl⟩ | exact runImmediate_next .. | exact runLong_next .. | split
  · unfold execTrimSlotReadDone
    repeat first | exact ⟨_, rfl⟩ | exact runImmediate_next .. | exact runLong_next .. | split
  · unfold execTrimHostReadDone
    repeat first | exact ⟨_, rfl⟩ | exact runImmediate_next .. | exact runLong_next .. | split
  · unfold execReadOut
    repeat first | exact ⟨_, rfl⟩ | exact runImmediate_next .. | exact runLong_next .. | split
  · unfold execImageWriteDone
    repeat first | exact ⟨_, rfl⟩ | exact runImmediate_next .. | exact runLong_next .. | split
  · unfold execReclaim
    repeat first | exact ⟨_, rfl⟩ | exact runImmediate_next .. | exact runLong_next .. | split
  · unfold execDescriptorFetchIssue
    repeat first | exact ⟨_, rfl⟩ | exact runImmediate_next .. | exact runLong_next .. | split
  · unfold execDescriptorFetchDone
    repeat first | exact ⟨_, rfl⟩ | exact runImmediate_next .. | exact runLong_next .. | split
  · unfold execPayloadBurstIssue
    repeat first | exact ⟨_, rfl⟩ | exact runImmediate_next .. | exact runLong_next .. | split
  · unfold execPayloadWriteDone
    repeat first | exact ⟨_, rfl⟩ | exact runImmediate_next .. | exact runLong_next .. | split
  · unfold execHeaderWriteDone
    repeat first | exact ⟨_, rfl⟩ | exact runImmediate_next .. | exact runLong_next .. | split
  · unfold execCompletionWriteIssue
    repeat first | exact ⟨_, rfl⟩ | exact runImmediate_next .. | exact runLong_next .. | split
  · unfold execCompletionWriteDone
    repeat first | exact ⟨_, rfl⟩ | exact runImmediate_next .. | exact runLong_next .. | split
  · unfold execNoticeTimerExpiry
    repeat first | exact ⟨_, rfl⟩ | exact runImmediate_next .. | exact runLong_next .. | split
  · unfold execFrameReportGrant
    repeat first | exact ⟨_, rfl⟩ | exact runImmediate_next .. | exact runLong_next .. | split
  · unfold execCommitLanded
    repeat first | exact ⟨_, rfl⟩ | exact runImmediate_next .. | exact runLong_next .. | split
  · unfold execPortEvent
    repeat first | exact ⟨_, rfl⟩ | exact runImmediate_next .. | exact runLong_next .. | split
  · unfold execRejectedReturn
    repeat first | exact ⟨_, rfl⟩ | exact runImmediate_next .. | exact runLong_next .. | split
  · unfold execDropSummaryGrant
    repeat first | exact ⟨_, rfl⟩ | exact runImmediate_next .. | exact runLong_next .. | split
  · unfold execReclaimedReturn
    repeat first | exact ⟨_, rfl⟩ | exact runImmediate_next .. | exact runLong_next .. | split
  · unfold execLongRequestDone
    repeat first | exact ⟨_, rfl⟩ | exact runImmediate_next .. | exact runLong_next .. | split

/-- No step stops. -/
theorem step_next (s : State) : ∃ t, step s = .next t := by
  unfold step
  split
  · exact exec_next ..
  · unfold idle
    split
    · exact exec_next ..
    · exact ⟨_, rfl⟩

end Sys2Proof.Laws
end

