-- ==== Sys2Proof/WellFormed.lean ====
section
/-! DEFINITION. Which commands the outside world can give. The machine acts on every command, the
ill-formed too; well-formedness says which ones name an access or an answer that exists. -/

namespace Sys2Proof

/-- A read is answered by at least one beat (0.7, Memory responses). -/
def ReadAnswer.wf {n : Nat} (a : ReadAnswer n) : Bool := !a.beats.isEmpty

/-- A write access of the register window: inside the 64-byte region (11.1), of a width a bus access
can have. -/
def registerWriteWf (offset size : Nat) : Bool :=
  decide (offset < 64) && [1, 2, 4, 8].contains size

/-- The responses that IMAGE_WRITE_DONE brings: an image takes one or two bursts (R161), and the
pending request list has four entries (R153). -/
def imageAnswerWf (entry : Nat) (responses : List Resp) : Bool :=
  decide (entry < 4) && (responses.length == 1 || responses.length == 2)

/-- The check of a command's operands, row by row. -/
def Instr.wf : Instr → Bool
  | .powerOnReset _ => true
  | .reset => true
  | .enable => true
  | .setupBlockReadDone a => a.wf
  | .endOfInit => true
  | .registerWrite offset size _ => registerWriteWf offset size
  | .rqTailWrite _ => true
  | .bfTailWrite _ => true
  | .cpHeadWrite _ => true
  | .rowEnd => true
  | .maintenanceStrobe => true
  | .triggerEdge => true
  | .replyReceived _ _ _ => true
  | .requestFetchIssue => true
  | .requestFetchDone a => a.wf
  | .badKind => true
  | .badFlags => true
  | .stage => true
  | .stageSchedule => true
  | .commit => true
  | .withdraw => true
  | .start => true
  | .stopEnd => true
  | .stopAbort => true
  | .setChannel => true
  | .portAlign => true
  | .trimProgram => true
  | .trimImageReadDone a => a.wf
  | .trimProgramVerify _ _ => true
  | .trimLoad => true
  | .trimSlotReadDone => true
  | .trimHostReadDone a => a.wf
  | .readOut => true
  | .imageWriteDone e rs => imageAnswerWf e rs
  | .reclaim => true
  | .descriptorFetchIssue => true
  | .descriptorFetchDone a => a.wf
  | .payloadBurstIssue => true
  | .payloadWriteDone _ _ => true
  | .headerWriteDone _ _ => true
  | .completionWriteIssue => true
  | .completionWriteDone _ => true
  | .noticeTimerExpiry => true
  | .frameReportGrant => true
  | .commitLanded => true
  | .portEvent => true
  | .rejectedReturn => true
  | .dropSummaryGrant => true
  | .reclaimedReturn => true
  | .longRequestDone => true

end Sys2Proof
end

