-- ==== Sys2Proof/Tests/Slice0.lean ====
section
/-! SUPPORT. Tests: what well-formedness refuses, the spec's worked examples, one step of each family, and for every
statement with hypotheses a state and operands that meet them (theorems `witness_…`, one conjunct or theorem a clause). -/

set_option synthInstance.maxSize 4000
set_option synthInstance.maxHeartbeats 800000
-- One theorem at a time: each thread takes its own stack, and the check bounds the memory.
set_option Elab.async false

namespace Sys2Proof.Tests

open Sys2Proof Sys2Proof.Machine Sys2Proof.Safety

/-! ### Builders -/

/-- A request record of a kind and tag with fields, each a byte offset and a value (TABLE 11-5, TABLE 11-6). -/
def request (kind tag : Nat) (fields : List (Nat × Nat)) : Record :=
  BitVec.ofNat 512 (kind + tag * 2 ^ 16 + (fields.map fun f => f.2 * 2 ^ (8 * f.1)).sum)

/-- The setup block of 10.7: rings of 16 entries, threshold 4, holdoff 100 µs. -/
def block : Setup := ⟨⟨0x10000#64, 16⟩, ⟨0x20000#64, 16⟩, ⟨0x30000#64, 16⟩, 4, 100⟩

/-- The 64 bytes of a setup block (TABLE 11-4). -/
def blockBytes (b : Setup) : Record :=
  request 0 0 [(0, b.request.base.toNat), (8, b.buffer.base.toNat), (16, b.completion.base.toNat),
    (24, b.request.size), (26, b.buffer.size), (28, b.completion.size), (30, b.threshold), (32, b.holdoff)]

/-- An answer without error. -/
def okay {n : Nat} (data : BitVec n) : ReadAnswer n := ⟨true, [.okay], data⟩

/-- An answer whose second beat reports an error. -/
def failing {n : Nat} (data : BitVec n) : ReadAnswer n := ⟨true, [.okay, .slverr], data⟩

/-- A device just enabled, with four ports fitted and the stream STOPPED. -/
def on : State := { State.reset with
  window := { State.reset.window with device := .enabled, setup := block, straps := 3#2 }
  stream := { State.reset.stream with maintenance := some 0 } }

/-- The machine in another device state. -/
def inDevice (d : DeviceState) (s : State) : State := { s with window := { s.window with device := d } }

/-- A record at the intake's head. -/
def asks (s : State) (r : Record) : State := { s with requests := { s.requests with intake := [r] } }

/-- The stream in another state. -/
def inStream (t : StreamState) (s : State) : State := { s with stream := { s.stream with state := t } }

/-- A short profile: 16 rows of 90 ticks, window rows 2, 4, 6 and 8, channels 0 and 1. -/
def short : Profile := { defaultProfile with
  rowPeriod := 90, frameRows := 16, rowFirst := 2, rowLast := 8, rowStep := 2, channelMask := 3#16 }

/-- An OPEN record of that profile. -/
def openRow : FrameRecord :=
  { ref := 0, sequence := 0, profile := 0, bound := short, descriptor := ⟨0x100000#64, 4096#32, 7#32⟩,
    phase := .opened, rowsPlanned := 4, rowsWritten := 0, rowsLost := 0, payloadBytes := 0, damage := 0,
    disposition := none, missed := 0, startTime := some 0, reportKind := none, turn := 0 }

/-- The buffered frame of that record. -/
def frame0 : SlotFrame := .buffered 0 0 short

/-- A dropped frame 1. -/
def dropped1 : SlotFrame := .dropped 1 0 short .noBuffer

/-- Frame 0 running at the end of a row. -/
def running (row : Nat) : State := { on with
  stream := { on.stream with state := .running, rowIndex := row, rowTimer := 90, next := 1,
                             current := some frame0, maintenance := none, frameMark := decide (row = 0) }
  records := [openRow]
  coder := { resetCoder with openFrame := some 0 }
  nextRef := 1 }

/-- The same with frame 1 set up and dropped. -/
def closing (row : Nat) : State := { running row with
  stream := { (running row).stream with setUp := some dropped1, next := 2 }
  records := [{ openRow with phase := .closing, disposition := some .deliver }]
  coder := resetCoder }

/-- A PENDING group and a landed one. -/
def groupP : CommitGroup := ⟨0x11, 1, false, 12, .pending, none⟩
def groupL : CommitGroup := ⟨0x22, 4, false, 10, .landedUnreported, some 10⟩

/-- A port in a state with a window open for a row strobe. -/
def portAt (state : PortState) (bad good spent : Nat) (alignment : Bool) : Port :=
  { resetPort state with
    consecutiveBad := bad, goodAlign := good, alignSpent := spent
    window := some ⟨true, alignment, false⟩ }

/-- The machine with port 0 replaced. -/
def withPort0 (s : State) (q : Port) : State := { s with ports := s.ports.set 0 q }

/-- A row in progress, with the conditions of its ports. -/
def rowWith (index : Nat) (conditions : Vector Condition 4) : IntakeRow :=
  { index := index, frame := some frame0, conditions := conditions,
    fixed := Vector.replicate 16 (.converter true), trim := unityTrim }

/-- The 96 bits of six reply words. -/
def packet (w0 w1 w2 w3 w4 w5 : Half) : BitVec 96 := w0 ++ w1 ++ w2 ++ w3 ++ w4 ++ w5

/-- What a command's next state is asked for. -/
def gives (o : Result) (p : State → Bool) : Bool :=
  match o with
  | .next t => p t
  | _ => false

/-! ### Well-formedness refuses -/

theorem test_wf_no_beats_setup : (Instr.setupBlockReadDone ⟨true, [], 0⟩).wf = false := by decide
theorem test_wf_no_beats_request : (Instr.requestFetchDone ⟨true, [], 0⟩).wf = false := by decide
theorem test_wf_no_beats_image : (Instr.trimImageReadDone ⟨true, [], 0⟩).wf = false := by decide
theorem test_wf_no_beats_host : (Instr.trimHostReadDone ⟨true, [], 0⟩).wf = false := by decide
theorem test_wf_no_beats_descriptor : (Instr.descriptorFetchDone ⟨true, [], 0⟩).wf = false := by decide
theorem test_wf_offset_outside : (Instr.registerWrite 64 4 0).wf = false := by decide
theorem test_wf_no_such_width : (Instr.registerWrite 8 3 0).wf = false := by decide
theorem test_wf_no_such_entry : (Instr.imageWriteDone 4 [.okay]).wf = false := by decide
theorem test_wf_no_response : (Instr.imageWriteDone 0 []).wf = false := by decide
theorem test_wf_three_responses : (Instr.imageWriteDone 0 [.okay, .okay, .okay]).wf = false := by decide
theorem test_wf_accepts : (Instr.registerWrite 60 4 0).wf = true ∧ (Instr.rowEnd).wf = true := by decide

/-- No row of the table has bits, so no word spells a command. -/
theorem test_no_word_spells_a_command : decodeTableWord 16 0x1234 = none := by decide

/-! ### The spec's worked examples -/

/-- 5.2: the packet 0xE41B, 100, −200, 300, 0 is GOOD with the check 0x1B1C and with no other. -/
theorem test_reply_check :
    replyGood (packet 0xE41B 100 0xFF38 300 0 0x1B1C) = true ∧
    replyGood (packet 0xE41B 100 0xFF38 300 0 0x1B1D) = false ∧
    replyWord (packet 0xE41B 100 0xFF38 300 0 0x1B1C) 2 = 0xFF38#16 := by decide +kernel

/-- 5.2: the alignment reply's check is 0x84D8, and it is CORRECT. -/
theorem test_reply_alignment :
    replyCorrect (packet 0xE41B 0xA5C3 0xA5C3 0xA5C3 0xA5C3 0x84D8) = true ∧
    replyCorrect (packet 0xE41B 100 0xFF38 300 0 0x1B1C) = false := by decide +kernel

/-- TABLE 6-1. -/
theorem test_trim_table_6_1 :
    correctSample ⟨0, 16384⟩ 1000 = 1000 ∧ correctSample ⟨-15, 20000⟩ 1000 = 1205 ∧
    correctSample ⟨-15, 20000⟩ (-1000) = -1236 ∧ correctSample ⟨0, 32768⟩ 30000 = 32767 ∧
    correctSample ⟨-32768, 65535⟩ (rawCode 0x8000#16) = -32767 ∧ correctSample ⟨250, 0⟩ 12345 = 250 := by
  decide +kernel

/-- The image of 6.8: channel 0 as given, the others unity. -/
def image68 (offset0 gain0 : Nat) : Record :=
  BitVec.ofNat 512 (offset0 + gain0 * 2 ^ 16 +
    ((List.range 15).map fun i => 0x4000 * 2 ^ (16 + 32 * (i + 1))).sum)

/-- 6.8: the checks 0xFFFF and 0xF1EE, and the entries of the second image. -/
theorem test_image_checks_6_8 :
    imageCheck (image68 0 0x4000) = 0xFFFF#16 ∧ imageCheck (image68 0xFFF1 0x4E20) = 0xF1EE#16 ∧
    imageEntry (image68 0xFFF1 0x4E20) 0 = ⟨-15, 20000⟩ ∧
    imageEntry (image68 0xFFF1 0x4E20) 15 = ⟨0, 16384⟩ := by decide +kernel

/-- R85: 1, 2, 4, … 8192 and then 16385, 3, 6, 12. -/
theorem test_prbs_sequence :
    ((List.range 17).foldl (fun (x : List Nat × BitVec 15) _ => (x.1 ++ [x.2.toNat], nextPrbs x.2))
      (([], 1#15) : List Nat × BitVec 15)).1 =
    [1, 2, 4, 8, 16, 32, 64, 128, 256, 512, 1024, 2048, 4096, 8192, 16385, 3, 6] := by decide +kernel

/-- R84: 32766, 32767, −32767, −32766. -/
theorem test_ramp_wraps : nextRamp 32766 = 32767 ∧ nextRamp 32767 = -32767 ∧ nextRamp (-32767) = -32766 := by
  decide +kernel

/-- The profile of 7.10. -/
def profile710 : Profile := { short with channelMask := 0x0013#16, sampleFormat := .delta8 }

/-- The predecessors of channels 0, 1 and 4. -/
def preds710 (a b c : Option Int) : Vector (Option Int) 16 :=
  Vector.ofFn fun i : Fin 16 => if i.val = 0 then a else if i.val = 1 then b else if i.val = 4 then c else none

/-- A hand-over of 7.10. -/
def row710 (index : Nat) (a b c : Int) : Handover :=
  ⟨index, [(0, a), (1, b), (4, c)], #v[false, false, true, true], false⟩

/-- TABLE 7-6: rows 2, 3 and 4, and row 4 after a lost row 3. -/
theorem test_delta8_7_10 :
    codeRow profile710 (preds710 none none none) (row710 2 1000 (-200) 300) =
      [0x80, 0xE8, 0x03, 0x80, 0x38, 0xFF, 0x80, 0x2C, 0x01, 0, 0, 0] ∧
    codeRow profile710 (preds710 (some 1000) (some (-200)) (some 300)) (row710 3 1050 (-400) (-32768)) =
      [0x32, 0x80, 0x70, 0xFE, 0x80, 0x00, 0x80, 0] ∧
    codeRow profile710 (preds710 (some 1050) (some (-400)) (some (-32768))) (row710 4 1040 (-300) 305) =
      [0xF6, 0x64, 0x80, 0x31, 0x01, 0, 0, 0] ∧
    codeRow profile710 (preds710 (some 1000) (some (-200)) (some 300)) (row710 4 1040 (-300) 305) =
      [0x28, 0x9C, 0x05, 0] := by decide +kernel

/-- TABLE 7-3: PACK12 rows of 1, 3, 5, 12 and 16 channels, and the marker's PACK12 value (R115). -/
theorem test_pack12_sizes :
    [1, 3, 5, 12, 16].map (fun n => (padRow (codePack12 (List.replicate n 5))).length) = [4, 8, 8, 20, 24] ∧
    [reduce12 (-32768), reduce12 (-32767), reduce12 (-32753), reduce12 (-32752), reduce12 32767,
      reduce12 16] = [-2048, -2047, -2047, -2047, 2047, 1] := by decide +kernel

/-- R117: the default profile plans 1020 rows; the last window row of a stepped profile (R22). -/
theorem test_rows_planned :
    rowsPlanned defaultProfile = 1020 ∧ rowsPlanned short = 4 ∧
    lastWindowRow { short with rowLast := 9 } = 8 := by decide

/-- 7.11: with capacity 8192, the row at cursor 8184 is staged and the one at 8192 is TRUNCATED. -/
theorem test_truncation_7_11 :
    let r := { openRow with bound := defaultProfile, descriptor := ⟨0, 8192, 7⟩ }
    let at_ := fun (cursor : Nat) => { running 9 with
      records := [r], coder := { resetCoder with openFrame := some 0, cursor := cursor } }
    let h : Handover := ⟨1015, [(0, 1), (1, 2), (2, 3), (3, 4)], #v[false, true, true, true], false⟩
    (takeRow (at_ 8184) r h).coder.cursor = 8192 ∧
    (takeRow (at_ 8192) r h).coder.stop = .truncated ∧
    (takeRow (at_ 8192) r h).records.map FrameRecord.damage = [damageTruncated] := by decide +kernel

/-- TABLE 4-2: the positions of [(P0, 2), (P1, 1)], and those after the landing of [(P2, 1), (P3, 2)]. -/
theorem test_schedule_4_6 :
    let u : ScheduleUnit := ⟨[⟨0, 1⟩], some [⟨2, 1⟩, ⟨3, 2⟩], [⟨0, 2⟩, ⟨1, 1⟩], 0, 2⟩
    let place := fun (x : ScheduleUnit) => ((chosenProfile x).val, x.entry, x.remaining)
    let a := advancePosition
    [place u, place (a u), place (a (a u)), place (a (a (a u))), place (a (a (a (a u))))] =
      [(0, 0, 2), (0, 0, 1), (1, 1, 1), (0, 0, 2), (0, 0, 1)] ∧
    [place (landSchedule u), place (a (landSchedule u)), place (a (a (landSchedule u)))] =
      [(2, 0, 1), (3, 1, 2), (3, 1, 1)] := by decide +kernel

/-- 4.7: (P1, 4), (P2, 0), (P9, 1) is refused RANGE with detail 1, a count of 9 BAD_FIELD with 255, and the third is
accepted. -/
theorem test_schedule_4_7 :
    scheduleFault 3 [(1, 4), (2, 0), (9, 1)] = some (.range, 1) ∧
    scheduleFault 9 [] = some (.badField, 255) ∧
    scheduleFault 3 [(1, 4), (1, 4), (2, 10)] = none := by decide

/-- R32: a row_period of 30 before an unknown field is RANGE with detail 0; a LIVE field is BAD_FIELD. -/
theorem test_stage_checks :
    stageFault 0 2 [(1, 30), (0x20, 0)] = some (.range, 0) ∧
    stageFault 0 2 [(1, 40), (0x11, 0)] = some (.badField, 1) ∧
    stageFault 3 12 [] = none ∧ stageFault 4 0 [] = some (.badField, 255) ∧
    stageFault 0 13 [] = some (.badField, 255) := by decide

/-- TABLE 3-6, events 1, 2, 4 and 5: the list order of the tags. -/
theorem test_commit_list_3_9 :
    let g := fun (tag : Half) (frame : Word) => (⟨tag, 1, false, frame, .pending, none⟩ : CommitGroup)
    ((insertGroup 10 (g 0x55 11) (insertGroup 10 (g 0x44 12) (insertGroup 10 (g 0x22 10)
      (insertGroup 10 (g 0x11 12) [])))).map CommitGroup.tag) = [0x22, 0x55, 0x11, 0x44] := by decide

/-- 3.9, events 8 to 10: B lands, and is the first to be reported. -/
theorem test_commit_reports_3_9 :
    let b : CommitGroup := ⟨0x22, 4, false, 10, .pending, none⟩
    let s := { running 3 with
      commits := [b, groupP], stream := { (running 3).stream with next := 10 }
      profiles := on.profiles.set 2 { on.profiles[(2 : Fin 4)] with pend := some short } }
    let t := landDue s 10
    t.commits.map (fun g => (g.tag, g.state)) = [(0x22, .landedUnreported), (0x11, .pending)] ∧
    t.profiles[(2 : Fin 4)].active = short ∧ t.profiles[(2 : Fin 4)].pend = none ∧
    gives (exec .commitLanded t) (fun u => u.commits == [groupP] &&
      u.completions.holding == [.commitLanded 0x22 10 4 false]) = true := by decide +kernel

/-- 10.7 with its line and timer in ticks: postings 1 to 4 and the CP_HEAD write that leaves 2. -/
theorem test_notice_10_7 :
    let show_ := fun (s : State) => (s.completions.notice, s.completions.timer)
    let low := on
    let high := { on with completions := { on.completions with notice := true } }
    show_ (noticeAtPosting low 1) = (false, some 4000) ∧
    show_ (noticeAtPosting { low with completions := { low.completions with timer := some 2800 } } 2) =
      (false, some 2800) ∧
    show_ (noticeAtPosting { low with completions := { low.completions with timer := some 7 } } 4) =
      (true, none) ∧
    show_ (noticeAtConsumption high 2) = (false, some 4000) ∧
    show_ (noticeAtConsumption high 5) = (true, none) ∧
    show_ (noticeAtConsumption high 0) = (false, none) := by decide +kernel

/-- R159: the constant −32767 is coded 0xFF8001; a sequence number takes two items. -/
theorem test_items :
    signedCode 24 (-32767) = 0xFF8001 ∧ wideItems 0x10 0x12345678 = [(0x10, 0x345678), (0x11, 0x12)] ∧
    itemBytes (0x11, 0xFF8001) = [0x11, 0x01, 0x80, 0xFF] := by decide +kernel

/-- TABLE 11-7: the bytes of a FRAME_DROPPED of frames 3 to 5 with reasons NO_BUFFER and BACKLOG. -/
theorem test_completion_bytes :
    encodeCompletion true (.frameDropped 3 5 3 5) =
      [5, 1, 5, 0, 3, 0, 0, 0, 5, 0, 0, 0, 3] ++ List.replicate 19 0 := by decide +kernel

/-- R100: the states of a slot. -/
theorem test_slot_states :
    classifySlot blankSlot = .blank ∧
    classifySlot { blankSlot with useMark := true } = .defective ∧
    classifySlot ⟨true, some (image68 0 0x4000), some 0xFFFF, false⟩ = .programmed ∧
    classifySlot ⟨true, some (image68 0 0x4000), some 0xFFFF, true⟩ = .defective ∧
    classifySlot ⟨true, some (image68 0 0x4000), some 0xFFFE, false⟩ = .defective := by decide +kernel

/-- 0.7: ring differences wrap, and sequence numbers compare over half the circle. -/
theorem test_ring_and_sequence :
    ringDist 16 2 14 = 4 ∧ ringDist 16 14 2 = 12 ∧ ringNext 16 15 = 0 ∧
    atOrAhead 0 0xFFFFFFFF = true ∧ atOrAhead 0xFFFFFFFF 0 = false ∧
    atOrAhead 0x7FFFFFFF 0 = true ∧ atOrAhead 0x80000000 0 = false := by decide +kernel

/-! ### Single steps -/

theorem test_step_takes_the_command :
    gives (step { on with pending := [.registerWrite 0x0C 4 0x40] })
      (fun t => t.window.setupLo == 0x40 && t.pending == []) = true := by decide +kernel

theorem test_idle_step_ticks :
    gives (step on) (fun t => t.stream.timeCounter == 1 && t.stream.maintenance == some 1) = true := by
  decide +kernel

theorem test_first_window_row_strobes_every_port :
    gives (exec .rowEnd (running 1)) (fun t => t.stream.rowIndex == 2 && t.ports[(3 : Fin 4)].pulse == 2 &&
      t.stream.frameMark == false) = true := by decide +kernel

theorem test_setup_without_buffer_drops :
    gives (exec .rowEnd (running 11)) (fun t => t.stream.rowIndex == 12 && t.stream.next == 2 &&
      t.stream.setUp == some (.dropped 1 0 defaultProfile .noBuffer)) = true := by decide +kernel

theorem test_stop_end_in_running_is_long :
    let r := request 6 9 [(8, 0)]
    gives (exec .stopEnd (asks (running 5) r)) (fun t => t.stream.state == .draining &&
      t.requests.entries.length == 1 && t.completions.holding == []) = true := by decide +kernel

/-! ### Witnesses: steps, resets and the register window -/

theorem witness_IdleStepTakesDueEventOrTicks :
    on.pending = [] ∧ dueEvent on = none ∧
    dueEvent { on with stream := { on.stream with maintenance := some 400 } } = some .maintenanceStrobe ∧
    dueEvent (asks on (request 13 1 [])) = some .badKind ∧
    dueEvent (asks (running 3) (request 6 9 [])) = some .rowEnd ∧
    (let s := { running 3 with stream := { (running 3).stream with rowTimer := 89 } }
     dueEvent (asks s (request 6 9 [])) = some .stopEnd ∧ dueEvent (asks s (request 12 9 [])) = some .reclaim) ∧
    (let s := { on with trim := { on.trim with program := .programming 3 5 99999, load := .waiting 2 } }
     s.pending = [] ∧ dueEvent s = none) := by
  decide +kernel

theorem witness_FunctionResetKeepsWhatTheTablesKeep : (2#32).getLsbD 1 = true := by decide

theorem witness_RegisterWindowActsAsItsTableSays :
    ((0#32).getLsbD 1 = false ∧ (0#32).getLsbD 0 = false) ∧
    ((4 : Nat) ≠ 4 ∨ (0x08 : Nat) ∉ [0x00, 0x04, 0x0C, 0x10, 0x14, 0x18, 0x1C]) ∧
    ((2 : Nat) ≠ 4 ∨ (0x1C : Nat) ∉ [0x08, 0x0C, 0x10, 0x14, 0x18, 0x1C]) ∧
    ((4 : Nat) ≠ 4 ∨ (0x20 : Nat) ∉ [0x08, 0x0C, 0x10, 0x14, 0x18, 0x1C]) ∧
    ((4 : Nat) ≠ 4 ∨ (0x16 : Nat) ∉ [0x08, 0x0C, 0x10, 0x14, 0x18, 0x1C]) := by decide

/-- A device in a state, with a setup-block address. -/
def atAddress (d : DeviceState) (lo : Word) : State :=
  { inDevice d on with window := { (inDevice d on).window with setupLo := lo, setupRead := some 0 } }

theorem witness_EnableActionReadsTheSetupBlock :
    ((1#32).getLsbD 1 = false ∧ (1#32).getLsbD 0 = true) ∧
    (let s := atAddress .disabled 64; s.window.device = .disabled ∧
      (s.window.setupHi.toNat * 2 ^ 32 + s.window.setupLo.toNat) % 64 = 0) ∧
    (let s := atAddress .disabled 63; s.window.device = .disabled ∧
      (s.window.setupHi.toNat * 2 ^ 32 + s.window.setupLo.toNat) % 64 ≠ 0) ∧
    (atAddress .setup 64).window.device ≠ .disabled := by decide +kernel

/-- The rings at their smallest and largest sizes, end to end up to 2⁶⁴, and the largest threshold. -/
def tight : Setup :=
  ⟨⟨0xFFFFFFFFFFFBFD00#64, 4096⟩, ⟨0xFFFFFFFFFFFFFD00#64, 16⟩, ⟨0xFFFFFFFFFFFFFE00#64, 16⟩, 15, 0⟩

theorem witness_ValidSetupBlockEnables :
    (atAddress .setup 0).window.device = .setup ∧ (atAddress .setup 0).window.setupRead = some 0#64 ∧
    (okay (blockBytes tight)).tracked = true ∧
    (∀ x ∈ (okay (blockBytes tight)).beats, x = .okay ∨ x = .exokay) ∧
    (let b := setupOf (okay (blockBytes tight)).data
     b = tight ∧ SizesValid b ∧ BasesAligned b ∧ ExtentsFit b ∧ ExtentsDisjoint b ∧ ThresholdFits b) := by
  decide +kernel

theorem witness_InvalidSetupBlockIsRefusedInOrder :
    (atAddress .setup 0).window.setupRead ≠ none ∧
    (¬ ∀ x ∈ (failing (blockBytes block)).beats, x = .okay ∨ x = .exokay) ∧
    ¬ SizesValid (setupOf (blockBytes { tight with request := ⟨0, 4095⟩ })) ∧
    (let b := setupOf (blockBytes { tight with request := ⟨32, 4096⟩ }); SizesValid b ∧ ¬ BasesAligned b) ∧
    (let b := setupOf (blockBytes { tight with buffer := ⟨0xFFFFFFFFFFFFFF40#64, 16⟩ })
     SizesValid b ∧ BasesAligned b ∧ ¬ ExtentsFit b) ∧
    (let b := setupOf (blockBytes { tight with request := ⟨0xFFFFFFFFFFFBFD40#64, 4096⟩ })
     SizesValid b ∧ BasesAligned b ∧ ExtentsFit b ∧ ¬ ExtentsDisjoint b) ∧
    (let b := setupOf (blockBytes { tight with threshold := 16 })
     SizesValid b ∧ BasesAligned b ∧ ExtentsFit b ∧ ExtentsDisjoint b ∧ ¬ ThresholdFits b) := by
  decide +kernel

/-- A programmed slot. -/
def programmed : TrimSlot := ⟨true, some (image68 0 0x4000), some 0xFFFF, false⟩

/-- INIT after a number of ticks, with slots 2 and 5 programmed or none. -/
def scanning (ticks : Nat) (any : Bool) : State :=
  { State.reset with
    window := { State.reset.window with initTicks := ticks }
    trim := { State.reset.trim with
      slots := if any then (State.reset.trim.slots.set 2 programmed).set 5 programmed
        else State.reset.trim.slots } }

theorem witness_EndOfInitScansTheStore :
    ((scanning 2000 true).window.device = .init ∧ 2000 ≤ (scanning 2000 true).window.initTicks ∧
      slotClass (scanning 2000 true).trim.slots[(5 : Fin 8)] = .programmed ∧
      (∀ j : Fin 8, 5 < j → slotClass (scanning 2000 true).trim.slots[j] ≠ .programmed)) ∧
    (∀ k : Fin 8, slotClass (scanning 2000 false).trim.slots[k] ≠ .programmed) ∧
    (scanning 1999 true).window.initTicks < 2000 := by decide +kernel

/-- Ring indices: the records 14, 15, 0 and 1 have been fetched, and two descriptors wait. -/
def rings : State := { on with
  window := { on.window with rqTail := 2, bfTail := 15, cpHead := 14 }
  requests := { on.requests with head := 14, fetchIndex := 2, intake := List.replicate 4 0 }
  buffers := { on.buffers with ringHead := 13, fetch := some ⟨0x200C0, false⟩ }
  completions := { on.completions with tail := 2, phase := false } }

theorem witness_RequestTailWriteIsJudged :
    let fault := fun (v : Word) => requestSize rings ≤ v.toNat ∨
      modDiff (requestSize rings) v.toNat rings.requests.head <
        modDiff (requestSize rings) rings.requests.fetchIndex rings.requests.head
    0 < requestSize rings ∧ rings.window.device = .enabled ∧ fault 16 ∧ fault 1 ∧ ¬ fault 2 ∧ ¬ fault 13 ∧
      ∀ d ∈ [DeviceState.init, .disabled, .setup, .halted], (inDevice d State.reset).window.device ≠ .enabled := by
  decide +kernel

/-- The same with a RECLAIM in progress whose target is 15. -/
def reclaiming : State := { rings with buffers := { rings.buffers with
  paused := true, reclaim := some ⟨15, 0⟩, fetch := none } }

theorem witness_BufferTailWriteIsJudged :
    let fault := fun (s : State) (v : Word) => bufferSize s ≤ v.toNat ∨
      (s.buffers.fetch ≠ none ∧ (v.toNat + 1) % bufferSize s = s.buffers.ringHead) ∨
      ∃ r ∈ s.buffers.reclaim, modDiff (bufferSize s) v.toNat s.buffers.ringHead <
        modDiff (bufferSize s) r.target s.buffers.ringHead
    rings.buffers.ringHead < bufferSize rings ∧ rings.window.device = .enabled ∧ fault rings 16 ∧
      fault rings 12 ∧ ¬ fault rings 13 ∧ fault reclaiming 14 ∧ ¬ fault reclaiming 15 ∧
      ∀ d ∈ [DeviceState.init, .disabled, .setup, .halted], (inDevice d State.reset).window.device ≠ .enabled := by
  decide +kernel

theorem witness_CompletionHeadWriteActsOnTheNoticeLine :
    let fault := fun (v : Word) => completionSize rings ≤ v.toNat ∨
      modDiff (completionSize rings) rings.completions.tail rings.window.cpHead.toNat <
        modDiff (completionSize rings) v.toNat rings.window.cpHead.toNat
    let left := fun (v : Word) => modDiff (completionSize rings) rings.completions.tail v.toNat
    0 < completionSize rings ∧ fault 16 ∧ fault 3 ∧ (¬ fault 2 ∧ left 2 = 0) ∧
      (¬ fault 15 ∧ 0 < left 15 ∧ left 15 < (max 1 rings.window.setup.threshold : Nat)) ∧
      (¬ fault 14 ∧ (max 1 rings.window.setup.threshold : Nat) ≤ left 14) ∧
      rings.window.device = .enabled ∧
      ∀ d ∈ [DeviceState.init, .disabled, .setup, .halted], (inDevice d State.reset).window.device ≠ .enabled := by
  decide +kernel

/-! ### Witnesses: rows, frames and the trigger -/

theorem witness_RowEndBeginsTheNextRow :
    (let s := { running 3 with stream := { (running 3).stream with rowTimer := 89 } }
     ∀ f ∈ s.stream.current, s.stream.rowTimer < f.bound.rowPeriod) ∧
    rowsRun on = false ∧ (inDevice .halted on).window.device ≠ .enabled ∧
    (RowEnds (running 10) frame0 ∧ (running 10).stream.rowIndex + 1 < frame0.bound.frameRows ∧
      ¬ ((running 10).stream.state = .running ∧ (running 10).stream.rowIndex + 5 = frame0.bound.frameRows)) ∧
    (let s := inStream .draining (running 11)
     RowEnds s frame0 ∧ s.stream.rowIndex + 1 < frame0.bound.frameRows ∧
      ¬ (s.stream.state = .running ∧ s.stream.rowIndex + 5 = frame0.bound.frameRows)) ∧
    RecordsDistinct (running 10) ∧ storeHeld (running 10).coder ≤ 8192 := by decide +kernel

/-- R74, R77, R88: at the next row strobe an UP port's unanswered window is MISSING and its condition BAD, and an
ALIGNING port's 512th request has failed; the window row is handed over with LINK_ERROR and no port left UP. -/
theorem test_missing_at_row_strobe :
    let aligning := { portAt .aligning 0 3 512 true with window := some ⟨true, true, false⟩ }
    let s := withPort0 { running 2 with row := some (rowWith 2 #v[.pending, .down, .down, .down]) }
      (portAt .up 7 0 0 false)
    let u := { s with ports := s.ports.set 1 aligning }
    gives (exec .rowEnd u) (fun t => t.ports[(0 : Fin 4)].state == .lost &&
      t.ports[(0 : Fin 4)].lastCause == .linkLost && t.ports[(1 : Fin 4)].lastCause == .alignFailed &&
      t.records.map FrameRecord.damage == [damageLinkError] && t.row == none) = true := by decide +kernel

/-- R74: row 0 begun 399 ticks after a maintenance strobe cuts the window short without a verdict, 400 ticks after
it the port is judged. -/
theorem test_cut_short :
    let s := fun (age : Nat) => withPort0 { on with stream := { on.stream with
        state := .waiting, mode := .triggered, setUp := some dropped1, next := 2, maintenance := some age } }
      { portAt .up 7 0 0 false with window := some ⟨false, false, false⟩ }
    gives (exec .triggerEdge (s 399)) (fun t => t.ports[(0 : Fin 4)].state == .up) = true ∧
    gives (exec .triggerEdge (s 400)) (fun t => t.ports[(0 : Fin 4)].state == .lost) = true := by decide +kernel

theorem witness_SetupRowSetsUpTheNextFrame :
    RowEnds (running 11) frame0 ∧ (running 11).stream.state = .running ∧
      (running 11).stream.rowIndex + 5 = frame0.bound.frameRows ∧ RecordsDistinct (running 11) ∧
      storeHeld (running 11).coder ≤ 8192 := by decide +kernel

/-- The last row of a dropped frame q, while the drop summary begins at frame 0. -/
def lastOfDropped (q : Word) : State := { closing 15 with
  stream := { (closing 15).stream with current := some (.dropped q 0 short .noBuffer) }
  completions := { on.completions with summary := some ⟨0, 7, 2, 1⟩ } }

/-- The last row of a dropped frame 1, with n completions in the holding queue and a record in REPORT_WAIT. -/
def dropWith (n : Nat) (phase : Phase) : State := { lastOfDropped 1 with
  records := [{ openRow with phase := phase, disposition := some .deliver, reportKind := some .frameDone, turn := 1 }]
  completions := { on.completions with holding := List.replicate n (.bufferReturned 1 .rejected) } }

/-- R142, R169: the one free entry is the waiting record's, so the frame opens the drop summary; with no producer waiting,
or with a second entry free, it is a FRAME_DROPPED of its own. -/
theorem test_drop_report_finds_entry :
    gives (exec .rowEnd (dropWith 7 .reportWait)) (fun t => t.completions.holding.length == 7 &&
      t.completions.summary == some ⟨1, 1, 1, 1⟩) = true ∧
    (∀ s ∈ [dropWith 7 .closing, dropWith 6 .reportWait], gives (exec .rowEnd s) (fun t =>
      t.completions.holding.getLast? == some (.frameDropped 1 1 1 1) && t.completions.summary == none) = true) ∧
    dueEvent (dropWith 7 .reportWait) = some .frameReportGrant := by decide +kernel

theorem witness_FrameEndFollowsTheStreamState :
    let f := fun (q : Word) => SlotFrame.dropped q 0 short .noBuffer
    (RowEnds (lastOfDropped 0x80000000) (f 0x80000000) ∧
      (f 0x80000000).bound.frameRows ≤ (lastOfDropped 0x80000000).stream.rowIndex + 1 ∧
      releaseOverflows (lastOfDropped 0x80000000) (f 0x80000000) = true) ∧
    (RowEnds (lastOfDropped 0x7FFFFFFF) (f 0x7FFFFFFF) ∧
      releaseOverflows (lastOfDropped 0x7FFFFFFF) (f 0x7FFFFFFF) = false) ∧
    (RowEnds (closing 15) frame0 ∧ releaseOverflows (closing 15) frame0 = false ∧
      (closing 15).stream.state = .running ∧ (closing 15).stream.mode = .free ∧
      dropped1 ∈ (closing 15).stream.setUp ∧ RecordsDistinct (closing 15) ∧
      storeHeld (closing 15).coder ≤ 8192) ∧
    RowEnds (inStream .draining (closing 15)) frame0 := by decide +kernel

/-- Four ports UP, the first with an open maintenance window, 400 ticks after the last strobe. -/
def strobing : State := withPort0
  { on with stream := { on.stream with maintenance := some 400 } }
  { portAt .up 7 0 0 false with window := some ⟨false, false, false⟩ }

theorem witness_MaintenanceStrobeGoesToEveryFittedPort :
    (strobing.stream.maintenance = some 400 ∧ rowsRun strobing = false ∧ strobing.window.device ≠ .init ∧
      strobing.window.device ≠ .halted ∧ RecordsDistinct strobing ∧ storeHeld strobing.coder ≤ 8192 ∧
      MissesReply false strobing.ports[(0 : Fin 4)] ⟨false, false, false⟩) ∧
    failingPorts (withPort0 on { portAt .aligning 0 0 512 true with window := some ⟨false, true, false⟩ }) false =
      [0] ∧
    (let s := inDevice .halted { on with stream := { on.stream with maintenance := some 400 } }
     s.stream.maintenance = some 400 ∧ rowsRun s = false ∧ s.window.device = .halted ∧ s.row = none) ∧
    -- Not due: the timer stopped, one tick early, rows running, in INIT.
    (running 3).stream.maintenance = none ∧ rowsRun (running 3) = true ∧
    { strobing.stream with maintenance := some 399 }.maintenance = some 399 ∧
    (inDevice .init strobing).window.device = .init := by decide +kernel

/-- HALTED: an ALIGNING port and one in LOST get a strobe of 2 ticks with a reply window, and an unanswered window
closes without a verdict (R73, R94). -/
theorem test_halted_strobe :
    let window := some (⟨false, false, false⟩ : ReplyWindow)
    let s := withPort0 (inDevice .halted strobing) { portAt .aligning 0 3 511 true with window := window }
    gives (exec .maintenanceStrobe s) (fun t => t.ports[(0 : Fin 4)].alignSpent == 511 &&
      t.ports[(0 : Fin 4)].goodAlign == 3 && t.ports[(0 : Fin 4)].pulse == 2 &&
      t.ports[(0 : Fin 4)].window == window && t.ports[(3 : Fin 4)].window == window) = true ∧
    gives (exec (.replyReceived 0 true (packet 0xE41B 0xA5C3 0xA5C3 0xA5C3 0xA5C3 0x84D8)) s) (fun t => t == s) = true := by decide +kernel

/-- The stream WAITING with frame 1 set up. -/
def waitingFor1 : State := { on with stream := { on.stream with
  state := .waiting, mode := .triggered, setUp := some dropped1, next := 2 } }

theorem witness_TriggerEdgeBeginsOrCounts :
    (waitingFor1.window.device = .enabled ∧ waitingFor1.stream.state = .waiting ∧
      dropped1 ∈ waitingFor1.stream.setUp ∧ RecordsDistinct waitingFor1 ∧ storeHeld waitingFor1.coder ≤ 8192) ∧
    (let s := { running 3 with stream := { (running 3).stream with mode := .triggered, missed := 255 } }
     s.stream.state = .running ∧ s.stream.mode = .triggered) ∧
    ((running 3).stream.state = .running ∧ (running 3).stream.mode = .free) := by decide +kernel

/-! ### Witnesses: replies and rows at the intake -/

/-- A GOOD packet, a BAD one and a CORRECT one (5.2). -/
def goodPacket : BitVec 96 := packet 0xE41B 100 0xFF38 300 0 0x1B1C
def badPacket_ : BitVec 96 := packet 0xE41B 100 0xFF38 300 0 0x1B1D
def alignPacket : BitVec 96 := packet 0xE41B 0xA5C3 0xA5C3 0xA5C3 0xA5C3 0x84D8

/-- Row `index` in progress with port 0 UP and PENDING, and port 1 in a condition. -/
def awaiting (index bad : Nat) (other : Condition) : State := withPort0
  { running index with row := some (rowWith index #v[.pending, other, .down, .down]) }
  (portAt .up bad 0 0 false)

theorem witness_ReplyToAnUpPortIsJudged :
    let w : ReplyWindow := ⟨true, false, false⟩
    (ReplyTaken (awaiting 2 7 .pending) 0 w ∧ (awaiting 2 7 .pending).ports[(0 : Fin 4)].state = .up ∧
      w.alignment = false) ∧
    (∀ r ∈ (awaiting 2 7 .pending).row, r.conditions[(0 : Fin 4)] = .pending ∧ ¬ OthersDecided r 0) ∧
    (∀ r ∈ (awaiting 2 7 .bad).row, r.conditions[(0 : Fin 4)] = .pending ∧ OthersDecided r 0) ∧
    (awaiting 2 7 .bad).row ≠ none ∧
    (let s := withPort0 on { portAt .up 6 0 0 false with window := some ⟨false, false, false⟩ }
     ReplyTaken s 0 ⟨false, false, false⟩ ∧ ∀ r ∈ s.row, ∃ p' : Fin 4, r.conditions[p'] = .pending) ∧
    -- A PORT_ALIGN taken within the window of a maintenance strobe.
    ReplyTaken (withPort0 on { portAt .aligning 0 0 0 false with window := some ⟨false, false, false⟩ }) 0
      ⟨false, false, false⟩ ∧
    -- Not judged: LOST, HALTED, an earlier reply, no window.
    (withPort0 on (portAt .lost 0 0 0 false)).ports[(0 : Fin 4)].state = .lost ∧
    (inDevice .halted (awaiting 2 7 .pending)).window.device = .halted ∧
    (withPort0 on { portAt .up 0 0 0 false with window := some ⟨true, false, true⟩ }).ports[(0 : Fin 4)].window =
      some ⟨true, false, true⟩ ∧ on.ports[(1 : Fin 4)].window = none := by
  decide +kernel

theorem witness_ReplyToAnAligningPortIsJudged :
    let w : ReplyWindow := ⟨true, true, false⟩
    let s := fun (good spent : Nat) => withPort0 on (portAt .aligning 0 good spent true)
    (ReplyTaken (s 7 511) 0 w ∧ (s 7 511).ports[(0 : Fin 4)].state = .aligning ∧ (s 7 511).row = none) ∧
    (aligningAfter (s 7 511).ports[(0 : Fin 4)] (CorrectReply goodPacket)).state = .aligning ∧
    (aligningAfter (s 7 512).ports[(0 : Fin 4)] (CorrectReply alignPacket)).state = .up ∧
    (aligningAfter (s 6 512).ports[(0 : Fin 4)] (CorrectReply alignPacket)).state = .lost := by decide +kernel

theorem witness_CompletedWindowRowIsHandedOver :
    let w : ReplyWindow := ⟨true, false, false⟩
    let hyps := fun (index : Nat) =>
      let s := awaiting index 0 .down
      let row := rowWith index #v[.pending, .down, .down, .down]
      ReplyTaken s 0 w ∧ s.ports[(0 : Fin 4)].state = .up ∧ s.row = some row ∧
        row.conditions[(0 : Fin 4)] = .pending ∧ OthersDecided row 0 ∧ openRow ∈ s.records ∧
        RecordsDistinct s ∧ openRow.phase = .opened ∧ slotHolds row.frame openRow ∧
        storeHeld s.coder ≤ 8192 ∧ openRow.bound.rowFirst ≤ row.index ∧ row.index ≤ openRow.bound.rowLast ∧
        (row.index - openRow.bound.rowFirst) % openRow.bound.rowStep = 0
    hyps 2 ∧ hyps 6 ∧ hyps 8 ∧ 6 ≠ finalRow openRow.bound ∧ 8 = finalRow openRow.bound := by
  decide +kernel

theorem test_bad_packet : GoodReply goodPacket ∧ ¬ GoodReply badPacket_ ∧ CorrectReply alignPacket := by
  decide +kernel

/-! ### Witnesses: the request ring -/

theorem witness_RequestFetchAdvances :
    let due := fun (s : State) => s.window.device = .enabled ∧ s.requests.fetch = none ∧
      s.requests.intake.length < 4 ∧
      modDiff (requestSize s) s.window.rqTail.toNat s.requests.fetchIndex ≠ 0
    let s := { rings with window := { rings.window with rqTail := 0 }
                          requests := { rings.requests with fetchIndex := 15, intake := [0] } }
    0 < requestSize s ∧ due s ∧ ¬ due rings ∧
      (let u := { s with requests := { s.requests with fetch := some 0 } }
       u.window.device = .enabled ∧ u.requests.fetch ≠ none ∧ ¬ ReadFails (okay (request 1 2 []))) ∧
      rings.requests.fetch = none := by decide +kernel

/-- A record's taking as an immediate request is due. -/
abbrev immediate (s : State) (r : Record) : Prop := ImmediateTurn (asks s r) r []

/-- A record's taking as a long request is due. -/
abbrev long (s : State) (r : Record) : Prop := LongTurn (asks s r) r []

theorem witness_BadRecordsAreAnswered :
    (immediate on (request 0 1 []) ∧ recordNat (request 0 1 []) 0 1 = 0) ∧
    (immediate on (request 13 1 []) ∧ recordNat (request 13 1 []) 0 1 = 13) ∧
    (immediate on (request 12 1 [(1, 128)]) ∧ recordNat (request 12 1 [(1, 128)]) 1 1 = 128) ∧
    (immediate on (request 1 1 []) ∧ HasKind (request 1 1 []) 1) := by decide +kernel

theorem witness_FailedAccessesHaltTheDevice :
    ReadFails (failing (0 : Record)) ∧ ReadFails (failing (0 : BitVec 128)) ∧ WriteFails ⟨true, .decerr⟩ ∧
    (let s := { rings with
        requests := { rings.requests with fetch := some 0 }
        completions := { rings.completions with write := some ⟨0, []⟩ } }
     s.window.device = .enabled ∧ s.requests.fetch ≠ none ∧ s.buffers.fetch ≠ none ∧
      s.completions.write ≠ none) := by decide +kernel

/-! ### Witnesses: profiles, schedules and commits -/

/-- The pairs of a STAGE body as fields. -/
def pairs (l : List (Nat × Nat)) : List (Nat × Nat) :=
  (l.mapIdx fun i x => [(0x10 + 4 * i, x.1), (0x11 + 4 * i, x.2)]).flatten

/-- A STAGE of profile p with k pairs. -/
def stage (p k : Nat) (l : List (Nat × Nat)) : Record := request 1 5 ([(8, p), (9, k)] ++ pairs l)

theorem witness_StageWritesTheLastPairs :
    let r := stage 3 12 ((List.range 11).map (fun i => (2, 16 + i)) ++ [(6, 0xFFFF)])
    immediate on r ∧ HasKind r 1 ∧ recordNat r 8 1 = (3 : Fin 4).val ∧ recordNat r 9 1 ≤ 12 ∧
      ∀ i < recordNat r 9 1, PairOk (stagePair r i) := by decide +kernel

theorem witness_StageIsRefusedAtTheFirstFault :
    (immediate on (stage 4 0 []) ∧ HasKind (stage 4 0 []) 1 ∧ 4 ≤ recordNat (stage 4 0 []) 8 1) ∧
    (immediate on (stage 0 13 []) ∧ 12 < recordNat (stage 0 13 []) 9 1) ∧
    (let r := stage 0 2 [(1, 65535), (10, 0)]
     immediate on r ∧ (∀ j < 1, PairOk (stagePair r j)) ∧ 1 < recordNat r 9 1 ∧
      fieldRange (stagePair r 1).1 = none) ∧
    (let r := stage 0 2 [(1, 40), (1, 39)]
     immediate on r ∧ (∀ j < 1, PairOk (stagePair r j)) ∧ fieldRange (stagePair r 1).1 ≠ none ∧
      ¬ PairOk (stagePair r 1)) := by decide +kernel

/-- A STAGE_SCHEDULE with a count and entries. -/
def scheduleRecord (count : Nat) (l : List (Nat × Nat)) : Record :=
  request 2 5 ((8, count) :: (l.mapIdx fun i x => [(0x10 + 4 * i, x.1), (0x12 + 4 * i, x.2)]).flatten)

theorem witness_StageScheduleReplacesOrRefuses :
    (immediate on (scheduleRecord 0 []) ∧ HasKind (scheduleRecord 0 []) 2) ∧
    (let r := scheduleRecord 9 []; immediate on r ∧ 8 < recordNat r 8 1) ∧
    (let r := scheduleRecord 8 (List.replicate 8 (3, 255))
     immediate on r ∧ recordNat r 8 1 ≤ 8 ∧ ∀ j < recordNat r 8 1, EntryOk (scheduleBodyEntry r j)) ∧
    (let r := scheduleRecord 2 [(0, 1), (4, 1)]
     immediate on r ∧ (∀ j < 1, EntryOk (scheduleBodyEntry r j)) ∧ 4 ≤ (scheduleBodyEntry r 1).1) ∧
    (let r := scheduleRecord 2 [(0, 255), (0, 256)]
     immediate on r ∧ (∀ j < 1, EntryOk (scheduleBodyEntry r j)) ∧ (scheduleBodyEntry r 1).1 < 4 ∧
      ¬ EntryOk (scheduleBodyEntry r 1)) := by decide +kernel

/-- A COMMIT. -/
def commitRecord (tag mode flag frame : Nat) (list : List Nat) : Record :=
  request 3 tag ([(8, list.length), (9, mode), (10, flag), (12, frame)] ++
    list.mapIdx fun i v => (0x10 + i, v))

/-- A device with one PENDING group for P0. -/
def withGroup : State := { on with
  commits := [groupP], profiles := on.profiles.set 0 { on.profiles[(0 : Fin 4)] with pend := some short } }

theorem witness_CommitIsListedInLandingOrder :
    let r := commitRecord 7 1 1 0x7FFFFFFF [3, 1]
    immediate withGroup r ∧ HasKind r 3 ∧
      withGroup.commits.Pairwise (InLandingOrder (asks withGroup r)) ∧
      CommitPasses (asks withGroup r) (commitOperands r) ∧
      ¬ ((commitOperands r).mode = 0 ∧ withGroup.stream.state = .stopped) := by decide +kernel

theorem witness_CommitLandsAtOnceWhenStopped :
    let r := commitRecord 7 0 1 0 [3, 1, 2]
    immediate withGroup r ∧ HasKind r 3 ∧ CommitPasses (asks withGroup r) (commitOperands r) ∧
      (commitOperands r).mode = 0 ∧ (asks withGroup r).stream.state = .stopped := by decide +kernel

/-- A device with four PENDING groups, one for each profile. -/
def withFourGroups : State := { on with
  commits := [⟨1, 1, false, 12, .pending, none⟩, ⟨2, 2, false, 12, .pending, none⟩,
              ⟨3, 4, false, 13, .pending, none⟩, ⟨4, 8, false, 13, .pending, none⟩]
  profiles := Vector.replicate 4 { staged := short, pend := some short, active := short } }

/-- A device whose staged P2 has its last window row in the closure rows. -/
def withUnsound : State := { on with
  profiles := on.profiles.set 2 { on.profiles[(2 : Fin 4)] with staged := { short with rowLast := 12 } } }

theorem witness_RefusedCommitChangesNothing :
    let refusal := fun (r : Record) => commitRefusal (asks withGroup r) (commitOperands r)
    let due := fun (r : Record) => immediate withGroup r ∧ HasKind r 3
    withGroup.commits.length ≤ 4 ∧
    (due (commitRecord 7 2 0 0 [1]) ∧ refusal (commitRecord 7 2 0 0 [1]) = some (.badField, 255)) ∧
    (due (commitRecord 7 0 0 0 [1, 1]) ∧ refusal (commitRecord 7 0 0 0 [1, 1]) = some (.badField, 1)) ∧
    (due (commitRecord 0x11 0 0 0 [1]) ∧ refusal (commitRecord 0x11 0 0 0 [1]) = some (.duplicateTag, 0)) ∧
    (due (commitRecord 7 0 0 0 [1, 0]) ∧ refusal (commitRecord 7 0 0 0 [1, 0]) = some (.pending, 0)) ∧
    (due (commitRecord 7 1 0 0x80000000 [1]) ∧ refusal (commitRecord 7 1 0 0x80000000 [1]) = some (.late, 0)) ∧
    (due (commitRecord 7 1 1 0 []) ∧ refusal (commitRecord 7 1 1 0 []) = none) ∧
    (let r := commitRecord 7 0 1 0 []
     immediate withFourGroups r ∧ HasKind r 3 ∧ withFourGroups.commits.length ≤ 4 ∧
      commitRefusal (asks withFourGroups r) (commitOperands r) = some (.listFull, 0)) ∧
    (let r := commitRecord 7 0 0 0 [1, 2]
     immediate withUnsound r ∧ HasKind r 3 ∧
      commitRefusal (asks withUnsound r) (commitOperands r) = some (.invalid, 16 * 2 + 2)) := by decide +kernel

theorem witness_WithdrawDiscardsAPendingGroup :
    let r := fun (tag : Nat) => request 4 9 [(8, tag)]
    let s := { withGroup with commits := [groupL, groupP] }
    (immediate withGroup (r 0x11) ∧ HasKind (r 0x11) 4 ∧ (withGroup.commits.map CommitGroup.tag).Nodup ∧
      groupP ∈ withGroup.commits ∧ groupP.state = .pending ∧ groupP.tag = recordField (r 0x11) 8 2) ∧
    (immediate withGroup (r 0x12) ∧ ∀ g ∈ withGroup.commits, g.tag = recordField (r 0x12) 8 2 →
      g.state = .landedUnreported) ∧
    (s.commits.map CommitGroup.tag).Nodup := by decide +kernel

/-! ### Witnesses: runs -/

theorem witness_StartBeginsARun :
    let r := fun (mode : Nat) => request 5 9 [(8, mode)]
    (∀ mode ∈ [0, 1], immediate on (r mode) ∧ HasKind (r mode) 5 ∧ recordNat (r mode) 8 1 = mode ∧
      (asks on (r mode)).stream.state = .stopped ∧ (asks on (r mode)).buffers.reclaim = none ∧
      RecordsDistinct (asks on (r mode)) ∧ storeHeld (asks on (r mode)).coder ≤ 8192) ∧
    (immediate (running 3) (r 2) ∧ 1 < recordNat (r 2) 8 1) ∧
    (immediate (running 3) (r 1) ∧ (running 3).stream.state ≠ .stopped) ∧
    (immediate reclaiming (r 1) ∧ reclaiming.stream.state = .stopped ∧ reclaiming.buffers.reclaim ≠ none) := by
  decide +kernel

theorem witness_StopEndActsByTheStreamState :
    let r := fun (manner : Nat) => request 6 9 [(8, manner)]
    HasKind (r 0) 6 ∧ (long (running 3) (r 0) ∧ recordNat (r 0) 8 1 = 0 ∧ (running 3).stream.state = .running) ∧
    immediate waitingFor1 (r 0) ∧ immediate (inStream .draining (closing 3)) (r 0) ∧ immediate on (r 0) ∧
    (immediate (running 3) (r 2) ∧ 1 < recordNat (r 2) 8 1) := by decide +kernel

/-- R16, R120: the aborted frame's staged bytes stay in the store, and its record waits for them. -/
theorem test_abort_keeps_staged_bytes :
    let s := asks { running 3 with coder := { (running 3).coder with unissued := [⟨0, 64, 5⟩] } }
      (request 6 9 [(8, 1)])
    gives (exec .stopAbort s) (fun t => t.coder.unissued == [⟨0, 64, 5⟩] && t.coder.headers.isEmpty &&
      t.records.map FrameRecord.phase == [.closing]) = true := by decide +kernel

theorem witness_StopAbortEndsTheRun :
    let r := request 6 9 [(8, 1)]
    HasKind r 6 ∧ recordNat r 8 1 = 1 ∧ immediate on r ∧
    (immediate (running 3) r ∧ RecordsDistinct (asks (running 3) r) ∧ SetUpHasRecord (asks (running 3) r) ∧
      (running 3).stream.state ≠ .stopped ∧ openRow ∈ (running 3).records ∧ openRow.phase = .opened ∧
      (running 3).stream.current.bind recordOf = some openRow.ref) ∧
    (immediate (closing 13) r ∧ RecordsDistinct (asks (closing 13) r) ∧ SetUpHasRecord (asks (closing 13) r) ∧
      ∀ x ∈ (closing 13).records, x.phase ≠ .opened) ∧
    (let s := { closing 13 with
        stream := { (closing 13).stream with setUp := some (.buffered 1 1 short) }
        records := [{ openRow with phase := .closing, disposition := some .deliver },
                    { openRow with ref := 1, sequence := 1, phase := .setUp, startTime := none }]
        nextRef := 2 }
     immediate s r ∧ RecordsDistinct s ∧ SetUpHasRecord s ∧
      s.stream.setUp.bind recordOf = some 1) ∧
    -- A dropped current frame; WAITING; DRAINING with its pending STOP END.
    (let s := lastOfDropped 1
     (∃ f ∈ s.stream.current, recordOf f = none) ∧ immediate { s with completions := on.completions } r ∧
      RecordsDistinct s ∧ SetUpHasRecord s) ∧
    (immediate waitingFor1 r ∧ RecordsDistinct waitingFor1 ∧ SetUpHasRecord waitingFor1 ∧
      waitingFor1.stream.state = .waiting) ∧
    (let s := { inStream .draining (running 13) with requests := { on.requests with
        entries := [⟨6, 1, 1, .stopEnd, none⟩] } }
     immediate s r ∧ RecordsDistinct s ∧ SetUpHasRecord s ∧ s.stream.state = .draining ∧
      underWay s .stopEnd = 1) := by decide +kernel

/-! ### Witnesses: channels and ports -/

/-- A SET_CHANNEL. -/
def setChannelRecord (c source apply constant : Nat) : Record :=
  request 7 9 [(8, c), (9, source), (10, apply), (12, constant)]

/-- The machine with two ports fitted. -/
def two (s : State) : State := { s with window := { s.window with straps := 1#2 } }

theorem witness_SetChannelWritesTheEntry :
    let s := two (running 3)
    let due := fun (r : Record) => immediate s r ∧ HasKind r 7 ∧ RecordsDistinct (asks s r)
    (due (setChannelRecord 16 0 0 0) ∧ 16 ≤ recordNat (setChannelRecord 16 0 0 0) 8 1) ∧
    (due (setChannelRecord 8 0 0 0) ∧ fitted s ≤ 8 / 4) ∧
    (due (setChannelRecord 7 4 0 0) ∧ 3 < recordNat (setChannelRecord 7 4 0 0) 9 1 ∧ 7 / 4 < fitted s) ∧
    (due (setChannelRecord 7 3 0 0xFFFF8000) ∧
      ¬ SampleValue (recordField (setChannelRecord 7 3 0 0xFFFF8000) 12 4).toInt) ∧
    (due (setChannelRecord 7 3 2 0xFFFF8001) ∧
      SampleValue (recordField (setChannelRecord 7 3 2 0xFFFF8001) 12 4).toInt ∧
      1 < recordNat (setChannelRecord 7 3 2 0xFFFF8001) 10 1) ∧
    (due (setChannelRecord 0 3 1 0x7FFF) ∧
      (0 : Fin 16).val = recordNat (setChannelRecord 0 3 1 0x7FFF) 8 1 ∧
      SampleValue (recordField (setChannelRecord 0 3 1 0x7FFF) 12 4).toInt) := by decide +kernel

theorem witness_PortAlignBeginsAlignment :
    let r := fun (p : Nat) => request 8 9 [(8, p)]
    let due := fun (s : State) (p : Nat) => long s (r p) ∧ HasKind (r p) 8 ∧ recordNat (r p) 8 1 = p
    due on 4 ∧ (due (two on) 2 ∧ fitted (two on) ≤ 2) ∧
    (let s := withPort0 on (portAt .aligning 0 0 0 true)
     due s 0 ∧ s.ports[(0 : Fin 4)].state = .aligning) ∧
    (due (awaiting 2 0 .down) 1 ∧
      (awaiting 2 0 .down).ports[(1 : Fin 4)].state ≠ .aligning ∧
      ∀ x ∈ (awaiting 2 0 .down).row, x.conditions[(1 : Fin 4)] ≠ .pending ∧ ¬ OthersDecided x 1) ∧
    (due (awaiting 2 0 .pending) 0 ∧
      ∀ x ∈ (awaiting 2 0 .pending).row, x.conditions[(0 : Fin 4)] = .pending ∧ ¬ OthersDecided x 0) ∧
    (due (awaiting 2 0 .down) 0 ∧
      (∀ x ∈ (awaiting 2 0 .down).row, x.conditions[(0 : Fin 4)] = .pending ∧ OthersDecided x 0) ∧
      RecordsDistinct (awaiting 2 0 .down) ∧ storeHeld (awaiting 2 0 .down).coder ≤ 8192) := by
  decide +kernel

/-! ### Witnesses: trim -/

/-- The machine with a trim unit changed. -/
def trimmed (program : TrimProgramming) (load : TrimLoading) (states : Vector SlotState 8) : State :=
  { on with trim := { on.trim with program := program, load := load, slotStates := states } }

/-- Slot states: all alike. -/
def allSlots (k : SlotState) : Vector SlotState 8 := Vector.replicate 8 k

theorem witness_TrimProgramBurnsTheLowestBlankSlot :
    let r := fun (address : Nat) => request 9 9 [(16, address)]
    let aligned := fun (a : Nat) => (recordField (r a) 0x10 8).toNat % 64 = 0
    let busy := trimmed (.programming 3 0 99999) (.waiting 2) (allSlots .programmed)
    (long on (r 63) ∧ HasKind (r 63) 9 ∧ ¬ aligned 63) ∧
    (long busy (r 64) ∧ aligned 64 ∧ busy.trim.program ≠ .idle) ∧
    (let s := trimmed .idle .idle (allSlots .defective)
     long s (r 64) ∧ s.trim.program = .idle ∧ ∀ k : Fin 8, s.trim.slotStates[k] ≠ .blank) ∧
    (let s := trimmed .idle .idle ((allSlots .programmed).set 7 .blank)
     long s (r 64) ∧ s.trim.program = .idle ∧ LowestBlank s.trim 7) ∧
    ReadFails (failing (0 : Record)) ∧ ¬ ReadFails (okay (0 : Record)) ∧
    slotReadRuns (trimmed (.reading 3 0) .idle (allSlots .blank)).trim = false ∧
    slotReadRuns (trimmed (.reading 3 0) (.slotRead 2 799) (allSlots .blank)).trim = true ∧
    (trimmed (.programming 3 5 100000) .idle (allSlots .blank)).trim.program =
      .programming 3 5 100000 := by decide +kernel

/-- Answers and ends of a trim operation that is not under way. -/
theorem witness_TrimAnswersNotAwaited :
    (∀ k a, (trimmed (.held 3 5) .idle (allSlots .blank)).trim.program ≠ .reading k a) ∧
    (∀ k i e, (trimmed (.reading 3 0) .idle (allSlots .blank)).trim.program ≠ .programming k i e) ∧
    (∀ k e, (trimmed .idle (.waiting 2) (allSlots .blank)).trim.load ≠ .slotRead k e) ∧
    (∀ a, (trimmed .idle (.slotRead 2 0) (allSlots .blank)).trim.load ≠ .hostRead a) := by
  simp [trimmed]

theorem witness_TrimLoadReplacesTheTable :
    let r := fun (source slot address : Nat) => request 10 9 [(8, source), (9, slot), (16, address)]
    let idle := fun (k : SlotState) => trimmed .idle .idle (allSlots k)
    let busy := trimmed .idle (.hostRead 64) (allSlots .programmed)
    (long on (r 2 0 0) ∧ HasKind (r 2 0 0) 10 ∧ recordNat (r 2 0 0) 8 1 = 2) ∧
    (long on (r 0 8 0) ∧ recordNat (r 0 8 0) 9 1 = 8) ∧
    (long on (r 1 0 32) ∧ (recordField (r 1 0 32) 0x10 8).toNat % 64 ≠ 0) ∧
    (long busy (r 1 0 64) ∧ (recordField (r 1 0 64) 0x10 8).toNat % 64 = 0 ∧ busy.trim.load ≠ .idle) ∧
    (long on (r 1 0 64) ∧ on.trim.load = .idle) ∧
    (long busy (r 0 7 1) ∧ recordNat (r 0 7 1) 9 1 = (7 : Fin 8).val) ∧
    (long (idle .defective) (r 0 7 1) ∧ (idle .defective).trim.slotStates[(7 : Fin 8)] ≠ .programmed) ∧
    (long (idle .programmed) (r 0 7 1) ∧ (idle .programmed).trim.slotStates[(7 : Fin 8)] = .programmed) ∧
    ((trimmed .idle (.slotRead 7 800) (allSlots .programmed)).trim.load = .slotRead 7 800 ∧
      RecordsDistinct (trimmed .idle (.slotRead 7 800) (allSlots .programmed))) ∧
    (busy.trim.load = .hostRead 64 ∧ RecordsDistinct busy ∧ ReadFails (failing (0 : Record))) := by
  decide +kernel

/-! ### Witnesses: read-out, buffers and payload -/

/-- A READ_OUT. -/
def readOutRecord (kind index copy target length : Nat) : Record :=
  request 11 9 [(8, kind), (9, index), (10, copy), (16, target), (24, length)]

/-- An image of 260 bytes, less 4, under way in entry 0. -/
def imaging : State := { on with requests := { on.requests with
  entries := [⟨11, 9, 1, .image 44 [⟨0x1000C0, List.replicate 44 0⟩], none⟩] } }

theorem witness_ReadOutSnapshotsAnImage :
    let due := fun (r : Record) => long on r ∧ HasKind r 11
    let o := readOutOperands
    (due (readOutRecord 9 0 0 0 256) ∧ ¬ (o (readOutRecord 9 0 0 0 256)).kind ≤ 8) ∧
    (due (readOutRecord 1 4 0 0 256) ∧ ¬ SelectorValid (o (readOutRecord 1 4 0 0 256))) ∧
    (due (readOutRecord 6 7 0 32 256) ∧ SelectorValid (o (readOutRecord 6 7 0 32 256)) ∧
      ¬ (o (readOutRecord 6 7 0 32 256)).target.toNat % 64 = 0) ∧
    (due (readOutRecord 2 0 1 64 256) ∧ CopyAbsent on (o (readOutRecord 2 0 1 64 256))) ∧
    (let r := readOutRecord 1 3 2 0xC0 44
     due r ∧ SelectorValid (o r) ∧ (o r).target.toNat % 64 = 0 ∧ ¬ CopyAbsent on (o r) ∧
      (imageItems on (o r)).map List.length = some 9 ∧ 8 + 4 * 9 ≤ (o r).length) ∧
    (let r := readOutRecord 1 3 2 0xC0 43; due r ∧ (o r).length < 8 + 4 * 9) ∧
    (imaging.requests.entries[0]? = some ⟨11, 9, 1, .image 44 [⟨0x1000C0, List.replicate 44 0⟩], none⟩ ∧
      imaging.window.device = .enabled ∧ ([.okay] : List Resp).length = 1) := by decide +kernel

theorem witness_inv_on : Inv on := by decide +kernel

theorem witness_inv_running : Inv (running 3) := by decide +kernel

/-- TABLE 9-3, TABLE 9-4: the items of the slot 0, the default schedule and a group of 3.9, and three of STATUS. -/
theorem test_image_items :
    imageItems on ⟨6, 0, 0, 0, 256⟩ = some [(0x01, 0), (0x02, 0)] ∧
    imageItems on ⟨2, 0, 0, 0, 256⟩ = some [(0x01, 1), (0x10, 0), (0x11, 1)] ∧
    commitItems [groupL] = [(0x01, 1), (0x10, 0x22), (0x11, 1), (0x12, 10), (0x13, 0), (0x14, 4), (0x15, 0),
      (0x16, 10), (0x17, 0)] ∧
    (statusItems on).length = 35 ∧ (0x34, 4) ∈ statusItems on ∧ (0x48, 255) ∈ statusItems on := by decide +kernel

theorem witness_ReadOutImagesFitTheirBursts :
    ImageBounded on ∧ ImageBounded (listed on (readOutRecord 8 0 0 0xC0 256) [] .refused none) ∧
    (∀ kind ∈ [1, 8], 1 ≤ (readOutOperands (readOutRecord kind 0 0 0xC0 256)).kind ∧
      (readOutOperands (readOutRecord kind 0 0 0xC0 256)).kind ≤ 8) ∧
    imageItems on (readOutOperands (readOutRecord 8 0 0 0xC0 256)) = some (statusItems on) ∧
    (imageBursts 0xC0 (imageBytes 8 (statusItems on))).length = 2 ∧
    (imageBytes 7 limitItems).length = 200 := by decide +kernel

/-- A RECLAIM in progress with one descriptor held. -/
def returning (target : Nat) : State := { on with
  buffers := { on.buffers with
    list := [⟨0x100000#64, 4096#32, 7#32⟩], ringHead := 1, paused := true, reclaim := some ⟨target, 2⟩ }
  requests := { on.requests with entries := [⟨8, 1, 1, .align 0, none⟩, ⟨12, 9, 2, .reclaim, none⟩] } }

theorem witness_ReclaimReturnsWhatIsHeld :
    let r := request 12 9 []
    HasKind r 12 ∧ (long (running 3) r ∧ (running 3).stream.state ≠ .stopped) ∧
    (long reclaiming r ∧ reclaiming.stream.state = .stopped ∧ reclaiming.buffers.reclaim ≠ none) ∧
    (long on r ∧ on.buffers.reclaim = none ∧ AllReturned on.buffers on.window.bfTail.toNat) ∧
    (long rings r ∧ rings.buffers.reclaim = none ∧ ¬ AllReturned rings.buffers rings.window.bfTail.toNat) ∧
    (∀ target ∈ [1, 2], let s := returning target
      GrantPossible s ∧ ProducersQuiet s ∧ (∀ y ∈ s.requests.entries.take 1, EntryQuiet s y) ∧
        (s.requests.entries[1]?).map PendingEntry.work = some .reclaim) ∧
    AllReturned { (returning 1).buffers with list := [] } 1 ∧
    ¬ AllReturned { (returning 2).buffers with list := [] } 2 := by decide +kernel

theorem witness_DescriptorsAreFetchedAndValidated :
    let fetching := { rings with buffers := { rings.buffers with fetch := none } }
    let read := fun (address capacity tag : Nat) =>
      okay (BitVec.ofNat 128 (address + capacity * 2 ^ 64 + tag * 2 ^ 96))
    let d : Descriptor := ⟨recordField (read 64 127 7).data 0 8, recordField (read 64 127 7).data 8 4, 7⟩
    0 < bufferSize rings ∧ ReclaimFetchDue reclaiming ∧
    (¬ ReclaimFetchDue fetching ∧ OrdinaryFetchDue fetching) ∧
    (¬ ReclaimFetchDue rings ∧ ¬ OrdinaryFetchDue rings) ∧
    (rings.window.device = .enabled ∧ rings.buffers.fetch = some ⟨0x200C0, false⟩ ∧
      ¬ ReadFails (read 64 128 7) ∧
      GoodDescriptor ⟨recordField (read 64 128 7).data 0 8, recordField (read 64 128 7).data 8 4, 7⟩) ∧
    ¬ GoodDescriptor d ∧ (∀ x ∈ rings.buffers.reclaim, ¬ AllReturned rings.buffers x.target) ∧
    AllReturned { rings.buffers with fetch := none, latch := some d, reclaim := some ⟨13, 0⟩ } 13 := by
  decide +kernel

/-- The staging store with n bytes of the OPEN frame 0, whose buffer begins 192 bytes into a block of 256. -/
def staged (n : Nat) : State := { running 3 with
  records := [{ openRow with descriptor := ⟨0x1000C0#64, 4096#32, 7#32⟩ }]
  coder := { (running 3).coder with
    unissued := (List.range n).map fun i => ⟨0, 64 + i, 5⟩ } }

theorem witness_PayloadBurstsStopAtMultiplesOf256 :
    let x := { openRow with descriptor := ⟨0x1000C0#64, 4096#32, 7#32⟩ }
    let run := fun (s : State) => s.coder.unissued.takeWhile fun b => b.ref == (0 : Nat)
    let room := 256 - (x.descriptor.address + BitVec.ofNat 64 64).toNat % 256
    room = 256 ∧ (∀ n ∈ [255, 256], (staged n).window.device = .enabled ∧ x ∈ (staged n).records ∧
      RecordsDistinct (staged n) ∧ (staged n).coder.unissued.head? = some ⟨0, 64, 5⟩) ∧
    (run (staged 255)).length < room ∧ room ≤ (run (staged 256)).length ∧
    ({ x with phase := .closing } : FrameRecord).phase ≠ .opened := by decide +kernel

/-- A CLOSING frame with one burst or its header in flight. -/
def answering (burst : Bool) : State := { closing 13 with coder := { (closing 13).coder with
  bursts := if burst then [⟨0, 0x100040, 64, [1, 2, 3, 4]⟩] else []
  headers := if burst then [] else [⟨0, 0x100000, []⟩] } }

theorem witness_WriteAnswersDrainTheFrame :
    let x := { openRow with phase := .closing, disposition := some .deliver }
    ((answering true).window.device = .enabled ∧
      (answering true).coder.bursts[0]? = some ⟨0, 0x100040, 64, [1, 2, 3, 4]⟩ ∧
      x ∈ (answering true).records ∧ x.ref = 0 ∧ RecordsDistinct (answering true)) ∧
    ((answering false).coder.headers[0]? = some ⟨0, 0x100000, []⟩ ∧ x ∈ (answering false).records ∧
      RecordsDistinct (answering false)) ∧ WriteFails ⟨true, .slverr⟩ := by decide +kernel

/-! ### Witnesses: completions -/

/-- n completions posted of the ring's 16, one at the queue's head, the line and the timer as given. -/
def posting (tail : Nat) (line : Bool) (timer : Option Nat) : State := { on with
  completions := { on.completions with
    holding := [.bufferReturned 7 .rejected], tail := tail, write := some ⟨0, []⟩, notice := line,
    timer := timer } }

theorem witness_CompletionsArePostedInOrder :
    let due := fun (s : State) => s.window.device = .enabled ∧ s.completions.write = none ∧
      modDiff (completionSize s) s.completions.tail s.window.cpHead.toNat < completionSize s - 1
    let idle := fun (tail : Nat) => { posting tail false none with
      completions := { (posting tail false none).completions with write := none } }
    (0 < completionSize (idle 14) ∧ due (idle 14) ∧ ¬ due (idle 15)) ∧
    (∀ s ∈ [posting 15 true none, posting 3 false (some 1), posting 2 false (some 1), posting 2 false none],
      s.window.device = .enabled ∧ s.completions.write ≠ none ∧
        s.completions.holding = [.bufferReturned 7 .rejected]) ∧
    ¬ WriteFails ⟨true, .okay⟩ ∧
    (max 1 (posting 3 false none).window.setup.threshold : Nat) ≤ modDiff 16 4 0 ∧
    modDiff 16 3 0 < (max 1 (posting 2 false none).window.setup.threshold : Nat) ∧
    (posting 2 false (some 0)).completions.timer = some 0 := by decide +kernel

/-- Two records that wait for their reports, the later-listed one the earlier frame. -/
def reporting : State := { running 3 with
  records := [{ openRow with ref := 1, sequence := 0, phase := .reportWait, reportKind := some .frameDone, turn := 1 },
              { openRow with
                sequence := 0xFFFFFFFF, phase := .reportWait, reportKind := some .frameDone, turn := 2 }]
  nextRef := 2 }

/-- Two records of one number: the one listed first entered REPORT_WAIT second. -/
def sameNumber : State := { running 3 with
  records := [{ openRow with ref := 1, phase := .reportWait, reportKind := some .frameDone, turn := 2 },
              { openRow with phase := .reportWait, reportKind := some .cancelled, turn := 1 }]
  nextRef := 2 }

/-- TABLE 10-3: equal numbers are offered by entry into REPORT_WAIT, and a record enters after those that wait. -/
theorem test_equal_numbers :
    grant sameNumber = some (.record 0) ∧
    (enterReportWait { sameNumber with records := sameNumber.records ++
        [{ openRow with ref := 2, phase := .closing }] } 2 .frameDone).records.map FrameRecord.turn =
      [2, 1, 3] := by decide +kernel

/-- A landed group, a port with a change, a rejected descriptor, a drop summary and a ready entry. -/
def groupWaits : State := { on with commits := [groupP, groupL] }
def portWaits : State := { on with ports := on.ports.set 3 { on.ports[(3 : Fin 4)] with changeCount := 1 } }
def latchWaits : State := { on with buffers := { on.buffers with latch := some ⟨0, 0, 7⟩ } }
def summaryWaits : State := { on with completions := { on.completions with summary := some ⟨0, 7, 2, 1⟩ } }
def entryReady : State := { on with requests := { on.requests with
  entries := [⟨8, 1, 1, .align 0, none⟩, ⟨12, 9, 2, .reclaim, some ⟨.ok, 0, 0⟩⟩] } }

theorem witness_ArbiterGrantsInOrder :
    ¬ GrantPossible (inDevice .halted on) ∧
    ¬ GrantPossible { on with completions := { on.completions with
        holding := List.replicate 8 (.bufferReturned 7 .rejected) } } ∧
    ((∀ r ∈ reporting.records, (r.sequence - 0xFFFFFFFF#32).toNat < 2 ^ 31) ∧ GrantPossible reporting ∧
      ∃ r ∈ reporting.records, r.phase = .reportWait) ∧
    ((∀ r ∈ sameNumber.records, (r.sequence - 0#32).toNat < 2 ^ 31) ∧ GrantPossible sameNumber) ∧
    (∃ g ∈ groupWaits.commits, g.state = .landedUnreported) ∧
    (¬ PortQuiet portWaits.ports[(3 : Fin 4)] ∧ ∀ q : Fin 4, q < 3 → PortQuiet portWaits.ports[q]) ∧
    (∀ p : Fin 4, PortQuiet latchWaits.ports[p]) ∧ latchWaits.buffers.latch ≠ none ∧
    (summaryWaits.buffers.latch = none ∧ summaryWaits.completions.summary ≠ none) ∧
    ((∀ e ∈ entryReady.requests.entries[1]?, ¬ EntryQuiet entryReady e) ∧
      ∀ e ∈ entryReady.requests.entries.take 1, EntryQuiet entryReady e) ∧
    (∀ e ∈ on.requests.entries, EntryQuiet on e) ∧
    LongRecord on (request 12 9 []) ∧ ¬ LongRecord on (request 6 9 []) := by decide +kernel

theorem witness_GrantsEmptyTheirProducers :
    (RecordsDistinct reporting ∧ grant reporting = some (.record 0)) ∧
    (grant groupWaits = some .group ∧ (groupWaits.commits.map CommitGroup.tag).Nodup ∧
      groupWaits.commits.find? (fun h => h.state == .landedUnreported) = some groupL) ∧
    grant portWaits = some (.port 3) ∧ grant latchWaits = some .latch ∧ grant summaryWaits = some .summary ∧
    grant entryReady = some (.long 1) ∧ grant on = none ∧
    grant (returning 2) = some (.long 1) := by decide +kernel

/-- With one record at the intake's head, the command c takes nothing unless it is that record's command and due. -/
theorem notDue_asks (s : State) (r : Record) {c : Instr} (h : commandOf r = c → ¬ TakingDue (asks s r) r) :
    ∀ r' rest, (asks s r).requests.intake = r' :: rest → commandOf r' = c → ¬ TakingDue (asks s r) r' := by
  intro r' rest h'
  cases h'
  exact h

/-- Four pending entries occupied. -/
def listFull : State := { on with requests := { on.requests with
  entries := List.replicate 4 ⟨8, 1, 1, .align 0, none⟩ } }

/-- The holding queue full. -/
def queueFull : State := { on with completions := { on.completions with
  holding := List.replicate 8 (.bufferReturned 1 .rejected) } }

/-- Takings that are not due: a long one with the list full, an immediate one with the queue full or another producer
waiting, and one of another kind's record. -/
theorem witness_TakingsNotDue :
    let align := request 8 9 []
    let commit := request 3 9 []
    let notDue := fun (s : State) (r : Record) (c : Instr) =>
      ∀ r' rest, (asks s r).requests.intake = r' :: rest → commandOf r' = c → ¬ TakingDue (asks s r) r'
    notDue listFull align .portAlign ∧ notDue queueFull commit .commit ∧ notDue latchWaits commit .commit ∧
      notDue on commit .stage ∧
      ∀ c ∈ takings, gives (exec c (asks listFull align)) (fun t => t == asks listFull align) = true :=
  ⟨notDue_asks listFull (request 8 9 []) (by decide +kernel),
    notDue_asks queueFull (request 3 9 []) (by decide +kernel),
    notDue_asks latchWaits (request 3 9 []) (by decide +kernel),
    notDue_asks on (request 3 9 []) (by decide +kernel), by decide +kernel⟩

/-! ### Witnesses: arithmetic, codings and invariants -/

/-- A row whose port 0 answered with the raw code 0x8000 and whose port 1 is BAD. -/
def codedRow (e : TrimEntry) : IntakeRow :=
  { rowWith 2 #v[.good 0x8000 100 0 0, .bad, .down, .down] with trim := Vector.replicate 16 e }

theorem witness_TrimArithmeticClampsAtTheEnd :
    (codedRow ⟨-32768, 65535⟩).fixed[(0 : Fin 16)] = .converter true ∧
    (codedRow ⟨-32768, 65535⟩).conditions[(0 : Fin 4)] = .good 0x8000 100 0 0 ∧
    (codedRow ⟨-32768, 65535⟩).conditions[(1 : Fin 4)] = .bad ∧
    (let q : Int := -131067; 16384 * q ≤ -32767 * 65535 ∧ -32767 * 65535 < 16384 * (q + 1)) ∧
    sampleOf (codedRow ⟨-32768, 65535⟩) 0 = -32767 ∧
    (let r := { codedRow ⟨7, 2⟩ with fixed := Vector.ofFn fun c : Fin 16 =>
          (if c.val < 2 then (.converter false) else (.test 77) : FixedSample) }
     r.fixed[(1 : Fin 16)] = .converter false ∧ r.fixed[(5 : Fin 16)] = .test 77 ∧
      sampleOf r 1 = 100 ∧ sampleOf r 5 = 77) := by decide +kernel

theorem witness_Raw16IsTwosComplement :
    ∀ x ∈ ([(0, -32768), (1, -32767), (2, 32767)] : List (Fin 16 × Int)), SampleValue x.2 ∨ x.2 = -32768 := by
  decide

theorem witness_Pack12ReadsBack :
    ∀ v ∈ ([-32768, -32767, 32767] : List Int), SampleValue v ∨ v = -32768 := by decide

theorem witness_Delta8RoundTrip :
    (OneByteDelta 0 127 ∧ OneByteDelta 127 0 ∧ ¬ OneByteDelta 0 128 ∧ ¬ OneByteDelta 128 0 ∧
      ¬ OneByteDelta (-32768) (-32767) ∧ ¬ OneByteDelta (-32767) (-32768)) ∧
    ∀ x ∈ ([(0, -32768), (1, -32767), (15, 32767)] : List (Fin 16 × Int)),
      SampleValue x.2 ∨ x.2 = -32768 := by decide

theorem witness_WrittenRecordsHaveTheirSizes :
    (⟨65535, List.replicate 16 (0, -32768), #v[true, true, true, true], true⟩ :
      Handover).samples.length ≤ 16 := by decide

/-- The premises of the statements on every step: Inv, and a next state. -/
theorem witness_StepsKeep :
    gives (step on) (fun t => t == tick on) = true ∧
    gives (step (running 3)) (fun t => t.stream.rowIndex == 4) = true := by decide +kernel

theorem witness_HaltedIsLeftOnlyByReset :
    let s := { haltedAt (running 3) .badIndex 1 with pending := [.registerWrite 0x0C 4 64] }
    Inv s ∧ s.window.device = .halted ∧ (∀ c ∈ s.pending.head?, isReset c = false) ∧
      gives (step s) (fun t => t.window.setupLo == 64) = true := by decide +kernel

theorem witness_BuffersAreConserved :
    let s := { on with
      window := { on.window with bfTail := 1 }
      buffers := { on.buffers with ringHead := 1, fetch := some ⟨0x20000, false⟩ } }
    let c := Instr.descriptorFetchDone (okay (BitVec.ofNat 128 (64 + 128 * 2 ^ 64 + 7 * 2 ^ 96)))
    Inv s ∧ isReset c = false ∧ fetchedTags c s = [7#32] ∧
      gives (exec c s) (fun t => heldTags t == [7#32]) = true := by decide +kernel

theorem witness_FieldsHaveTheirWriters :
    isReset (.registerWrite 0x08 4 1) = false ∧
    gives (exec .rowEnd (running 11)) (fun t => t.stream.next != (running 11).stream.next) = true := by
  decide +kernel

end Sys2Proof.Tests
end

/-! ### The turn of an immediate request -/

section
namespace Sys2Proof.Laws

open Sys2Proof Sys2Proof.Machine Sys2Proof.Safety

/-- No record is offered when none is in REPORT_WAIT (R139). -/
theorem waitingRecord_eq_none {s : State} (h : ∀ r ∈ s.records, r.phase ≠ .reportWait) :
    waitingRecord s = none := by
  have hnone : (s.records.filter fun r => r.phase == .reportWait) = [] := by simpa using h
  unfold waitingRecord
  rw [hnone]

/-- No producer of the orders 1 to 6 of TABLE 10-3 waits, so the intake's head is next (R168). -/
theorem firstWaiter_of_quiet {s : State} (hq : ProducersQuiet s)
    (he : ∀ e ∈ s.requests.entries, EntryQuiet s e) :
    firstWaiter s = if immediateWaits s then some .immediate else none := by
  obtain ⟨hrecords, hgroups, hports, hlatch, hsummary⟩ := hq
  have hr : waitingRecord s = none := waitingRecord_eq_none hrecords
  have hg : waitingGroup s = none := by simpa [waitingGroup] using hgroups
  have hp : waitingPort s = none :=
    List.find?_eq_none.2 fun p _ hw => (portWaits_iff _).1 hw (hports p)
  have hl : waitingEntry s = none :=
    List.findIdx?_eq_none_iff.2 fun e hm =>
      Bool.eq_false_iff.2 fun hw => (entryWaits_iff s e).1 hw (he e hm)
  simp [firstWaiter, hr, hg, hp, hlatch, hsummary, hl]

/-- In its turn an immediate request has the grant (R152, R168). -/
theorem grant_of_immediateTurn {s : State} {r : Record} {rest : List Record}
    (h : ImmediateTurn s r rest) (himm : ¬ LongRecord s r) : grant s = some .immediate := by
  obtain ⟨hgrant, hquiet, hentries, hhead⟩ := h
  have hwaits : immediateWaits s = true := by
    simpa only [immediateWaits, hhead] using (isImmediate_iff s r).2 himm
  exact (grant_eq_some_iff s .immediate).2
    ⟨hgrant, by rw [firstWaiter_of_quiet hquiet hentries, if_pos hwaits]⟩

/-- In its turn an immediate request is taken by its owner and answered (R152). -/
theorem runImmediate_of_turn {s : State} {r : Record} {rest : List Record} {test : Record → Bool}
    (owner : Record → State → State × Answer) (h : ImmediateTurn s r rest) (himm : ¬ LongRecord s r)
    (htest : test r = true) :
    runImmediate s test owner = .next (answerImmediate r (owner r (advanceHead s rest)).1
      (owner r (advanceHead s rest)).2) := by
  have htake : takeImmediate s test = some (r, advanceHead s rest) :=
    (takeImmediate_eq_some_iff ..).2
      ⟨rest, h.2.2.2, htest, grant_of_immediateTurn h himm, rfl⟩
  unfold runImmediate
  rw [htake]

/-- The kind test of the commands and the kind of the statements agree (TABLE 11-5). -/
theorem ofKind_eq_true_iff (k : BitVec 8) (r : Record) : ofKind k r = true ↔ HasKind r k.toNat := by
  unfold ofKind
  rw [Bool.and_eq_true, beq_iff_eq, beq_iff_eq, ← BitVec.toNat_inj, ← BitVec.toNat_inj]
  exact Iff.rfl

/-- A STAGE is no long request (R151). -/
theorem not_longRecord_of_stage {s : State} {r : Record} (h : HasKind r 0x01) : ¬ LongRecord s r := by
  obtain ⟨hkind, -⟩ := h
  rintro ⟨-, ⟨hlow, -⟩ | ⟨hstop, -⟩⟩ <;> omega

end Sys2Proof.Laws
end

/-! ### The checks of a STAGE -/

section
namespace Sys2Proof.Laws

open Sys2Proof Sys2Proof.Machine Sys2Proof.Safety

/-- The profile fields are the identifiers with a range in TABLE 2-1. -/
theorem isProfileField_iff (id : Nat) : isProfileField id = true ↔ fieldRange id ≠ none := by
  rw [isProfileField, decide_eq_true_eq]
  constructor
  · rintro ⟨hlow, hhigh⟩
    interval_cases id <;> simp [fieldRange]
  · intro h
    unfold fieldRange at h
    split at h
    case h_10 => exact absurd rfl h
    all_goals omega

/-- On a profile field the limits table holds the range of TABLE 2-1 (R27). -/
theorem inRange_iff_pairOk {id : Nat} (value : Nat) (h : isProfileField id = true) :
    inRange id value = true ↔ PairOk (id, value) := by
  obtain ⟨hlow, hhigh⟩ := of_decide_eq_true h
  interval_cases id <;> simp [inRange, limitsTable, PairOk, fieldRange]

/-- Only a profile field has a range for its value (TABLE 2-1). -/
theorem isProfileField_of_pairOk {x : Nat × Nat} (h : PairOk x) : isProfileField x.1 = true := by
  obtain ⟨range, hrange, -⟩ := h
  exact (isProfileField_iff x.1).2 (Option.ne_none_iff_exists'.2 ⟨range, hrange⟩)

/-- Pairs that pass are passed over by the search for the first failing pair (R32, check 3). -/
theorem pairFault_append_of_pairOk {passing : List (Nat × Nat)} (pairs : List (Nat × Nat)) (n : Nat)
    (h : ∀ x ∈ passing, PairOk x) :
    pairFault n (passing ++ pairs) = pairFault (n + passing.length) pairs := by
  induction passing generalizing n with
  | nil => rfl
  | cons x passing ih =>
    obtain ⟨hx, hpassing⟩ := List.forall_mem_cons.1 h
    have hfield : isProfileField x.1 = true := isProfileField_of_pairOk hx
    have hrange : inRange x.1 x.2 = true := (inRange_iff_pairOk x.2 hfield).2 hx
    rw [List.cons_append, pairFault, if_pos hfield, if_pos hrange, ih (n + 1) hpassing,
      List.length_cons, Nat.add_right_comm, Nat.add_assoc]

/-- A pair of no profile field is at fault with BAD_FIELD (R32, check 3). -/
theorem pairFault_cons_of_no_field {x : Nat × Nat} (n : Nat) (pairs : List (Nat × Nat))
    (h : fieldRange x.1 = none) : pairFault n (x :: pairs) = some (.badField, n) := by
  have hfield : ¬ isProfileField x.1 = true := fun hf => (isProfileField_iff x.1).1 hf h
  rw [pairFault, if_neg hfield]

/-- A profile field with a value outside its range is at fault with RANGE (R32, check 3). -/
theorem pairFault_cons_of_out_of_range {x : Nat × Nat} (n : Nat) (pairs : List (Nat × Nat))
    (h : fieldRange x.1 ≠ none) (hx : ¬ PairOk x) :
    pairFault n (x :: pairs) = some (.range, n) := by
  have hfield : isProfileField x.1 = true := (isProfileField_iff x.1).2 h
  have hrange : ¬ inRange x.1 x.2 = true := fun hr => hx ((inRange_iff_pairOk x.2 hfield).1 hr)
  rw [pairFault, if_pos hfield, if_neg hrange]

/-- The pairs of a body, cut at pair i. -/
theorem stagePairs_eq_append_cons (r : Record) {i k : Nat} (h : i < k) :
    ∃ later, stagePairs r k = stagePairs r i ++ stagePair r i :: later := by
  obtain ⟨m, rfl⟩ := Nat.exists_eq_add_of_lt h
  refine ⟨(List.range m).map fun j => stagePair r (i + (j + 1)), ?_⟩
  simp [stagePairs, Nat.add_assoc, List.range_add, List.range_succ_eq_map]

/-- No such profile, or more pairs than a body holds (R32, checks 1 and 2). -/
theorem stageFault_of_bad_header {p k : Nat} (pairs : List (Nat × Nat)) (h : 4 ≤ p ∨ 12 < k) :
    stageFault p k pairs = some (.badField, 255) := by
  unfold stageFault
  split_ifs
  · omega
  · rfl
  · rfl

/-- When the profile and the count pass and so do the pairs before pair i, the pairs from i on decide
(R32, check 3). -/
theorem stageFault_eq_pairFault (r : Record) {p k i : Nat} (hp : p < 4) (hk : k ≤ 12) (hi : i < k)
    (hpass : ∀ j < i, PairOk (stagePair r j)) :
    ∃ later, stageFault p k (stagePairs r k) = pairFault i (stagePair r i :: later) := by
  obtain ⟨later, hcut⟩ := stagePairs_eq_append_cons r hi
  have hbefore : ∀ x ∈ stagePairs r i, PairOk x := by simpa [stagePairs] using hpass
  refine ⟨later, ?_⟩
  rw [stageFault, if_pos hp, if_pos hk, hcut, pairFault_append_of_pairOk _ 0 hbefore]
  simp [stagePairs]

/-- The owner of a refused STAGE leaves the machine as it is and gives the fault as the answer (R34). -/
theorem stageOwner_of_fault {r : Record} {status : Status} {detail : Nat} (s : State)
    (h : stageFault (recordNat r 0x08 1) (recordNat r 0x09 1) (stagePairs r (recordNat r 0x09 1)) =
      some (status, detail)) :
    stageOwner r s = (s, answer status detail 0) := by
  simp only [stageOwner, h]

/-- In its turn a STAGE at fault is answered with the fault, and nothing else changes (R32, R34). -/
theorem exec_stage_of_fault {s : State} {r : Record} {rest : List Record} {status : Status}
    {detail : Nat} (hturn : ImmediateTurn s r rest) (hkind : HasKind r 0x01)
    (h : stageFault (recordNat r 0x08 1) (recordNat r 0x09 1) (stagePairs r (recordNat r 0x09 1)) =
      some (status, detail)) :
    exec .stage s = .next (answered s r rest ⟨status, BitVec.ofNat 8 detail, 0⟩) := by
  have hrun := runImmediate_of_turn stageOwner hturn (not_longRecord_of_stage hkind)
    ((ofKind_eq_true_iff kindStage r).2 hkind)
  rw [stageOwner_of_fault _ h, answerImmediate_advanceHead] at hrun
  exact hrun

/-- Settles O26: in each case the fault is computed, and a STAGE at fault answers it. -/
theorem stageIsRefusedAtTheFirstFault : Obligations.StageIsRefusedAtTheFirstFault := by
  intro s r rest i hturn hkind p k refused
  refine ⟨fun hheader => exec_stage_of_fault hturn hkind (stageFault_of_bad_header _ hheader),
    fun hp hk hi hpass => ?_⟩
  obtain ⟨later, hfault⟩ := stageFault_eq_pairFault r hp hk hi hpass
  constructor
  · intro hfield
    exact exec_stage_of_fault hturn hkind (hfault.trans (pairFault_cons_of_no_field i later hfield))
  · intro hfield hpair
    exact exec_stage_of_fault hturn hkind
      (hfault.trans (pairFault_cons_of_out_of_range i later hfield hpair))

end Sys2Proof.Laws
end

/-! ### The group of a WITHDRAW -/

section
namespace Sys2Proof.Laws

open Sys2Proof Sys2Proof.Machine Sys2Proof.Safety

/-- The kinds before STOP are immediate: none is a long request (R151). -/
theorem not_longRecord_of_kind_lt {s : State} {r : Record} {k : Nat} (h : HasKind r k) (hk : k < 6) :
    ¬ LongRecord s r := by
  obtain ⟨hkind, -⟩ := h
  rintro ⟨-, ⟨hlow, -⟩ | ⟨hstop, -⟩⟩ <;> omega

/-- The search for a PENDING group finds the listed one of that tag, for a tag has one group (R44). -/
theorem pendingGroup_of_mem {s : State} {g : CommitGroup}
    (htags : (s.commits.map CommitGroup.tag).Nodup) (hg : g ∈ s.commits) (hpending : g.state = .pending) :
    pendingGroup s g.tag = some g := by
  cases hfind : pendingGroup s g.tag with
  | none =>
    have hno := List.find?_eq_none.1 hfind g hg
    simp [hpending] at hno
  | some h =>
    have htag : h.tag = g.tag := by
      have hfound := List.find?_some hfind
      simp only [Bool.and_eq_true, beq_iff_eq] at hfound
      exact hfound.2
    exact congrArg some
      (List.inj_on_of_nodup_map htags (List.mem_of_find?_eq_some hfind) hg htag)

/-- A tag whose groups have all landed has no PENDING group. -/
theorem pendingGroup_eq_none {s : State} {tag : Half}
    (h : ∀ g ∈ s.commits, g.tag = tag → g.state = .landedUnreported) : pendingGroup s tag = none := by
  refine List.find?_eq_none.2 fun g hg hfound => ?_
  obtain ⟨hpending, htag⟩ : g.state = .pending ∧ g.tag = tag := by
    simpa only [Bool.and_eq_true, beq_iff_eq] using hfound
  rw [h g hg htag] at hpending
  cases hpending

/-- Where a tag has one group, to take a listed group off the list is to take its tag off (R44). -/
theorem erase_eq_filter_tag {groups : List CommitGroup} {g : CommitGroup}
    (htags : (groups.map CommitGroup.tag).Nodup) (hg : g ∈ groups) :
    groups.erase g = groups.filter fun h => h.tag != g.tag := by
  rw [(List.Nodup.of_map _ htags).erase_eq_filter]
  refine List.filter_congr fun h hh => ?_
  have htag : h = g ↔ h.tag = g.tag :=
    ⟨congrArg CommitGroup.tag, List.inj_on_of_nodup_map htags hh hg⟩
  rw [Bool.eq_iff_iff, bne_iff_ne, bne_iff_ne, Ne, Ne, htag]

/-- The machine s without the group g and without the copies g would have landed (R54). -/
def discardGroup (s : State) (g : CommitGroup) : State :=
  { s with
    commits := s.commits.filter fun h => h.tag != g.tag
    profiles := Vector.ofFn fun p : Fin 4 =>
      if g.profileSet.getLsbD p.val then { s.profiles[p] with pend := none } else s.profiles[p]
    schedule := { s.schedule with pend := if g.scheduleFlag then none else s.schedule.pend } }

/-- To discard the pending schedule of a group is to clear it when the group carries one (R24, R65). -/
theorem discardSchedule_eq (u : ScheduleUnit) (flag : Bool) :
    (if flag then { u with pend := none } else u) = { u with pend := if flag then none else u.pend } := by
  cases flag <;> rfl

/-- The owner of a WITHDRAW discards the PENDING group of its tag (R54). -/
theorem withdrawOwner_of_pending {r : Record} {s : State} {g : CommitGroup}
    (htags : (s.commits.map CommitGroup.tag).Nodup) (hg : g ∈ s.commits) (hpending : g.state = .pending)
    (htag : g.tag = recordField r 0x08 2) :
    withdrawOwner r s = (discardGroup s g, ⟨.ok, 0, g.landingFrame⟩) := by
  have hfind : pendingGroup s (recordField r 0x08 2) = some g :=
    htag ▸ pendingGroup_of_mem htags hg hpending
  simp only [withdrawOwner, hfind, erase_eq_filter_tag htags hg, discardSchedule_eq]
  rfl

/-- The owner of a WITHDRAW that finds no PENDING group leaves the machine as it is (R54). -/
theorem withdrawOwner_of_none {r : Record} {s : State}
    (h : pendingGroup s (recordField r 0x08 2) = none) :
    withdrawOwner r s = (s, ⟨.notFound, 0, 0⟩) := by
  simp only [withdrawOwner, h]
  rfl

/-- In its turn a WITHDRAW is taken by its owner and answered (R152). -/
theorem exec_withdraw_of_turn {s : State} {r : Record} {rest : List Record}
    (hturn : ImmediateTurn s r rest) (hkind : HasKind r 0x04) :
    exec .withdraw s = .next (answerImmediate r (withdrawOwner r (advanceHead s rest)).1
      (withdrawOwner r (advanceHead s rest)).2) :=
  runImmediate_of_turn withdrawOwner hturn (not_longRecord_of_kind_lt hkind (by decide))
    ((ofKind_eq_true_iff kindWithdraw r).2 hkind)

/-- Settles O31: the search finds the one PENDING group of the tag, or none, and the owner acts on it. -/
theorem withdrawDiscardsAPendingGroup : Obligations.WithdrawDiscardsAPendingGroup := by
  intro s r rest hturn hkind htags tag
  have hrun := exec_withdraw_of_turn hturn hkind
  constructor
  · intro g hg hpending htag
    have howner : withdrawOwner r (advanceHead s rest) =
        (discardGroup (advanceHead s rest) g, ⟨.ok, 0, g.landingFrame⟩) :=
      withdrawOwner_of_pending htags hg hpending htag
    rw [howner] at hrun
    rw [hrun, ← htag]
    rfl
  · intro hlanded
    have howner : withdrawOwner r (advanceHead s rest) = (advanceHead s rest, ⟨.notFound, 0, 0⟩) :=
      withdrawOwner_of_none (pendingGroup_eq_none (s := s) hlanded)
    rw [howner, answerImmediate_advanceHead] at hrun
    exact hrun

end Sys2Proof.Laws
end

/-! ### The checks of a STAGE_SCHEDULE -/

section
namespace Sys2Proof.Laws

open Sys2Proof Sys2Proof.Machine Sys2Proof.Safety

/-- A list of the values of f below k, cut at the value of i. -/
theorem map_range_eq_append_cons {α : Type} (f : Nat → α) {i k : Nat} (h : i < k) :
    ∃ later, (List.range k).map f = (List.range i).map f ++ f i :: later := by
  obtain ⟨m, rfl⟩ := Nat.exists_eq_add_of_lt h
  refine ⟨(List.range m).map fun j => f (i + (j + 1)), ?_⟩
  simp [Nat.add_assoc, List.range_add, List.range_succ_eq_map]

/-- An entry that passes hands the search on to the entry after it (R63, check 2). -/
theorem entryFault_cons_of_entryOk {x : Nat × Nat} (n : Nat) (entries : List (Nat × Nat))
    (h : EntryOk x) : entryFault n (x :: entries) = entryFault (n + 1) entries := by
  obtain ⟨hprofile, hrepeats⟩ := h
  rw [entryFault, if_pos hprofile, if_pos hrepeats]

/-- An entry of no profile is at fault with BAD_FIELD (R63, check 2). -/
theorem entryFault_cons_of_no_profile {x : Nat × Nat} (n : Nat) (entries : List (Nat × Nat))
    (h : 4 ≤ x.1) : entryFault n (x :: entries) = some (.badField, n) := by
  rw [entryFault, if_neg (Nat.not_lt.2 h)]

/-- A profile with a repeat count outside 1 to 255 is at fault with RANGE (R63, check 2). -/
theorem entryFault_cons_of_out_of_range {x : Nat × Nat} (n : Nat) (entries : List (Nat × Nat))
    (hprofile : x.1 < 4) (hx : ¬ EntryOk x) :
    entryFault n (x :: entries) = some (.range, n) := by
  have hrepeats : ¬ (1 ≤ x.2 ∧ x.2 ≤ 255) := fun hr => hx ⟨hprofile, hr⟩
  rw [entryFault, if_pos hprofile, if_neg hrepeats]

/-- Entries that pass are passed over by the search for the first failing entry (R63, check 2). -/
theorem entryFault_append_of_entryOk {passing : List (Nat × Nat)} (entries : List (Nat × Nat))
    (n : Nat) (h : ∀ x ∈ passing, EntryOk x) :
    entryFault n (passing ++ entries) = entryFault (n + passing.length) entries := by
  induction passing generalizing n with
  | nil => rfl
  | cons x passing ih =>
    obtain ⟨hx, hpassing⟩ := List.forall_mem_cons.1 h
    rw [List.cons_append, entryFault_cons_of_entryOk n _ hx, ih (n + 1) hpassing,
      List.length_cons, Nat.add_right_comm, Nat.add_assoc]

/-- An empty schedule, or more entries than a body holds (R63, check 1). -/
theorem scheduleFault_of_bad_count {count : Nat} (entries : List (Nat × Nat))
    (h : count < 1 ∨ 8 < count) : scheduleFault count entries = some (.badField, 255) := by
  have hcount : ¬ (1 ≤ count ∧ count ≤ 8) := by omega
  rw [scheduleFault, if_neg hcount]

/-- A condition on every entry of a body, read off by entry number (TABLE 11-6). -/
theorem forall_mem_scheduleBody {r : Record} {k : Nat} {P : Nat × Nat → Prop} :
    (∀ x ∈ scheduleBody r k, P x) ↔ ∀ j < k, P (scheduleBodyEntry r j) := by
  simp [scheduleBody]

/-- A body whose count and entries pass has no fault (R63). -/
theorem scheduleFault_eq_none {r : Record} {count : Nat} (hcount : 1 ≤ count ∧ count ≤ 8)
    (hpass : ∀ j < count, EntryOk (scheduleBodyEntry r j)) :
    scheduleFault count (scheduleBody r count) = none := by
  have hsearch := entryFault_append_of_entryOk [] 0 (forall_mem_scheduleBody.2 hpass)
  rw [List.append_nil] at hsearch
  rw [scheduleFault, if_pos hcount, hsearch, entryFault]

/-- When the count passes and so do the entries before entry i, the entries from i on decide
(R63, check 2). -/
theorem scheduleFault_eq_entryFault {r : Record} {count i : Nat} (hcount : 1 ≤ count ∧ count ≤ 8)
    (hi : i < count) (hpass : ∀ j < i, EntryOk (scheduleBodyEntry r j)) :
    ∃ later, scheduleFault count (scheduleBody r count) =
      entryFault i (scheduleBodyEntry r i :: later) := by
  obtain ⟨later, hcut⟩ : ∃ later, scheduleBody r count =
      scheduleBody r i ++ scheduleBodyEntry r i :: later :=
    map_range_eq_append_cons (scheduleBodyEntry r) hi
  have hlength : 0 + (scheduleBody r i).length = i := by simp [scheduleBody]
  refine ⟨later, ?_⟩
  rw [scheduleFault, if_pos hcount, hcut,
    entryFault_append_of_entryOk _ 0 (forall_mem_scheduleBody.2 hpass), hlength]

/-! ### The taking of a STAGE_SCHEDULE -/

/-- The owner of a refused STAGE_SCHEDULE leaves the machine as it is and gives the fault as the answer
(R64). -/
theorem stageScheduleOwner_of_fault {r : Record} {status : Status} {detail : Nat} (s : State)
    (h : scheduleFault (recordNat r 0x08 1) (scheduleBody r (recordNat r 0x08 1)) =
      some (status, detail)) :
    stageScheduleOwner r s = (s, answer status detail 0) := by
  simp only [stageScheduleOwner, h]

/-- The owner of a STAGE_SCHEDULE without a fault replaces the staged schedule whole (R64). -/
theorem stageScheduleOwner_of_no_fault {r : Record} (s : State)
    (h : scheduleFault (recordNat r 0x08 1) (scheduleBody r (recordNat r 0x08 1)) = none) :
    stageScheduleOwner r s =
      ({ s with schedule := { s.schedule with
          staged := (scheduleBody r (recordNat r 0x08 1)).map scheduleEntryOf } },
        answer .ok 0 (recordNat r 0x08 1)) := by
  simp only [stageScheduleOwner, h]

/-- In its turn a STAGE_SCHEDULE is taken by its owner and answered (R62, R152). -/
theorem exec_stageSchedule_of_turn {s : State} {r : Record} {rest : List Record}
    (hturn : ImmediateTurn s r rest) (hkind : HasKind r 0x02) :
    exec .stageSchedule s = .next (answerImmediate r (stageScheduleOwner r (advanceHead s rest)).1
      (stageScheduleOwner r (advanceHead s rest)).2) :=
  runImmediate_of_turn stageScheduleOwner hturn (not_longRecord_of_kind_lt hkind (by decide))
    ((ofKind_eq_true_iff kindStageSchedule r).2 hkind)

/-- In its turn a STAGE_SCHEDULE at fault is answered with the fault, and nothing else changes
(R63, R64). -/
theorem exec_stageSchedule_of_fault {s : State} {r : Record} {rest : List Record} {status : Status}
    {detail : Nat} (hturn : ImmediateTurn s r rest) (hkind : HasKind r 0x02)
    (h : scheduleFault (recordNat r 0x08 1) (scheduleBody r (recordNat r 0x08 1)) =
      some (status, detail)) :
    exec .stageSchedule s = .next (answered s r rest ⟨status, BitVec.ofNat 8 detail, 0⟩) := by
  have hrun := exec_stageSchedule_of_turn hturn hkind
  rw [stageScheduleOwner_of_fault _ h, answerImmediate_advanceHead] at hrun
  exact hrun

/-- In its turn a STAGE_SCHEDULE without a fault replaces the staged schedule and is answered OK with its
entry count (R64). -/
theorem exec_stageSchedule_of_no_fault {s : State} {r : Record} {rest : List Record}
    (hturn : ImmediateTurn s r rest) (hkind : HasKind r 0x02)
    (h : scheduleFault (recordNat r 0x08 1) (scheduleBody r (recordNat r 0x08 1)) = none) :
    exec .stageSchedule s = .next (answered { s with schedule := { s.schedule with
      staged := (scheduleBody r (recordNat r 0x08 1)).map scheduleEntryOf } } r rest
      ⟨.ok, 0, BitVec.ofNat 32 (recordNat r 0x08 1)⟩) := by
  have hrun := exec_stageSchedule_of_turn hturn hkind
  rw [stageScheduleOwner_of_no_fault _ h] at hrun
  exact hrun

/-- Settles O27: in each case the fault, or its absence, is computed, and the taking follows from it. -/
theorem stageScheduleReplacesOrRefuses : Obligations.StageScheduleReplacesOrRefuses := by
  intro s r rest i hturn hkind count refused
  refine ⟨fun hcount =>
      exec_stageSchedule_of_fault hturn hkind (scheduleFault_of_bad_count _ hcount),
    fun hlow hhigh hpass => ?_, fun hlow hhigh hi hpass => ?_⟩
  · have htaken := exec_stageSchedule_of_no_fault hturn hkind
      (scheduleFault_eq_none ⟨hlow, hhigh⟩ hpass)
    rw [scheduleBody, List.map_map] at htaken
    exact htaken
  · obtain ⟨later, hfault⟩ := scheduleFault_eq_entryFault ⟨hlow, hhigh⟩ hi hpass
    constructor
    · intro hprofile
      exact exec_stageSchedule_of_fault hturn hkind
        (hfault.trans (entryFault_cons_of_no_profile i later hprofile))
    · intro hprofile hentry
      exact exec_stageSchedule_of_fault hturn hkind
        (hfault.trans (entryFault_cons_of_out_of_range i later hprofile hentry))

end Sys2Proof.Laws
end

/-! ### The trim arithmetic -/

section
namespace Sys2Proof.Laws

open Sys2Proof Sys2Proof.Machine Sys2Proof.Safety

/-! ### Raw codes and the clamp -/

/-- Only the code 0x8000 stands for −32768, and it is taken as −32767 (R86). -/
theorem rawCode_eq (w : Half) : rawCode w = if w = 0x8000#16 then -32767 else w.toInt := by
  have hcode : w.toInt = -32768 ↔ w = 0x8000#16 := by
    rw [← BitVec.toInt_inj]
    exact Iff.rfl
  simp only [rawCode, hcode]

/-- A raw code lies in the range of a sample (R86). -/
theorem rawCode_bounds (w : Half) : -32767 ≤ rawCode w ∧ rawCode w ≤ 32767 := by
  have hlow : -32768 ≤ w.toInt := BitVec.le_toInt w
  have hhigh : w.toInt < 32768 := BitVec.toInt_lt
  unfold rawCode
  split <;> omega

/-- The clamp is to −32767 to 32767 (R97). -/
theorem clampSample_eq_max_min (v : Int) : clampSample v = max (-32767) (min 32767 v) := by
  unfold clampSample
  split
  · omega
  · split <;> omega

/-- The product of a raw code and a 16-bit gain needs no more than 32 bits (R97). -/
theorem product_bounds {raw : Int} {gain : Nat} (hraw : -32767 ≤ raw ∧ raw ≤ 32767)
    (hgain : gain ≤ 65535) : -2147385345 ≤ raw * gain ∧ raw * gain ≤ 2147385345 := by
  have habs : |raw * (gain : Int)| ≤ 32767 * 65535 := by
    rw [abs_mul, Nat.abs_cast]
    exact mul_le_mul (abs_le.2 hraw) (by exact_mod_cast hgain) (Int.natCast_nonneg gain) (by decide)
  exact abs_le.1 habs

/-! ### The corrected value -/

/-- The quotient by 16384 is rounded toward minus infinity, and the clamp comes after the offset (R97). -/
theorem correctSample_of_floor (e : TrimEntry) {raw q : Int} (hlow : 16384 * q ≤ raw * e.gain)
    (hhigh : raw * e.gain < 16384 * (q + 1)) : correctSample e raw = clampSample (q + e.offset) := by
  have hquotient : raw * (e.gain : Int) / 16384 = q := by omega
  rw [correctSample, hquotient]

/-- The entry of gain 1 and offset 0 leaves a raw code as it is (R97). -/
theorem correctSample_of_unity {e : TrimEntry} {raw : Int} (hraw : -32767 ≤ raw ∧ raw ≤ 32767)
    (hgain : e.gain = 16384) (hoffset : e.offset = 0) : correctSample e raw = raw := by
  have hproduct : raw * (e.gain : Int) = raw * 16384 := by simp [hgain]
  rw [correctSample_of_floor (q := raw) e (by omega) (by omega), clampSample_eq_max_min]
  omega

/-- With gain 0 only the offset is left (R97). -/
theorem correctSample_of_gain_zero {e : TrimEntry} (raw : Int) (hgain : e.gain = 0) :
    correctSample e raw = clampSample e.offset := by
  have hproduct : raw * (e.gain : Int) = 0 := by simp [hgain]
  rw [correctSample_of_floor (q := 0) e (by omega) (by omega), Int.zero_add]

/-- No corrected value is the invalid marker (R87, R97). -/
theorem correctSample_ne_marker (e : TrimEntry) (raw : Int) : correctSample e raw ≠ -32768 := by
  rw [correctSample, clampSample_eq_max_min]
  omega

/-! ### The sample of a channel -/

/-- The word of channel c among words 1 to 4 of its port's row packet (R86, TABLE 5-2). -/
def replyWord (c : Fin 16) (w1 w2 w3 w4 : Half) : Half :=
  if c.val % 4 = 0 then w1 else if c.val % 4 = 1 then w2 else if c.val % 4 = 2 then w3 else w4

/-- A test source gives what was fixed at the strobe (R82). -/
theorem sampleOf_of_test {r : IntakeRow} {c : Fin 16} {v : Int} (hfixed : r.fixed[c] = .test v) :
    sampleOf r c = v := by
  simp only [sampleOf, hfixed]

/-- A converter channel of a good port gives its word, corrected when it is trimmed (R86, R97). -/
theorem sampleOf_of_good {r : IntakeRow} {c : Fin 16} {trimmed : Bool} {w1 w2 w3 w4 : Half}
    (hfixed : r.fixed[c] = .converter trimmed)
    (hcondition : r.conditions[portOf c] = .good w1 w2 w3 w4) :
    sampleOf r c = if trimmed then correctSample r.trim[c] (rawCode (replyWord c w1 w2 w3 w4))
      else rawCode (replyWord c w1 w2 w3 w4) := by
  simp only [sampleOf, hfixed, hcondition, replyWord]
  generalize c.val % 4 = position
  match position with
  | 0 | 1 | 2 | _ + 3 => rfl

/-- A converter channel of a port that is BAD or DOWN gives the invalid marker (R86, R87). -/
theorem sampleOf_of_bad_or_down {r : IntakeRow} {c : Fin 16} {trimmed : Bool}
    (hfixed : r.fixed[c] = .converter trimmed)
    (hcondition : r.conditions[portOf c] = .bad ∨ r.conditions[portOf c] = .down) :
    sampleOf r c = marker := by
  rcases hcondition with hcondition | hcondition <;> simp only [sampleOf, hfixed, hcondition]

/-- Settles O48: the sample is fixed by its source and its port's condition, and any q between the
bounds is the quotient of the correction. -/
theorem trimArithmeticClampsAtTheEnd : Obligations.TrimArithmeticClampsAtTheEnd := by
  intro r c w1 w2 w3 w4 trimmed v condition e w raw
  have hraw : rawCode (replyWord c w1 w2 w3 w4) = raw := rawCode_eq w
  have hbounds : -32767 ≤ raw ∧ raw ≤ 32767 := hraw ▸ rawCode_bounds _
  refine ⟨sampleOf_of_test, fun hfixed hcondition => ?untrimmed, fun hfixed hcondition => ?trimmed,
    sampleOf_of_bad_or_down⟩
  case untrimmed => exact (sampleOf_of_good hfixed hcondition).trans hraw
  case trimmed =>
    have hsample : sampleOf r c = correctSample e raw := hraw ▸ sampleOf_of_good hfixed hcondition
    rw [hsample]
    exact ⟨product_bounds hbounds, fun q => correctSample_of_floor e, correctSample_of_unity hbounds,
      fun hgain => (correctSample_of_gain_zero raw hgain).trans (clampSample_eq_max_min e.offset),
      correctSample_ne_marker e raw⟩

end Sys2Proof.Laws
end

/-! ### The coding of samples -/

section
namespace Sys2Proof.Laws

open Sys2Proof Sys2Proof.Machine Sys2Proof.Safety

/-! ### Little-endian bytes and signed codes -/

/-- The least significant byte comes first, and the others code the quotient by 256 (0.7). -/
theorem bytesLE_succ (n value : Nat) :
    bytesLE (n + 1) value = BitVec.ofNat 8 value :: bytesLE n (value / 256) := by
  have hshift (k : Nat) : value / 2 ^ (8 * (k + 1)) = value / 256 / 2 ^ (8 * k) := by
    rw [Nat.div_div_eq_div_mul, Nat.mul_add, Nat.add_comm, Nat.pow_add]
  simp only [bytesLE, List.range_succ_eq_map, List.map_cons, List.map_map, Function.comp_def, hshift,
    Nat.mul_zero, Nat.pow_zero, Nat.div_one]

@[simp] theorem length_bytesLE (n value : Nat) : (bytesLE n value).length = n := by simp [bytesLE]

/-- The bytes of a value read back as the value, taken modulo the width of the field (0.7). -/
theorem littleEndian_bytesLE (n value : Nat) : littleEndian (bytesLE n value) = value % 256 ^ n := by
  induction n generalizing value with
  | zero => exact (Nat.mod_one value).symm
  | succ n ih =>
    rw [bytesLE_succ, littleEndian, ih, BitVec.toNat_ofNat, Nat.pow_succ' (m := 256), Nat.mod_mul]

theorem signedCode_lt (width : Nat) (v : Int) : signedCode width v < 2 ^ width := BitVec.isLt _

/-- The two's complement code of a value that fits its width reads back as the value (0.7). -/
theorem signedValue_signedCode {width : Nat} {v : Int} (hlow : -2 ^ width ≤ 2 * v)
    (hhigh : 2 * v < 2 ^ width) : signedValue width (signedCode width v) = v := by
  rw [signedValue, signedCode, BitVec.ofNat_toNat, BitVec.setWidth_eq, BitVec.toInt_ofInt]
  apply Int.bmod_eq_of_le_mul_two <;> push_cast <;> omega

/-! ### RAW16 -/

/-- The two bytes of a sample's 16-bit code, least significant first (R114). -/
theorem bytesLE_signedCode16 (v : Int) : bytesLE 2 (signedCode 16 v) =
    [(BitVec.ofInt 16 v).extractLsb' 0 8, (BitVec.ofInt 16 v).extractLsb' 8 8] := by
  simp only [BitVec.extractLsb', Nat.shiftRight_eq_div_pow]
  rfl

/-- A RAW16 code reads back as its sample (R114). -/
theorem signedValue_littleEndian_signedCode16 {v : Int} (h : SampleValue v ∨ v = -32768) :
    signedValue 16 (littleEndian (bytesLE 2 (signedCode 16 v))) = v := by
  rw [littleEndian_bytesLE, Nat.mod_eq_of_lt (show _ < 256 ^ 2 from signedCode_lt 16 v)]
  apply signedValue_signedCode <;> omega

/-- Settles O49: the marker's code is its own alone, since every code reads back as its sample. -/
theorem raw16IsTwosComplement : Obligations.Raw16IsTwosComplement := by
  intro preds xs
  refine ⟨?bytes, fun x _ hx => ?readBack⟩
  case bytes =>
    simp only [codeSamples, codeRaw16, List.flatMap_map, bytesLE_signedCode16]
  case readBack =>
    have hcode : codeSamples .raw16 preds [x] = bytesLE 2 (signedCode 16 x.2) := List.append_nil _
    have hread := signedValue_littleEndian_signedCode16 hx
    rw [hcode]
    refine ⟨hread, fun hmarker => ?_, fun hmarker => ?_⟩
    · rw [← hread, hmarker]
      decide
    · rw [hmarker]
      decide

/-! ### PACK12 -/

/-- The 12-bit value of a sample lies in −2048 to 2047 (R115). -/
theorem reduce12_bounds {v : Int} (h : SampleValue v ∨ v = -32768) :
    -2048 ≤ reduce12 v ∧ reduce12 v ≤ 2047 := by
  unfold reduce12 marker
  split <;> omega

/-- Only the marker is reduced to −2048 (R115). -/
theorem reduce12_eq_iff (v : Int) : reduce12 v = -2048 ↔ v = -32768 := by
  unfold reduce12 marker
  split <;> omega

/-- The reduction loses less than 16 (R115). -/
theorem reduce12_near {v : Int} (h : SampleValue v ∨ v = -32768) :
    -16 < 16 * reduce12 v - v ∧ 16 * reduce12 v - v < 16 := by
  unfold reduce12 marker
  split <;> omega

/-- The 12-bit code of a sample reads back as its reduced value (R115). -/
theorem signedValue_signedCode_reduce12 {v : Int} (h : SampleValue v ∨ v = -32768) :
    signedValue 12 (signedCode 12 (reduce12 v)) = reduce12 v := by
  have hbounds := reduce12_bounds h
  apply signedValue_signedCode <;> omega

/-- A reader of PACK12 takes two values from the 24 bits of a pair, the first from the low 12 (R115). -/
theorem readPack12_pair {low high : Nat} (hlow : low < 4096) (hhigh : high < 4096) (n : Nat)
    (rest : List Byte) : readPack12 (n + 2) (bytesLE 3 (low + 4096 * high) ++ rest) =
      signedValue 12 low :: signedValue 12 high :: readPack12 n rest := by
  have hread : littleEndian (bytesLE 3 (low + 4096 * high)) = low + 4096 * high := by
    rw [littleEndian_bytesLE]
    omega
  have hfirst : (low + 4096 * high) % 4096 = low := by omega
  have hsecond : (low + 4096 * high) / 4096 = high := by omega
  calc readPack12 (n + 2) (bytesLE 3 (low + 4096 * high) ++ rest)
    _ = signedValue 12 (littleEndian (bytesLE 3 (low + 4096 * high)) % 4096) ::
        signedValue 12 (littleEndian (bytesLE 3 (low + 4096 * high)) / 4096) ::
        readPack12 n rest := rfl
    _ = _ := by rw [hread, hfirst, hsecond]

/-- A reader of PACK12 takes an odd last value from two bytes (R115). -/
theorem readPack12_last {value : Nat} (h : value < 4096) :
    readPack12 1 (bytesLE 2 value) = [signedValue 12 value] := by
  have hread : littleEndian (bytesLE 2 value) % 4096 = value := by
    rw [littleEndian_bytesLE]
    omega
  calc readPack12 1 (bytesLE 2 value)
    _ = [signedValue 12 (littleEndian (bytesLE 2 value) % 4096)] := rfl
    _ = _ := by rw [hread]

/-- A PACK12 row reads back as the reduced values of its samples (R115). -/
theorem readPack12_codePack12 (xs : List Int) (h : ∀ v ∈ xs, SampleValue v ∨ v = -32768) :
    readPack12 xs.length (codePack12 xs) = xs.map reduce12 := by
  induction xs using codePack12.induct with
  | case1 => rfl
  | case2 a =>
    rw [codePack12, List.length_singleton, readPack12_last (signedCode_lt 12 _),
      signedValue_signedCode_reduce12 (h a (by simp)), List.map_singleton]
  | case3 a b rest ih =>
    rw [codePack12, List.length_cons, List.length_cons,
      readPack12_pair (signedCode_lt 12 _) (signedCode_lt 12 _),
      signedValue_signedCode_reduce12 (h a (by simp)), signedValue_signedCode_reduce12 (h b (by simp)),
      ih fun v hv => h v (by simp [hv]), List.map_cons, List.map_cons]

/-- Pairs take 3 bytes, and an odd last sample 2 (R115). -/
theorem length_codePack12 (xs : List Int) :
    (codePack12 xs).length = 3 * (xs.length / 2) + 2 * (xs.length % 2) := by
  induction xs using codePack12.induct with
  | case1 => rfl
  | case2 a => simp [codePack12]
  | case3 a b rest ih =>
    rw [codePack12, List.length_append, length_bytesLE, ih, List.length_cons, List.length_cons]
    omega

/-- A PACK12 row of an odd number of samples ends with one 12-bit code in two bytes (R115). -/
theorem codePack12_eq_append_of_odd (xs : List Int) (hodd : xs.length % 2 = 1) :
    ∃ front v, codePack12 xs = front ++ bytesLE 2 (signedCode 12 v) := by
  induction xs using codePack12.induct with
  | case1 => exact absurd hodd (by decide)
  | case2 a => exact ⟨[], reduce12 a, rfl⟩
  | case3 a b rest ih =>
    rw [List.length_cons, List.length_cons, Nat.add_assoc, Nat.add_mod_right] at hodd
    obtain ⟨front, v, hrest⟩ := ih hodd
    exact ⟨_ ++ front, v, by rw [codePack12, hrest, List.append_assoc]⟩

/-- The last of the two bytes of a 12-bit code has zeros in its high 4 bits (R115). -/
theorem getLast?_codePack12_lt {xs : List Int} (hodd : xs.length % 2 = 1) :
    ∀ b ∈ (codePack12 xs).getLast?, b.toNat < 16 := by
  intro b hb
  obtain ⟨front, v, hrow⟩ := codePack12_eq_append_of_odd xs hodd
  have hcode := signedCode_lt 12 v
  have hlast : BitVec.ofNat 8 (signedCode 12 v / 256) = b := by
    rw [hrow, bytesLE_succ, bytesLE_succ] at hb
    simpa [bytesLE] using hb
  rw [← hlast, BitVec.toNat_ofNat]
  omega

/-- Settles O50: the reduction of the statement is `reduce12`, by which the row reads back. -/
theorem pack12ReadsBack : Obligations.Pack12ReadsBack := by
  intro xs hxs t
  have ht : t = reduce12 := by
    funext v
    exact if_congr Iff.rfl rfl (max_comm _ _)
  rw [ht]
  exact ⟨length_codePack12 xs, readPack12_codePack12 xs hxs, getLast?_codePack12_lt,
    fun v hv => ⟨reduce12_eq_iff v, reduce12_near (hxs v hv)⟩⟩

end Sys2Proof.Laws
end

/-! ### Steps and resets -/

section
set_option Elab.async false
namespace Sys2Proof.Laws

open Sys2Proof Sys2Proof.Machine Sys2Proof.Safety

/-- Settles O1: a step looks at the queue's front only. -/
theorem stepTakesTheFrontCommand : Obligations.StepTakesTheFrontCommand := fun _ _ => rfl

/-- Settles O3: the reset tables are those of one state. -/
theorem resetTablesHold : Obligations.ResetTablesHold := by
  unfold Obligations.ResetTablesHold
  decide +kernel

/-- Settles O4: the meaning of the command is this state. -/
theorem powerOnResetGivesTheResetState : Obligations.PowerOnResetGivesTheResetState := fun _ _ => rfl

/-- Settles O53: the reset state is one state, in which every list is empty. -/
theorem resetMeetsTheInvariant : Obligations.ResetMeetsTheInvariant := by
  refine ⟨?capacity, ⟨?copies, ?slots, ?bound⟩, ?stream, ?commit, ?schedule, ?port, ?source,
    ⟨?distinct, ?turns, ?shape, fun _ => ⟨?setUp, ?setUpSlot, ?opened, ?openFrame⟩, ?row, ?rowHalted⟩, ?payload,
    ?trim, ?entries, ⟨fun h => absurd h (by decide), fun _ => ?held, ?setupRead⟩, ?cause, ?notice⟩
  all_goals decide +kernel

theorem exec_write_control (s : State) (v : Word) :
    exec (.registerWrite 0x08 4 v) s = .next (writeControl s v) := rfl

/-- Bit 1 of CONTROL goes first (R176). -/
theorem writeControl_of_reset (s : State) {v : Word} (h : v.getLsbD 1 = true) :
    writeControl s v = functionReset s := by
  rw [writeControl, if_pos h]

/-- Bit 0 of CONTROL acts with bit 1 clear (R176). -/
theorem writeControl_of_enable (s : State) {v : Word} (hreset : v.getLsbD 1 = false) (h : v.getLsbD 0 = true) :
    writeControl s v = enableAction s := by
  rw [writeControl, if_neg (Bool.eq_false_iff.1 hreset), if_pos h]

/-- A write of CONTROL with bits 1 and 0 clear does nothing (R176). -/
theorem writeControl_of_clear (s : State) {v : Word} (hreset : v.getLsbD 1 = false) (h : v.getLsbD 0 = false) :
    writeControl s v = s := by
  rw [writeControl, if_neg (Bool.eq_false_iff.1 hreset), if_neg (Bool.eq_false_iff.1 h)]

/-- A port after a function reset: the record of the reset, but for the state of a port that does not align
(TABLE 5-7). -/
theorem resetPort_portAfterReset (p : Fin 4) (state : PortState) :
    resetPort (portAfterReset state) =
      { State.reset.ports[p] with
        state := if state = .aligning then .off else state
        lastReported := if state = .aligning then .off else state } := by
  have hp : State.reset.ports[p] = resetPort .off := by simp [State.reset]
  rw [hp]
  cases state <;> rfl

/-- Settles O5: both spellings are the function reset, and each block is read off it. -/
theorem functionResetKeepsWhatTheTablesKeep : Obligations.FunctionResetKeepsWhatTheTablesKeep := by
  intro s v hv
  have hwrite : exec (.registerWrite 0x08 4 v) s = .next (functionReset s) := by
    rw [exec_write_control, writeControl_of_reset s hv]
  refine ⟨functionReset s, rfl, hwrite, rfl, rfl, fun p => ?_, rfl, rfl⟩
  simpa [functionReset] using resetPort_portAfterReset p s.ports[p].state

end Sys2Proof.Laws
end

/-! ### The register window -/

section
set_option Elab.async false
namespace Sys2Proof.Laws

open Sys2Proof Sys2Proof.Machine Sys2Proof.Safety

/-- The device state codes of STATUS (11.1). -/
theorem code_eq_deviceCode (d : DeviceState) : d.code = deviceCode d := by cases d <;> rfl

/-- The cause codes of STATUS (TABLE 11-14). -/
theorem code_eq_causeCode (c : Cause) : c.code = causeCode c := by cases c <;> rfl

theorem deviceCode_lt (d : DeviceState) : d.code < 8 := by cases d <;> decide

theorem causeCode_lt (c : Cause) : c.code < 16 := by cases c <;> decide

/-- The fields of STATUS do not overlap, so its word is their sum (TABLE 11-1). -/
theorem toNat_statusValue (s : State) : (statusValue s).toNat =
    s.window.device.code + s.window.cause.code * 2 ^ 8 + s.window.detail.toNat * 2 ^ 16 +
      (fitted s - 1) * 2 ^ 24 := by
  have hdevice := deviceCode_lt s.window.device
  have hcause := causeCode_lt s.window.cause
  have hdetail : s.window.detail.toNat < 16 := s.window.detail.isLt
  have hstraps : s.window.straps.toNat < 4 := s.window.straps.isLt
  rw [statusValue, BitVec.toNat_ofNat, fitted, Nat.add_sub_cancel]
  omega

/-- IDENT is the part number, the family code and the revision (TABLE 11-1). -/
theorem toNat_identValue : identValue.toNat = 0x6410 * 2 ^ 16 + 0x0A * 2 ^ 8 + Config.revision.toNat := by
  have hrevision : Config.revision.toNat < 256 := Config.revision.isLt
  simp only [identValue, BitVec.toNat_append]
  rw [Nat.shiftLeft_eq, Nat.shiftLeft_eq, Nat.mul_comm, ← Nat.two_pow_add_eq_or_of_lt hrevision]
  rw [show ((0x6410#16).toNat * 2 ^ 8 ||| (0x0A#8).toNat) = 0x64100A by decide]
  omega

/-- Elsewhere in the window a read gives 0 (R176). -/
theorem readRegister_elsewhere {s : State} {offset size : Nat}
    (h : size ≠ 4 ∨ offset ∉ [0x00, 0x04, 0x0C, 0x10, 0x14, 0x18, 0x1C]) : readRegister s offset size = 0 := by
  unfold readRegister
  split
  · rfl
  · rename_i hsize
    have hoffset := h.resolve_left hsize
    split <;> first | rfl | exact absurd (by decide) hoffset

/-- Elsewhere in the window a write does nothing (R176). -/
theorem exec_registerWrite_elsewhere {s : State} {offset size : Nat} {v : Word}
    (h : size ≠ 4 ∨ offset ∉ [0x08, 0x0C, 0x10, 0x14, 0x18, 0x1C]) :
    exec (.registerWrite offset size v) s = .next s := by
  dsimp only [exec]
  unfold execRegisterWrite
  split
  · rfl
  · rename_i hsize
    have hoffset := h.resolve_left hsize
    split <;> first | rfl | exact absurd (by decide) hoffset

/-- Settles O6: one line of TABLE 11-1 after another. -/
theorem registerWindowActsAsItsTableSays : Obligations.RegisterWindowActsAsItsTableSays := by
  intro s offset size v
  refine ⟨toNat_identValue, ?status, rfl, rfl, rfl, rfl, rfl, readRegister_elsewhere, ?lo, ?hi, ?rq, ?bf, ?cp,
    ?control, exec_registerWrite_elsewhere⟩
  case status =>
    rw [← code_eq_deviceCode, ← code_eq_causeCode]
    exact toNat_statusValue s
  case lo => rintro rfl rfl; rfl
  case hi => rintro rfl rfl; rfl
  case rq => rintro rfl rfl; rfl
  case bf => rintro rfl rfl; rfl
  case cp => rintro rfl rfl; rfl
  case control =>
    rintro rfl rfl hreset henable
    rw [exec_write_control, writeControl_of_clear s hreset henable]

/-- The setup block's address is SETUP_HI above SETUP_LO (R178). -/
theorem toNat_setupAddress (w : RegisterWindow) :
    (setupAddress w).toNat = w.setupHi.toNat * 2 ^ 32 + w.setupLo.toNat := by
  rw [setupAddress, BitVec.toNat_append, Nat.shiftLeft_eq, Nat.mul_comm,
    ← Nat.two_pow_add_eq_or_of_lt w.setupLo.isLt]

theorem setupAddress_eq (w : RegisterWindow) :
    setupAddress w = BitVec.ofNat 64 (w.setupHi.toNat * 2 ^ 32 + w.setupLo.toNat) := by
  rw [← toNat_setupAddress, BitVec.ofNat_toNat, BitVec.setWidth_eq]

/-- Settles O7: the action is judged by the device state and the address. -/
theorem enableActionReadsTheSetupBlock : Obligations.EnableActionReadsTheSetupBlock := by
  intro s v hreset henable address
  refine ⟨?write, fun hdevice haligned => ?_, fun hdevice haligned => ?_, fun hdevice => ?_⟩
  case write => rw [exec_write_control, writeControl_of_enable s hreset henable]; rfl
  all_goals
    simp only [exec, execEnable, enableAction, hdevice, if_true, if_false, toNat_setupAddress]
  · rw [if_pos haligned, setupAddress_eq]
    rfl
  · rw [if_neg haligned]
    rfl

end Sys2Proof.Laws
end

/-! ### Reads and writes that fail -/

section
set_option Elab.async false
namespace Sys2Proof.Laws

open Sys2Proof Sys2Proof.Machine Sys2Proof.Safety

theorem respIsError_iff (x : Resp) : respIsError x = true ↔ x = .slverr ∨ x = .decerr := by
  cases x <;> decide

theorem readFailed_iff {n : Nat} (a : ReadAnswer n) : readFailed a = true ↔ ReadFails a := by
  simp only [readFailed, List.any_eq_true, respIsError_iff]

theorem writeFailed_iff (a : WriteAnswer) : writeFailed a = true ↔ WriteFails a := respIsError_iff a.resp

theorem readFailed_eq_false_iff {n : Nat} (a : ReadAnswer n) : readFailed a = false ↔ ¬ ReadFails a := by
  rw [← readFailed_iff, Bool.not_eq_true]

theorem writeFailed_eq_false_iff (a : WriteAnswer) : writeFailed a = false ↔ ¬ WriteFails a := by
  rw [← writeFailed_iff, Bool.not_eq_true]

/-- A read is good when every beat reports OKAY or EXOKAY (0.7). -/
theorem not_readFails_iff {n : Nat} (a : ReadAnswer n) :
    ¬ ReadFails a ↔ ∀ x ∈ a.beats, x = .okay ∨ x = .exokay := by
  have hbeat (x : Resp) : ¬ (x = .slverr ∨ x = .decerr) ↔ x = .okay ∨ x = .exokay := by cases x <;> decide
  rw [ReadFails]
  push Not
  simp only [← not_or, hbeat]

theorem isEnabled_of {s : State} (h : s.window.device = .enabled) : isEnabled s = true := by
  rw [isEnabled, h]; rfl

theorem isEnabled_of_not {s : State} (h : s.window.device ≠ .enabled) : isEnabled s = false := by
  simpa [isEnabled] using h

theorem isEnabled_iff (s : State) : isEnabled s = true ↔ s.window.device = .enabled := beq_iff_eq

/-! ### Failed accesses -/

/-- A failed record fetch halts the device (R150). -/
theorem exec_requestFetchDone_of_failed {s : State} {a : ReadAnswer 512} (he : s.window.device = .enabled)
    (ht : a.tracked = true) (hf : ReadFails a) (hfetch : s.requests.fetch ≠ none) :
    exec (.requestFetchDone a) s = .next (haltedAt { s with requests := { s.requests with fetch := none } }
      .requestReadError 0) := by
  obtain ⟨address, hfetch⟩ := Option.ne_none_iff_exists'.1 hfetch
  simp only [exec, execRequestFetchDone, isEnabled_of he, ht, hfetch, Bool.and_self, (readFailed_iff a).2 hf, if_true,
    enterHalted_eq_haltedAt]

/-- A failed descriptor fetch halts the device (R132). -/
theorem exec_descriptorFetchDone_of_failed {s : State} {a : ReadAnswer 128} (he : s.window.device = .enabled)
    (ht : a.tracked = true) (hf : ReadFails a) (hfetch : s.buffers.fetch ≠ none) :
    exec (.descriptorFetchDone a) s = .next (haltedAt { s with buffers := { s.buffers with fetch := none } }
      .bufferReadError 0) := by
  obtain ⟨f, hfetch⟩ := Option.ne_none_iff_exists'.1 hfetch
  simp only [exec, execDescriptorFetchDone, isEnabled_of he, ht, hfetch, Bool.and_self, (readFailed_iff a).2 hf,
    if_true, enterHalted_eq_haltedAt]

/-- A failed completion ring write halts the device (R167). -/
theorem exec_completionWriteDone_of_failed {s : State} {a : WriteAnswer} (he : s.window.device = .enabled)
    (ht : a.tracked = true) (hf : WriteFails a) (hwrite : s.completions.write ≠ none) :
    exec (.completionWriteDone a) s =
      .next (haltedAt { s with completions := { s.completions with write := none } } .completionWriteError 0) := by
  obtain ⟨w, hwrite⟩ := Option.ne_none_iff_exists'.1 hwrite
  simp only [exec, execCompletionWriteDone, isEnabled_of he, ht, hwrite, Bool.and_self, (writeFailed_iff a).2 hf,
    if_true, enterHalted_eq_haltedAt]

/-- Settles O24: the three accesses that may halt the device. -/
theorem failedAccessesHaltTheDevice : Obligations.FailedAccessesHaltTheDevice :=
  fun _ _ _ _ he => ⟨exec_requestFetchDone_of_failed he, exec_descriptorFetchDone_of_failed he,
    exec_completionWriteDone_of_failed he⟩

/-! ### Record fetches -/

/-- There is a distance left exactly when the difference modulo the ring size is not 0 (0.7). -/
theorem ringDist_pos_iff {n : Nat} (a b : Nat) (h : 0 < n) : 0 < ringDist n a b ↔ modDiff n a b ≠ 0 := by
  rw [← ringDist_eq_modDiff a b h]
  omega

theorem requestFetchDue_iff {s : State} (h : 0 < requestSize s) : requestFetchDue s = true ↔
    s.window.device = .enabled ∧ s.requests.fetch = none ∧ s.requests.intake.length < 4 ∧
      modDiff (requestSize s) s.window.rqTail.toNat s.requests.fetchIndex ≠ 0 := by
  simp only [requestFetchDue, Bool.and_eq_true, isEnabled_iff, Option.isNone_iff_eq_none, decide_eq_true_eq,
    ringDist_pos_iff _ _ h, and_assoc]

/-- Settles O22: the issue by its condition, the answer by the three things that it is judged on. -/
theorem requestFetchAdvances : Obligations.RequestFetchAdvances := by
  intro s a n due
  refine ⟨fun hn hdue => ?issued, fun hn hdue => ?none, fun he hfetch ht hf => ?joins, fun h => ?discarded⟩
  case issued =>
    simp only [exec, execRequestFetchIssue, (requestFetchDue_iff hn).2 hdue, if_true]
    rfl
  case none =>
    simp only [exec, execRequestFetchIssue, if_neg (mt (requestFetchDue_iff hn).1 hdue)]
  case joins =>
    obtain ⟨address, hfetch⟩ := Option.ne_none_iff_exists'.1 hfetch
    simp [exec, execRequestFetchDone, isEnabled_of he, ht, hfetch, (readFailed_eq_false_iff a).2 hf]
  case discarded =>
    dsimp only [exec]
    unfold execRequestFetchDone
    rcases h with he | ht | hfetch
    · simp [isEnabled_of_not he]
    · simp [ht]
    · simp [hfetch]

/-! ### Bad records -/

theorem kindKnown_iff (r : Record) :
    kindKnown (requestKind r) = true ↔ 1 ≤ recordNat r 0x00 1 ∧ recordNat r 0x00 1 ≤ 12 := decide_eq_true_iff

theorem requestFlags_iff (r : Record) : (requestFlags r != 0) = true ↔ recordNat r 0x01 1 ≠ 0 := by
  rw [bne_iff_ne, Ne, ← BitVec.toNat_inj]
  rfl

/-- A record of unknown kind or with flags is of no long request (R151). -/
theorem not_longRecord_of_bad {s : State} {r : Record}
    (h : ¬ (1 ≤ recordNat r 0x00 1 ∧ recordNat r 0x00 1 ≤ 12) ∨ recordNat r 0x01 1 ≠ 0) : ¬ LongRecord s r := by
  rintro ⟨hflags, hkind⟩
  rcases hkind with ⟨hlow, hhigh⟩ | ⟨hstop, -⟩ <;> rcases h with h | h <;> omega

/-- With a record at the intake's head that fails the test an immediate taking does nothing (log 3). -/
theorem runImmediate_of_not_test {s : State} {r : Record} {rest : List Record} {test : Record → Bool}
    (owner : Record → State → State × Answer) (h : s.requests.intake = r :: rest) (htest : test r = false) :
    runImmediate s test owner = .next s := by
  simp [runImmediate, takeImmediate, h, htest]

/-- Settles O23: the record passes the test of one of the two commands, or of neither. -/
theorem badRecordsAreAnswered : Obligations.BadRecordsAreAnswered := by
  intro s r rest hturn kind flags known
  refine ⟨fun hkind => ?_, fun hkind hflags => ?_, fun hkind hflags => ⟨?_, ?_⟩⟩
  · have htest : (!kindKnown (requestKind r)) = true := by simpa using mt (kindKnown_iff r).1 hkind
    exact runImmediate_of_turn _ hturn (not_longRecord_of_bad (.inl hkind)) htest
  · have htest : (kindKnown (requestKind r) && requestFlags r != 0) = true := by
      rw [Bool.and_eq_true, kindKnown_iff, requestFlags_iff]
      exact ⟨hkind, hflags⟩
    exact runImmediate_of_turn _ hturn (not_longRecord_of_bad (.inr hflags)) htest
  · exact runImmediate_of_not_test _ hturn.2.2.2 (by simpa using (kindKnown_iff r).2 hkind)
  · have hzero : (requestFlags r != 0) = false := Bool.eq_false_iff.2 fun h => (requestFlags_iff r).1 h hflags
    exact runImmediate_of_not_test _ hturn.2.2.2 (by rw [hzero, Bool.and_false])

end Sys2Proof.Laws
end

/-! ### The setup block -/

section
set_option Elab.async false
namespace Sys2Proof.Laws

open Sys2Proof Sys2Proof.Machine Sys2Proof.Safety

/-- The sizes of the setup check are the powers of two from 16 to 4096 (R178). -/
theorem ringSizeValid_iff (n : Nat) : ringSizeValid n = true ↔ RingSize n := by
  have hsizes : [16, 32, 64, 128, 256, 512, 1024, 2048, 4096] = (List.finRange 9).map fun k => 16 * 2 ^ k.val := by
    decide
  rw [ringSizeValid, hsizes, List.contains_iff_mem, List.mem_map]
  simp only [List.mem_finRange, true_and, RingSize, eq_comm]

theorem sizesFail_iff (b : Setup) :
    (!(ringSizeValid b.request.size && ringSizeValid b.buffer.size && ringSizeValid b.completion.size)) = true ↔
      ¬ SizesValid b := by
  rw [Bool.not_eq_true', ← Bool.not_eq_true, Bool.and_eq_true, Bool.and_eq_true, ringSizeValid_iff,
    ringSizeValid_iff, ringSizeValid_iff, and_assoc]

theorem extentsDisjoint_iff (b1 e1 b2 e2 : Nat) : extentsDisjoint b1 e1 b2 e2 = true ↔ e1 ≤ b2 ∨ e2 ≤ b1 :=
  decide_eq_true_iff

theorem extentsFail_iff (b : Setup) :
    (!(extentsDisjoint b.request.base.toNat (ringEnd b.request 64) b.buffer.base.toNat (ringEnd b.buffer 16) &&
      extentsDisjoint b.request.base.toNat (ringEnd b.request 64) b.completion.base.toNat
        (ringEnd b.completion 32) &&
      extentsDisjoint b.buffer.base.toNat (ringEnd b.buffer 16) b.completion.base.toNat
        (ringEnd b.completion 32))) = true ↔ ¬ ExtentsDisjoint b := by
  rw [Bool.not_eq_true', ← Bool.not_eq_true, Bool.and_eq_true, Bool.and_eq_true, extentsDisjoint_iff,
    extentsDisjoint_iff, extentsDisjoint_iff, and_assoc]
  simp only [ringEnd, Nat.mul_comm _ 64, Nat.mul_comm _ 16, Nat.mul_comm _ 32]

/-- The setup fault is the first check of R178 that fails. -/
theorem setupFault_eq (b : Setup) : setupFault b =
    if ¬ SizesValid b then some 2 else if ¬ BasesAligned b then some 3 else if ¬ ExtentsFit b then some 4
    else if ¬ ExtentsDisjoint b then some 5 else if ¬ ThresholdFits b then some 6 else none := by
  refine if_congr (sizesFail_iff b) rfl (if_congr ?bases rfl (if_congr ?extents rfl (if_congr (extentsFail_iff b) rfl
    (if_congr ?threshold rfl rfl))))
  case bases => rw [BasesAligned, not_and_or, not_and_or]
  case extents =>
    simp only [ExtentsFit, ringEnd, not_and_or, Nat.not_le, Nat.mul_comm]
  case threshold => exact Nat.not_lt.symm

/-- A failed read brings the device back into DISABLED (R178). -/
theorem exec_setupBlockReadDone_of_failed {s : State} {a : ReadAnswer 512} (ht : a.tracked = true)
    (hdevice : s.window.device = .setup) (hread : s.window.setupRead ≠ none) (hfails : ReadFails a) :
    exec (.setupBlockReadDone a) s = .next { s with window := setupFailed s.window .setupReadError 0 } := by
  obtain ⟨address, hread⟩ := Option.ne_none_iff_exists'.1 hread
  simp [exec, execSetupBlockReadDone, ht, hdevice, hread, (readFailed_iff a).2 hfails]

/-- A block without a fault brings the device into ENABLED (R177). -/
theorem exec_setupBlockReadDone_of_no_fault {s : State} {a : ReadAnswer 512} (ht : a.tracked = true)
    (hdevice : s.window.device = .setup) (hread : s.window.setupRead ≠ none) (hgood : ¬ ReadFails a)
    (hfault : setupFault (setupOf a.data) = none) :
    exec (.setupBlockReadDone a) s = .next (enterEnabled s (setupOf a.data)) := by
  obtain ⟨address, hread⟩ := Option.ne_none_iff_exists'.1 hread
  simp [exec, execSetupBlockReadDone, ht, hdevice, hread, (readFailed_eq_false_iff a).2 hgood, hfault]

/-- A block with a fault brings the device back into DISABLED (R178). -/
theorem exec_setupBlockReadDone_of_fault {s : State} {a : ReadAnswer 512} {detail : BitVec 4} (ht : a.tracked = true)
    (hdevice : s.window.device = .setup) (hread : s.window.setupRead ≠ none) (hgood : ¬ ReadFails a)
    (hfault : setupFault (setupOf a.data) = some detail) :
    exec (.setupBlockReadDone a) s = .next { s with window := setupFailed s.window .setupInvalid detail } := by
  obtain ⟨address, hread⟩ := Option.ne_none_iff_exists'.1 hread
  simp [exec, execSetupBlockReadDone, ht, hdevice, hread, (readFailed_eq_false_iff a).2 hgood, hfault]

/-- Settles O8: a block that passes every check has no fault. -/
theorem validSetupBlockEnables : Obligations.ValidSetupBlockEnables := by
  intro s a address hdevice hread ht hgood b hsizes hbases hextents hdisjoint hthreshold
  refine exec_setupBlockReadDone_of_no_fault ht hdevice (by simp [hread]) ((not_readFails_iff a).2 hgood) ?_
  rw [setupFault_eq, if_neg (not_not.2 hsizes), if_neg (not_not.2 hbases), if_neg (not_not.2 hextents),
    if_neg (not_not.2 hdisjoint), if_neg (not_not.2 hthreshold)]

/-- Settles O9: the first failing check is the fault. -/
theorem invalidSetupBlockIsRefusedInOrder : Obligations.InvalidSetupBlockIsRefusedInOrder := by
  intro s a b failed good
  refine ⟨fun h => ?discarded, fun ht hdevice hread => ?awaited⟩
  case discarded =>
    dsimp only [exec]
    unfold execSetupBlockReadDone
    rcases h with h | h <;> simp [h]
  case awaited =>
    have hgood : good → ¬ ReadFails a := (not_readFails_iff a).2
    have hrefused {detail : BitVec 4} (hg : good) (hfault : setupFault b = some detail) :
        exec (.setupBlockReadDone a) s = .next (failed .setupInvalid detail) :=
      exec_setupBlockReadDone_of_fault ht hdevice hread (hgood hg) hfault
    refine ⟨fun hbad => ?_, fun hg h1 => hrefused hg ?_, fun hg h1 h2 => hrefused hg ?_,
      fun hg h1 h2 h3 => hrefused hg ?_, fun hg h1 h2 h3 h4 => hrefused hg ?_,
      fun hg h1 h2 h3 h4 h5 => hrefused hg ?_⟩
    · exact exec_setupBlockReadDone_of_failed ht hdevice hread (not_not.1 (mt (not_readFails_iff a).1 hbad))
    · rw [setupFault_eq, if_pos h1]
    · rw [setupFault_eq, if_neg (not_not.2 h1), if_pos h2]
    · rw [setupFault_eq, if_neg (not_not.2 h1), if_neg (not_not.2 h2), if_pos h3]
    · rw [setupFault_eq, if_neg (not_not.2 h1), if_neg (not_not.2 h2), if_neg (not_not.2 h3), if_pos h4]
    · rw [setupFault_eq, if_neg (not_not.2 h1), if_neg (not_not.2 h2), if_neg (not_not.2 h3),
        if_neg (not_not.2 h4), if_pos h5]

end Sys2Proof.Laws
end

/-! ### The index registers -/

section
set_option Elab.async false
namespace Sys2Proof.Laws

open Sys2Proof Sys2Proof.Machine Sys2Proof.Safety

/-- Distances compare as the differences modulo the ring size do (0.7). -/
theorem ringDist_lt_iff {n : Nat} (a b c d : Nat) (h : 0 < n) :
    ringDist n a b < ringDist n c d ↔ modDiff n a b < modDiff n c d := by
  rw [← ringDist_eq_modDiff a b h, ← ringDist_eq_modDiff c d h, Int.ofNat_lt]

theorem rqTailFault_iff {s : State} (v : Nat) (h : 0 < requestSize s) : rqTailFault s v = true ↔
    requestSize s ≤ v ∨ modDiff (requestSize s) v s.requests.head <
      modDiff (requestSize s) s.requests.fetchIndex s.requests.head := by
  simp only [rqTailFault, Bool.or_eq_true, decide_eq_true_eq, ringDist_lt_iff _ _ _ _ h]

/-- Settles O11: the fault test is that of R180. -/
theorem requestTailWriteIsJudged : Obligations.RequestTailWriteIsJudged := by
  intro s v n head fault
  refine ⟨fun he => ?_, fun he hn hfault => ?_, fun he hn hfault => ?_⟩
  · simp [exec, execRqTailWrite, writeRqTail, isEnabled_of_not he]
  · simp [exec, execRqTailWrite, writeRqTail, isEnabled_of he, (rqTailFault_iff v.toNat hn).2 hfault,
      enterHalted_eq_haltedAt]
  · simp [exec, execRqTailWrite, writeRqTail, isEnabled_of he,
      Bool.eq_false_iff.2 (mt (rqTailFault_iff v.toNat hn).1 hfault)]

/-- The index before the head is the one that the head follows (0.7). -/
theorem eq_ringPrev_iff {n v head : Nat} (hhead : head < n) (hv : v < n) :
    v = ringPrev n head ↔ (v + 1) % n = head := by
  unfold ringPrev
  rcases Nat.lt_or_ge (v + 1) n with h | h
  · rw [Nat.mod_eq_of_lt h]
    split <;> omega
  · obtain rfl : n = v + 1 := by omega
    rw [Nat.mod_self]
    split <;> omega

theorem bfTailFault_iff {s : State} (v : Nat) (h : s.buffers.ringHead < bufferSize s) : bfTailFault s v = true ↔
    bufferSize s ≤ v ∨ (s.buffers.fetch ≠ none ∧ (v + 1) % bufferSize s = s.buffers.ringHead) ∨
      ∃ r ∈ s.buffers.reclaim, modDiff (bufferSize s) v s.buffers.ringHead <
        modDiff (bufferSize s) r.target s.buffers.ringHead := by
  have hn : 0 < bufferSize s := by omega
  have hreclaim : (match s.buffers.reclaim with
      | some r => decide (ringDist (bufferSize s) v s.buffers.ringHead <
          ringDist (bufferSize s) r.target s.buffers.ringHead)
      | none => false) = true ↔ ∃ r ∈ s.buffers.reclaim, modDiff (bufferSize s) v s.buffers.ringHead <
        modDiff (bufferSize s) r.target s.buffers.ringHead := by
    cases s.buffers.reclaim <;> simp [ringDist_lt_iff _ _ _ _ hn]
  rcases Nat.lt_or_ge v (bufferSize s) with hv | hv
  · simp only [bfTailFault, Bool.or_eq_true, decide_eq_true_eq, Bool.and_eq_true, beq_iff_eq,
      Option.isSome_iff_ne_none, eq_ringPrev_iff h hv, or_assoc]
    exact or_congr_right (or_congr_right hreclaim)
  · simp [bfTailFault, hv]

/-- Settles O12: the fault test is that of R180. -/
theorem bufferTailWriteIsJudged : Obligations.BufferTailWriteIsJudged := by
  intro s v n head fault
  refine ⟨fun he => ?_, fun he hn hfault => ?_, fun he hn hfault => ?_⟩
  · simp [exec, execBfTailWrite, writeBfTail, isEnabled_of_not he]
  · simp [exec, execBfTailWrite, writeBfTail, isEnabled_of he, (bfTailFault_iff v.toNat hn).2 hfault,
      enterHalted_eq_haltedAt]
  · simp [exec, execBfTailWrite, writeBfTail, isEnabled_of he,
      Bool.eq_false_iff.2 (mt (bfTailFault_iff v.toNat hn).1 hfault)]

theorem cpHeadFault_iff {s : State} (v : Nat) (h : 0 < completionSize s) : cpHeadFault s v = true ↔
    completionSize s ≤ v ∨ modDiff (completionSize s) s.completions.tail s.window.cpHead.toNat <
      modDiff (completionSize s) v s.window.cpHead.toNat := by
  simp only [cpHeadFault, Bool.or_eq_true, decide_eq_true_eq, ringDist_lt_iff _ _ _ _ h]

/-- A write of CP_HEAD without a fault is stored and acts on the notice line (R173, R180). -/
theorem exec_cpHeadWrite_of_no_fault {s : State} {v : Word} (he : s.window.device = .enabled)
    (h : cpHeadFault s v.toNat = false) : exec (.cpHeadWrite v) s =
      .next (noticeAtConsumption { s with window := { s.window with cpHead := v } }
        (ringDist (completionSize s) s.completions.tail v.toNat)) := by
  simp only [exec, execCpHeadWrite, writeCpHead, isEnabled_of he, h]
  rfl

/-- Settles O13: the fault test is that of R180, and the count left decides the line (R173). -/
theorem completionHeadWriteActsOnTheNoticeLine : Obligations.CompletionHeadWriteActsOnTheNoticeLine := by
  intro s v n old tail left threshold holdoff fault stored
  have hstored (he : s.window.device = .enabled) (hn : 0 < n) (hfault : ¬ fault) := exec_cpHeadWrite_of_no_fault he
    (Bool.eq_false_iff.2 (mt (cpHeadFault_iff v.toNat hn).1 hfault))
  have hleft (hn : 0 < n) : (ringDist n tail v.toNat : Int) = left := ringDist_eq_modDiff tail v.toNat hn
  refine ⟨fun he => ?_, fun he hn hfault => ?_, fun he hn hfault hzero => ?_, fun he hn hfault hpos hlt => ?_,
    fun he hn hfault hle => ?_⟩
  · simp [exec, execCpHeadWrite, writeCpHead, isEnabled_of_not he]
  · simp [exec, execCpHeadWrite, writeCpHead, isEnabled_of he, (cpHeadFault_iff v.toNat hn).2 hfault,
      enterHalted_eq_haltedAt]
  · have hcount : ringDist n tail v.toNat = 0 := by have := hleft hn; omega
    rw [hstored he hn hfault, noticeAtConsumption, if_pos hcount]
  · have hcount : ringDist n tail v.toNat ≠ 0 := by have := hleft hn; omega
    have hbelow : ringDist n tail v.toNat < threshold := by have := hleft hn; omega
    rw [hstored he hn hfault, noticeAtConsumption, if_neg hcount]
    exact congrArg _ (if_pos hbelow)
  · have hthreshold : 1 ≤ threshold := le_max_left _ _
    have hcount : ringDist n tail v.toNat ≠ 0 := by have := hleft hn; omega
    have habove : ¬ ringDist n tail v.toNat < threshold := by have := hleft hn; omega
    rw [hstored he hn hfault, noticeAtConsumption, if_neg hcount]
    exact congrArg _ (if_neg habove)

end Sys2Proof.Laws
end

/-! ### Trim images and the scan -/

section
set_option Elab.async false
namespace Sys2Proof.Laws

open Sys2Proof Sys2Proof.Machine Sys2Proof.Safety

/-- A halfword of an image is the two-byte field at its offset (0.7). -/
theorem imageHalf_eq_recordField (image : Record) (i : Nat) : imageHalf image i = recordField image (2 * i) 2 := by
  unfold imageHalf recordField
  rw [show 8 * (2 * i) = 16 * i by omega]

/-- A modular sum is the sum of the numbers, taken modulo the width. -/
theorem foldl_add_eq_ofNat_sum {width : Nat} (f : Nat → BitVec width) (l : List Nat) (start : BitVec width) :
    l.foldl (fun sum i => sum + f i) start = start + BitVec.ofNat width (l.map fun i => (f i).toNat).sum := by
  induction l generalizing start with
  | nil => simp
  | cons i l ih =>
    rw [List.foldl_cons, ih, List.map_cons, List.sum_cons, BitVec.ofNat_add, BitVec.ofNat_toNat,
      BitVec.setWidth_eq, BitVec.add_assoc]

/-- The check of an image is the ones' complement of its halfword sum (R99). -/
theorem imageCheck_eq (image : Record) : imageCheck image = ~~~ halfwordSum image := by
  have hhalf (i : Nat) : (imageHalf image i).toNat = recordNat image (2 * i) 2 :=
    congrArg BitVec.toNat (imageHalf_eq_recordField image i)
  rw [imageCheck, foldl_add_eq_ofNat_sum, halfwordSum, BitVec.zero_add]
  simp only [hhalf]

/-- The trim table of an image, by the offsets of TABLE 11-11. -/
theorem imageTable_eq_tableOf (image : Record) : imageTable image = tableOf image := by
  unfold imageTable tableOf
  congr 1
  funext c
  simp only [imageEntry, imageHalf_eq_recordField, recordNat]
  rw [show 2 * (2 * c.val) = 4 * c.val by omega, show 2 * (2 * c.val + 1) = 4 * c.val + 2 by omega]

/-- The state of a slot by its fields (R100). -/
theorem classifySlot_eq_slotClass (k : TrimSlot) : classifySlot k = slotClass k := by
  rcases k with ⟨useMark, image, check, voidMark⟩
  cases useMark <;> cases voidMark <;> cases check <;> simp [classifySlot, slotClass, imageCheck_eq]

/-- In a descending list the first slot that passes is the highest one. -/
theorem slotsDescending_find? {passes : Fin 8 → Bool} {k : Fin 8} (hk : passes k = true)
    (h : ∀ j : Fin 8, k < j → passes j = false) : slotsDescending.find? passes = some k := by
  have hcut : ∀ k : Fin 8, slotsDescending =
      slotsDescending.take (7 - k.val) ++ k :: slotsDescending.drop (8 - k.val) := by decide
  have habove : ∀ k : Fin 8, ∀ j ∈ slotsDescending.take (7 - k.val), k < j := by decide
  exact List.find?_eq_some_iff_append.2 ⟨hk, _, _, hcut k, fun j hj => by rw [h j (habove k j hj)]; rfl⟩

/-- In an ascending list the first slot that passes is the lowest one. -/
theorem slotsAscending_find? {passes : Fin 8 → Bool} {k : Fin 8} (hk : passes k = true)
    (h : ∀ j : Fin 8, j < k → passes j = false) : slotsAscending.find? passes = some k := by
  have hcut : ∀ k : Fin 8, slotsAscending = slotsAscending.take k.val ++ k :: slotsAscending.drop (k.val + 1) := by
    decide
  have hbelow : ∀ k : Fin 8, ∀ j ∈ slotsAscending.take k.val, j < k := by decide
  exact List.find?_eq_some_iff_append.2 ⟨hk, _, _, hcut k, fun j hj => by rw [h j (hbelow k j hj)]; rfl⟩

/-- The slot-state table after the scan (R100). -/
theorem scanStore_slotStates (t : TrimUnit) :
    (scanStore t).slotStates = Vector.ofFn fun k : Fin 8 => classifySlot t.slots[k] := by
  unfold scanStore
  dsimp only
  split <;> rfl

/-- The scan takes the highest PROGRAMMED slot (R101). -/
theorem scanStore_of_programmed {t : TrimUnit} {k : Fin 8} (hk : classifySlot t.slots[k] = .programmed)
    (h : ∀ j : Fin 8, k < j → classifySlot t.slots[j] ≠ .programmed) :
    (scanStore t).table = imageTable (slotImage t k) ∧ (scanStore t).origin = .slot k := by
  have hfind := slotsDescending_find? (k := k)
    (passes := fun k => (Vector.ofFn fun k : Fin 8 => classifySlot t.slots[k])[k] == .programmed)
    (by simpa using hk) (fun j hj => by simpa using h j hj)
  simp only [scanStore, hfind, and_self]

/-- Without a PROGRAMMED slot the scan takes unity trim (R101). -/
theorem scanStore_of_none {t : TrimUnit} (h : ∀ k : Fin 8, classifySlot t.slots[k] ≠ .programmed) :
    (scanStore t).table = unityTrim ∧ (scanStore t).origin = .unity := by
  have hfind : slotsDescending.find?
      (fun k => (Vector.ofFn fun k : Fin 8 => classifySlot t.slots[k])[k] == .programmed) = none :=
    List.find?_eq_none.2 fun k _ => by simpa using h k
  simp only [scanStore, hfind, and_self]

/-- The scan writes the slot-state table, the trim table and its origin (R101). -/
theorem scanStore_eq (t : TrimUnit) : scanStore t = { t with
    slotStates := (scanStore t).slotStates, table := (scanStore t).table, origin := (scanStore t).origin } := by
  unfold scanStore
  dsimp only
  split <;> rfl

/-- INIT ends after 50 µs (R101). -/
theorem exec_endOfInit_of_due {s : State} (hdevice : s.window.device = .init) (hticks : 2000 ≤ s.window.initTicks) :
    exec .endOfInit s = .next { s with
      window := { s.window with device := .disabled }
      trim := scanStore s.trim
      stream := { s.stream with maintenance := some 0 } } := if_pos ⟨hdevice, hticks⟩

/-- Settles O10: the scan classifies every slot, and then looks for the highest PROGRAMMED one. -/
theorem endOfInitScansTheStore : Obligations.EndOfInitScansTheStore := by
  intro s
  constructor
  · intro hdevice hticks
    refine ⟨_, exec_endOfInit_of_due hdevice hticks, rfl, rfl, fun k => ?states, fun k hk habove => ?programmed,
      fun hnone => ?unity, ?frame⟩
    case states =>
      simp only [scanStore_slotStates, Fin.getElem_fin, Vector.getElem_ofFn, classifySlot_eq_slotClass]
    case programmed =>
      simp only [← classifySlot_eq_slotClass] at hk habove
      rw [← imageTable_eq_tableOf]
      exact scanStore_of_programmed hk habove
    case unity =>
      simp only [← classifySlot_eq_slotClass] at hnone
      obtain ⟨htable, horigin⟩ := scanStore_of_none hnone
      exact ⟨fun c => by simp [htable, unityTrim], horigin⟩
    case frame => rw [← scanStore_eq]
  · intro h
    have hnot : ¬ (s.window.device = .init ∧ initDuration ≤ s.window.initTicks) := by
      rintro ⟨hdevice, hticks⟩
      rcases h with h | h
      · exact h hdevice
      · exact absurd hticks (Nat.not_le.2 h)
    exact if_neg hnot

end Sys2Proof.Laws
end

/-! ### Live edits and damage -/

section
set_option Elab.async false
namespace Sys2Proof.Laws

open Sys2Proof Sys2Proof.Machine Sys2Proof.Safety

theorem mem_maskChannels (mask : BitVec 16) (c : Fin 16) : c ∈ maskChannels mask ↔ mask.getLsbD c.val = true := by
  have hall : ∀ c : Fin 16, c ∈ allChannels := by decide
  simp [maskChannels, hall c]

/-- The last window row of a profile (R22). -/
theorem lastWindowRow_eq_finalRow (p : Profile) : lastWindowRow p = finalRow p := by
  rw [lastWindowRow, rowsPlanned, Nat.add_sub_cancel]

/-- A record is OPEN when the table holds one of its reference in OPEN (R127). -/
theorem recordOpen_iff {s : State} (hd : (s.records.map FrameRecord.ref).Nodup) (ref : Nat) :
    recordOpen s ref = true ↔ ∃ r ∈ s.records, r.ref = ref ∧ r.phase = .opened := by
  unfold recordOpen
  constructor
  · intro h
    split at h
    · rename_i r hr
      obtain ⟨hmem, href⟩ := findRecord_mem hr
      exact ⟨r, hmem, href, by simpa using h⟩
    · cases h
  · rintro ⟨r, hmem, rfl, hopen⟩
    rw [findRecord_of_mem hd hmem]
    simpa using hopen

/-- The record that a live edit damages (R91). -/
theorem liveEditRecord_eq_editedRecord {s : State} (hd : (s.records.map FrameRecord.ref).Nodup)
    (affects : Fin 16 → Bool) : liveEditRecord s affects = editedRecord s affects := by
  unfold liveEditRecord editedRecord
  cases hf : s.stream.current with
  | none => rfl
  | some f =>
    cases f with
    | dropped q p b reason => rfl
    | buffered q ref b =>
      refine if_congr ?_ rfl rfl
      have hany : (maskChannels b.channelMask).any affects = true ↔
          ∃ c : Fin 16, b.channelMask.getLsbD c.val = true ∧ affects c = true := by
        simp only [List.any_eq_true, mem_maskChannels]
      rw [Bool.and_eq_true, Bool.and_eq_true, Bool.and_eq_true, Bool.and_eq_true, decide_eq_true_eq,
        decide_eq_true_eq, recordOpen_iff hd, hany, lastWindowRow_eq_finalRow]
      tauto

/-- The records after damage to one of a reference (R136). -/
theorem addDamage_eq_damagedRecords (s : State) (ref : Nat) (damage : BitVec 8) :
    addDamage s ref damage = { s with records := damagedRecords s (some ref) damage } := by
  unfold addDamage updateRecord damagedRecords
  congr 1
  refine List.map_congr_left fun r _ => if_congr ?_ rfl rfl
  rw [beq_iff_eq, Option.some.injEq, eq_comm]

/-- Without a record to damage the records stay. -/
theorem damagedRecords_none (s : State) (damage : BitVec 8) : damagedRecords s none damage = s.records := by
  simp [damagedRecords]

/-- A live edit adds LIVE_EDIT to the record that it damages (R91). -/
theorem liveEdit_eq {s : State} (hd : (s.records.map FrameRecord.ref).Nodup) (affects : Fin 16 → Bool) :
    liveEdit s affects = { s with records := damagedRecords s (editedRecord s affects) 0x01 } := by
  unfold liveEdit
  rw [liveEditRecord_eq_editedRecord hd]
  cases editedRecord s affects with
  | none => simp only [damagedRecords_none]
  | some ref => exact addDamage_eq_damagedRecords s ref damageLiveEdit

end Sys2Proof.Laws
end

/-! ### Trim programming and loading -/

section
set_option Elab.async false
namespace Sys2Proof.Laws

open Sys2Proof Sys2Proof.Machine Sys2Proof.Safety

/-- In its turn a long request is taken by its owner into the pending list (R153). -/
theorem runLong_of_turn {s : State} {r : Record} {rest : List Record} {test : Record → Bool}
    (owner : Record → State → Taken) (h : LongTurn s r rest) (hlong : LongRecord s r) (htest : test r = true) :
    runLong s test owner = .next (enterList r (owner r (advanceHead s rest)).state
      (owner r (advanceHead s rest)).work (owner r (advanceHead s rest)).answer) := by
  have hchar : isImmediate s r = false := Bool.eq_false_iff.2 fun hi => (isImmediate_iff s r).1 hi hlong
  have htake : takeLong s test = some (r, advanceHead s rest) :=
    (takeLong_eq_some_iff ..).2 ⟨rest, h, htest, hchar, rfl⟩
  unfold runLong
  rw [htake]

/-- The kinds from PORT_ALIGN on are long (R151). -/
theorem longRecord_of_kind {s : State} {r : Record} {k : Nat} (h : HasKind r k) (hlow : 8 ≤ k) (hhigh : k ≤ 12) :
    LongRecord s r := by
  obtain ⟨hkind, hflags⟩ := h
  exact ⟨hflags, .inl (by omega)⟩

/-- In its turn a long request that its owner refuses waits with the refusal (R153). -/
theorem runLong_of_refused {s : State} {r : Record} {rest : List Record} {test : Record → Bool}
    {owner : Record → State → Taken} {status : Status} {detail : Nat} (h : LongTurn s r rest)
    (hlong : LongRecord s r) (htest : test r = true)
    (howner : owner r (advanceHead s rest) = refuseLong (advanceHead s rest) status detail) :
    runLong s test owner = .next (listed s r rest .refused (some ⟨status, BitVec.ofNat 8 detail, 0⟩)) := by
  rw [runLong_of_turn owner h hlong htest, howner]
  rfl

/-! ### TRIM_PROGRAM -/

/-- The owner finds the lowest BLANK slot (R102). -/
theorem lowestBlank_of {t : TrimUnit} {k : Fin 8} (h : LowestBlank t k) : lowestBlank t = some k := by
  obtain ⟨hk, hbelow⟩ := h
  exact slotsAscending_find? (by simpa using hk) fun j hj => by simpa using hbelow j hj

theorem lowestBlank_eq_none {t : TrimUnit} (h : ∀ k : Fin 8, t.slotStates[k] ≠ .blank) : lowestBlank t = none :=
  List.find?_eq_none.2 fun k _ => by simpa using h k

/-- The taking of a TRIM_PROGRAM (R102). -/
theorem exec_trimProgram_of_turn {s : State} {r : Record} {rest : List Record} (h : LongTurn s r rest)
    (hkind : HasKind r 0x09) :
    let address : Addr := recordField r 0x10 8
    let refused := fun (status : Status) =>
      exec .trimProgram s = .next (listed s r rest .refused (some ⟨status, 0, 0⟩))
    (address.toNat % 64 ≠ 0 → refused .range) ∧
    (address.toNat % 64 = 0 → s.trim.program ≠ .idle → refused .busy) ∧
    (address.toNat % 64 = 0 → s.trim.program = .idle → (∀ k : Fin 8, s.trim.slotStates[k] ≠ .blank) →
      refused .storeFull) ∧
    (address.toNat % 64 = 0 → s.trim.program = .idle → ∀ k : Fin 8, LowestBlank s.trim k →
      exec .trimProgram s = .next (listed { s with trim := { s.trim with
        program := .reading k address } } r rest .trimProgram none)) := by
  intro address refused
  have hlong : LongRecord s r := longRecord_of_kind hkind (by decide) (by decide)
  have htest : ofKind kindTrimProgram r = true := (ofKind_eq_true_iff _ r).2 hkind
  refine ⟨fun ha => ?range, fun ha hp => ?busy, fun ha hp hs => ?full, fun ha hp k hk => ?taken⟩
  case range => exact runLong_of_refused h hlong htest (if_pos ha)
  case busy =>
    refine runLong_of_refused (detail := 0) h hlong htest ?_
    simp only [trimProgramOwner]
    rw [if_neg (not_not.2 ha)]
    exact if_pos hp
  case full =>
    refine runLong_of_refused (detail := 0) h hlong htest ?_
    simp only [trimProgramOwner, advanceHead_trim, lowestBlank_eq_none hs]
    rw [if_neg (not_not.2 ha), if_neg (not_not.2 hp)]
  case taken =>
    refine (runLong_of_turn trimProgramOwner h hlong htest).trans ?_
    simp only [trimProgramOwner, advanceHead_trim, lowestBlank_of hk]
    rw [if_neg (not_not.2 ha), if_neg (not_not.2 hp)]
    rfl

/-- The answer to the image read of a TRIM_PROGRAM (R103, R104, R107). -/
theorem exec_trimImageReadDone_of_reading {s : State} {a : ReadAnswer 512} {k : Fin 8} {address : Addr}
    (h : s.trim.program = .reading k address) :
    (a.tracked = false → exec (.trimImageReadDone a) s = .next s) ∧
    (a.tracked = true → ReadFails a → exec (.trimImageReadDone a) s = .next { s with
      trim := { s.trim with program := .idle }
      requests := { s.requests with
        entries := answeredWork s .trimProgram ⟨.readError, 0, BitVec.ofNat 32 k.val⟩ } }) ∧
    (a.tracked = true → ¬ ReadFails a → slotReadRuns s.trim = false →
      exec (.trimImageReadDone a) s = .next { s with trim := useMarkWritten s.trim k a.data }) ∧
    (a.tracked = true → ¬ ReadFails a → slotReadRuns s.trim = true →
      exec (.trimImageReadDone a) s =
        .next { s with trim := { s.trim with program := .held k a.data } }) := by
  refine ⟨fun ht => ?_, fun ht hf => ?_, fun ht hf hr => ?_, fun ht hf hr => ?_⟩
  · simp only [exec, execTrimImageReadDone, ht]
  · simp only [exec, execTrimImageReadDone, ht, h, (readFailed_iff a).2 hf, if_true]
    rfl
  · simp only [exec, execTrimImageReadDone, ht, h, (readFailed_eq_false_iff a).2 hf, hr]
    rfl
  · simp only [exec, execTrimImageReadDone, ht, h, (readFailed_eq_false_iff a).2 hf, hr]
    rfl

theorem verifyGood_iff (written read : Record) (check : Half) :
    verifyGood written read check = true ↔ read = written ∧ check = ~~~ halfwordSum written := by
  rw [verifyGood, Bool.and_eq_true, beq_iff_eq, beq_iff_eq, imageCheck_eq]

/-- A slot read that waited begins as the verify ends (R107). -/
theorem startWaitingRead_eq (t : TrimUnit) : startWaitingRead t = { t with
    load := match t.load with
      | .waiting j => .slotRead j 0
      | other => other } := by
  rcases t with ⟨table, origin, slots, slotStates, program, load⟩
  cases load <;> rfl

/-- The verify of a programming at its end (R104). -/
theorem exec_trimProgramVerify_of_programming {s : State} {k : Fin 8} {image back : Record} {checkBack : Half}
    {elapsed : Nat} (h : s.trim.program = .programming k image elapsed) (helapsed : 100000 ≤ elapsed) :
    let check := ~~~ halfwordSum image
    let good := back = image ∧ checkBack = check
    let a : Answer := ⟨if good then .ok else .verifyFailed, 0, BitVec.ofNat 32 k.val⟩
    exec (.trimProgramVerify back checkBack) s = .next { s with
      trim := { s.trim with
        slots := s.trim.slots.set k ⟨true, some image, some check, decide (¬ good)⟩
        slotStates := s.trim.slotStates.set k (if good then .programmed else .defective)
        program := .idle
        load := match s.trim.load with
          | .waiting j => .slotRead j 0
          | other => other }
      requests := { s.requests with entries := answeredWork s .trimProgram a } } := by
  intro check good a
  have hgood : verifyGood image back checkBack = decide good :=
    Bool.eq_iff_iff.2 (by rw [verifyGood_iff, decide_eq_true_eq])
  have hdue : programDuration ≤ elapsed := helapsed
  simp only [exec, execTrimProgramVerify, h, if_pos hdue, hgood, verifyTrim, startWaitingRead_eq, verifiedSlot,
    imageCheck_eq, setSlot, setSlotState, decide_eq_true_eq]
  rw [← decide_not]
  rfl

/-- Settles O37: the taking, the answer to the image read, and the verify. -/
theorem trimProgramBurnsTheLowestBlankSlot : Obligations.TrimProgramBurnsTheLowestBlankSlot := by
  refine ⟨fun s r rest h hkind => exec_trimProgram_of_turn h hkind,
    fun s a k address h => exec_trimImageReadDone_of_reading h, fun s a h => ?notReading,
    fun s back checkBack h => ?notProgramming, fun s k image back checkBack elapsed h =>
      ⟨fun helapsed => ?early, exec_trimProgramVerify_of_programming h⟩⟩
  case notReading =>
    dsimp only [exec]
    unfold execTrimImageReadDone
    split
    · rename_i hp
      exact absurd hp (h _ _)
    · rfl
  case notProgramming =>
    dsimp only [exec]
    unfold execTrimProgramVerify
    split
    · rename_i hp
      exact absurd hp (h _ _ _)
    · rfl
  case early =>
    have hdue : ¬ programDuration ≤ elapsed := Nat.not_le.2 helapsed
    simp only [exec, execTrimProgramVerify, h, if_neg hdue]

/-! ### TRIM_LOAD -/

/-- The taking of a TRIM_LOAD (R106, R107). -/
theorem exec_trimLoad_of_turn {s : State} {r : Record} {rest : List Record} (h : LongTurn s r rest)
    (hkind : HasKind r 0x0A) :
    let source := recordNat r 0x08 1
    let slot := recordNat r 0x09 1
    let address : Addr := recordField r 0x10 8
    (∀ status detail, loadFault s.trim source slot address = some (status, detail) →
      exec .trimLoad s = .next (listed s r rest .refused (some ⟨status, BitVec.ofNat 8 detail, 0⟩))) ∧
    (loadFault s.trim source slot address = none →
      exec .trimLoad s = .next (listed { s with trim := { s.trim with
        load := if source = 1 then .hostRead address
          else if programmingRuns s.trim then .waiting (Fin.ofNat 8 slot) else .slotRead (Fin.ofNat 8 slot) 0 } }
        r rest .trimLoad none)) := by
  intro source slot address
  have hlong : LongRecord s r := longRecord_of_kind hkind (by decide) (by decide)
  have htest : ofKind kindTrimLoad r = true := (ofKind_eq_true_iff _ r).2 hkind
  refine ⟨fun status detail hfault => runLong_of_refused h hlong htest ?_, fun hfault => ?_⟩
  · simp only [trimLoadOwner, advanceHead_trim]
    rw [hfault]
  · refine (runLong_of_turn trimLoadOwner h hlong htest).trans ?_
    simp only [trimLoadOwner, advanceHead_trim]
    rw [hfault]
    rfl

/-- The image of a TRIM_LOAD is put in force (R91, R96, R107). -/
theorem installTrim_eq_trimLoaded {s : State} (hd : (s.records.map FrameRecord.ref).Nodup) (image : Record)
    (origin : TrimOrigin) (aux : Nat) : installTrim s image origin aux = trimLoaded s image origin aux := by
  simp only [installTrim, imageTable_eq_tableOf]
  rw [liveEdit_eq (s := { s with trim := { s.trim with
    table := tableOf image, origin := origin, load := .idle } }) hd]
  rfl

/-- A use mark that waited for the slot read is written as it ends (R107). -/
theorem releaseHeld_eq (t : TrimUnit) : releaseHeld t = match t.program with
    | .held j image => useMarkWritten t j image
    | _ => t := by
  rcases t with ⟨table, origin, slots, slotStates, program, load⟩
  cases program <;> rfl

/-- The fault of a load from host memory at a misaligned address (R106). -/
theorem loadFault_of_host_misaligned {t : TrimUnit} {source slot : Nat} {address : Addr} (hs : source = 1)
    (ha : address.toNat % 64 ≠ 0) : loadFault t source slot address = some (.range, 0) := by
  subst hs
  simp [loadFault, ha]

/-- The fault of a load from host memory at an aligned address (R106). -/
theorem loadFault_of_host {t : TrimUnit} {source slot : Nat} {address : Addr} (hs : source = 1)
    (ha : address.toNat % 64 = 0) :
    loadFault t source slot address = if t.load ≠ .idle then some (.busy, 0) else none := by
  subst hs
  simp [loadFault, ha]

/-- The fault of a load from a slot (R106). -/
theorem loadFault_of_slot {t : TrimUnit} {source slot : Nat} {address : Addr} {k : Fin 8} (hs : source = 0)
    (hk : k.val = slot) : loadFault t source slot address =
      if t.load ≠ .idle then some (.busy, 0)
      else if t.slotStates[k] ≠ .programmed then some (.absent, slot) else none := by
  subst hs hk
  have hlow : ¬ 8 ≤ k.val := by omega
  simp [loadFault, hlow]

/-- Settles O38: the taking by its fault, and the ends of the two reads. -/
theorem trimLoadReplacesTheTable : Obligations.TrimLoadReplacesTheTable := by
  refine ⟨fun s r rest h hkind => ?taking, fun s k elapsed h hd => ⟨fun helapsed => ?early, fun helapsed => ?slotRead⟩,
    fun s h => ?noSlotRead, fun s a h => ?noHostRead, fun s a address h hd =>
      ⟨fun ht => ?untracked, fun ht hf => ?failed, fun ht hf => ?hostRead⟩⟩
  case taking =>
    intro source slot address refused begun
    obtain ⟨hrefused, htaken⟩ := exec_trimLoad_of_turn h hkind
    refine ⟨fun hform => hrefused _ _ ?_, fun hs ha => hrefused _ _ ?_, fun hs ha hl => hrefused _ _ ?_,
      fun hs ha hl => ?_, fun hs k hk => ⟨fun hl => hrefused _ _ ?_, fun hl hp => hrefused _ _ ?_, fun hl hp => ?_⟩⟩
    · have hform' : 1 < source ∨ ¬ 1 < source ∧ source = 0 ∧ 8 ≤ slot := by omega
      unfold loadFault
      rcases hform' with hform' | ⟨hsource, hslot⟩
      · rw [if_pos hform']
      · rw [if_neg hsource, if_pos hslot]
    · exact loadFault_of_host_misaligned hs ha
    · rw [loadFault_of_host hs ha, if_pos hl]
    · have hfault : loadFault s.trim source slot address = none := by
        rw [loadFault_of_host hs ha, if_neg (not_not.2 hl)]
      have hrun := htaken hfault
      rw [if_pos hs] at hrun
      exact hrun
    · rw [loadFault_of_slot hs hk, if_pos hl]
    · rw [loadFault_of_slot hs hk, if_neg (not_not.2 hl), if_pos hp]
    · have hfault : loadFault s.trim source slot address = none := by
        rw [loadFault_of_slot hs hk, if_neg (not_not.2 hl), if_neg (not_not.2 hp)]
      have hsource : ¬ source = 1 := by omega
      have hslot : Fin.ofNat 8 slot = k := by rw [← hk]; exact Fin.ofNat_val_eq_self k
      have hrun := htaken hfault
      rw [if_neg hsource, hslot] at hrun
      exact hrun
  case early =>
    have hdue : ¬ slotReadDuration ≤ elapsed := Nat.not_le.2 helapsed
    simp only [exec, execTrimSlotReadDone, h, if_neg hdue]
  case slotRead =>
    have hdue : slotReadDuration ≤ elapsed := helapsed
    simp only [exec, execTrimSlotReadDone, h, if_pos hdue, installTrim_eq_trimLoaded hd.1, releaseHeld_eq]
    rfl
  case noSlotRead =>
    dsimp only [exec]
    unfold execTrimSlotReadDone
    split
    · rename_i hl
      exact absurd hl (h _ _)
    · rfl
  case noHostRead =>
    dsimp only [exec]
    unfold execTrimHostReadDone
    split
    · rename_i hl
      exact absurd hl (h _)
    · rfl
  case untracked => simp only [exec, execTrimHostReadDone, ht]
  case failed =>
    simp only [exec, execTrimHostReadDone, ht, h, (readFailed_iff a).2 hf, if_true]
    rfl
  case hostRead =>
    simp only [exec, execTrimHostReadDone, ht, h, (readFailed_eq_false_iff a).2 hf,
      installTrim_eq_trimLoaded hd.1]
    rfl

end Sys2Proof.Laws
end

/-! ### An accepted STAGE -/

section
set_option Elab.async false
namespace Sys2Proof.Laws

open Sys2Proof Sys2Proof.Machine Sys2Proof.Safety

/-- A number below the size of a finite type names its element. -/
theorem ofNat_four_eq {n : Nat} {p : Fin 4} (h : n = p.val) : Fin.ofNat 4 n = p := by
  rw [h]; exact Fin.ofNat_val_eq_self p

/-- A write of a profile field is read back as its value, and the other fields stay (TABLE 2-1, R34). -/
theorem readField_writeField (p : Profile) {x : Nat × Nat} (hx : PairOk x) {id : Nat}
    (hid : id ∈ ([1, 2, 3, 4, 5, 6, 7, 8, 9] : List Nat)) :
    readField (writeField p x.1 x.2) id = if x.1 == id then x.2 else readField p id := by
  obtain ⟨field, value⟩ := x
  obtain ⟨hlow, hhigh⟩ := of_decide_eq_true (isProfileField_of_pairOk hx)
  by_cases hsame : field = id
  · subst hsame
    rw [beq_self_eq_true, if_pos rfl]
    change 1 ≤ field at hlow
    change field ≤ 9 at hhigh
    interval_cases field <;> simp only [PairOk, fieldRange, Option.mem_some_iff, exists_eq_left'] at hx
    · rfl
    · rfl
    · rfl
    · rfl
    · rfl
    · show (BitVec.ofNat 16 value).toNat = value
      rw [BitVec.toNat_ofNat]
      omega
    · obtain ⟨-, hvalue⟩ := hx
      interval_cases value <;> rfl
    · obtain ⟨-, hvalue⟩ := hx
      interval_cases value <;> rfl
    · obtain ⟨-, hvalue⟩ := hx
      interval_cases value <;> rfl
  · rw [beq_eq_false_iff_ne.2 hsame, if_neg Bool.false_ne_true]
    change 1 ≤ field at hlow
    change field ≤ 9 at hhigh
    simp only [List.mem_cons, List.not_mem_nil, or_false] at hid
    interval_cases field <;> rcases hid with rfl | rfl | rfl | rfl | rfl | rfl | rfl | rfl | rfl <;>
      first | rfl | exact absurd rfl hsame

/-- After pairs that pass, each field holds the value of its last pair (R34). -/
theorem readField_applyPairs (p : Profile) (pairs : List (Nat × Nat)) (h : ∀ x ∈ pairs, PairOk x) {id : Nat}
    (hid : id ∈ ([1, 2, 3, 4, 5, 6, 7, 8, 9] : List Nat)) :
    readField (applyPairs p pairs) id =
      (((pairs.filter fun x => x.1 == id).getLast?).map Prod.snd).getD (readField p id) := by
  induction pairs using List.reverseRecOn with
  | nil => rfl
  | append_singleton pairs x ih =>
    have hx : PairOk x := h x (by simp)
    have happly : applyPairs p (pairs ++ [x]) = writeField (applyPairs p pairs) x.1 x.2 := by
      simp [applyPairs]
    rw [happly, readField_writeField _ hx hid, ih fun y hy => h y (by simp [hy]), List.filter_append]
    by_cases hsame : (x.1 == id) = true
    · simp [hsame]
    · simp [hsame]

/-- A STAGE whose profile, count and pairs pass has no fault (R32). -/
theorem stageFault_eq_none {r : Record} {p k : Nat} (hp : p < 4) (hk : k ≤ 12)
    (hpass : ∀ i < k, PairOk (stagePair r i)) : stageFault p k (stagePairs r k) = none := by
  have hpairs : ∀ x ∈ stagePairs r k, PairOk x := by simpa [stagePairs] using hpass
  have hsearch := pairFault_append_of_pairOk [] 0 hpairs
  rw [List.append_nil] at hsearch
  rw [stageFault, if_pos hp, if_pos hk, hsearch, pairFault]

/-- The owner of a STAGE without a fault writes the staged copy of its profile (R34). -/
theorem stageOwner_of_no_fault {r : Record} {p : Fin 4} (s : State) (hp : recordNat r 0x08 1 = p.val)
    (h : stageFault (recordNat r 0x08 1) (recordNat r 0x09 1) (stagePairs r (recordNat r 0x09 1)) = none) :
    stageOwner r s = (setCopies s p { s.profiles[p] with
      staged := applyPairs s.profiles[p].staged (stagePairs r (recordNat r 0x09 1)) },
      answer .ok 0 (recordNat r 0x09 1)) := by
  simp only [stageOwner, h, ofNat_four_eq hp]

/-- Settles O25: the staged copy takes the pairs in order, so each field keeps its last one. -/
theorem stageWritesTheLastPairs : Obligations.StageWritesTheLastPairs := by
  intro s r rest p hturn hkind hp k hk hpass
  have hfault := stageFault_eq_none (p := recordNat r 0x08 1) (hp ▸ p.isLt) hk hpass
  have hrun := runImmediate_of_turn stageOwner hturn (not_longRecord_of_stage hkind)
    ((ofKind_eq_true_iff kindStage r).2 hkind)
  rw [stageOwner_of_no_fault _ hp hfault] at hrun
  have hpairs : ∀ x ∈ stagePairs r k, PairOk x := by simpa [stagePairs] using hpass
  refine ⟨_, hrun, fun id hid => ?fields, ?frame⟩
  case fields =>
    have hstaged := readField_applyPairs s.profiles[p].staged (stagePairs r k) hpairs hid
    have hset : (setCopies (advanceHead s rest) p { (advanceHead s rest).profiles[p] with
        staged := applyPairs (advanceHead s rest).profiles[p].staged (stagePairs r k) }).profiles[p].staged =
        applyPairs s.profiles[p].staged (stagePairs r k) := by simp [setCopies]
    exact (congrArg (readField · id) hset).trans hstaged
  case frame =>
    simp [answerImmediate, answered, place, setCopies, advanceHead, requestDone, requestTag, requestKind,
      headAfter, ringNext, requestSize, answer, k]
    rfl

end Sys2Proof.Laws
end

/-! ### The checks of a COMMIT -/

section
set_option Elab.async false
namespace Sys2Proof.Laws

open Sys2Proof Sys2Proof.Machine Sys2Proof.Safety

/-- The search through a profile list, with the entries seen so far, is the search by entry number (R43). -/
theorem listFault_eq_find? (rest before : List Nat) (seen : List Nat) (hseen : ∀ v, v ∈ seen ↔ v ∈ before) :
    listFault before.length seen rest = (List.range' before.length rest.length).find? fun i =>
      decide (4 ≤ (before ++ rest).getD i 0 ∨ (before ++ rest).getD i 0 ∈ (before ++ rest).take i) := by
  induction rest generalizing before seen with
  | nil => rfl
  | cons v rest ih =>
    have hat : (before ++ v :: rest).getD before.length 0 = v := by simp
    have htake : (before ++ v :: rest).take before.length = before := by simp
    rw [listFault, List.length_cons, List.range'_succ, List.find?_cons, hat, htake]
    by_cases hv : 4 ≤ v ∨ v ∈ before
    · rw [if_pos (by rwa [hseen]), decide_eq_true hv]
    · rw [if_neg (by rwa [hseen]), decide_eq_false hv]
      have hnext := ih (before ++ [v]) (v :: seen) (by intro w; simp [hseen, or_comm])
      simpa using hnext

/-- The first entry of a profile list at fault (R43). -/
theorem listFault_eq_firstBadEntry (list : List Nat) : listFault 0 [] list = firstBadEntry list := by
  have h := listFault_eq_find? list [] [] (fun _ => Iff.rfl)
  simpa [firstBadEntry, List.range_eq_range'] using h

/-- A profile list without an entry at fault is of profiles, each named once (R43). -/
theorem firstBadEntry_eq_none_iff (list : List Nat) :
    firstBadEntry list = none ↔ (∀ v ∈ list, v < 4) ∧ list.Nodup := by
  induction list using List.reverseRecOn with
  | nil => simp [firstBadEntry]
  | append_singleton list v ih =>
    have hsplit : firstBadEntry (list ++ [v]) = none ↔
        firstBadEntry list = none ∧ ¬ (4 ≤ v ∨ v ∈ list) := by
      unfold firstBadEntry
      rw [List.find?_eq_none, List.find?_eq_none, List.length_append, List.length_singleton, List.range_succ]
      simp only [List.mem_append, List.mem_range, List.mem_singleton, or_imp, forall_and, forall_eq]
      refine and_congr ?_ ?_
      · refine forall₂_congr fun i hi => ?_
        rw [List.getD_append _ _ _ _ hi, List.take_append_of_le_length hi.le]
      · simp
    rw [hsplit, ih, List.nodup_append_comm, List.singleton_append, List.nodup_cons]
    simp only [List.mem_append, List.mem_singleton, or_imp, forall_and, forall_eq]
    constructor
    · rintro ⟨⟨hlist, hnodup⟩, hv⟩
      exact ⟨⟨hlist, by omega⟩, fun hm => hv (.inr hm), hnodup⟩
    · rintro ⟨⟨hlist, hv⟩, hnew, hnodup⟩
      exact ⟨⟨hlist, hnodup⟩, by rintro (h | h); · omega
                                 · exact hnew h⟩

/-- The fourth constraint: 40 ticks, and 24 and 4 a channel (TABLE 3-3). -/
theorem rowPeriodLong_iff (p : Profile) : rowPeriodLong p = true ↔
    ¬ (p.rowPeriod < 40 ∨ p.rowPeriod < 24 + 4 * channelsIn p.channelMask) := by
  unfold rowPeriodLong
  rw [decide_eq_true_eq]
  change max 40 (24 + 4 * channelsIn p.channelMask) ≤ p.rowPeriod ↔ _
  omega

/-- The third constraint: every channel of the mask belongs to a fitted port (TABLE 3-3). -/
theorem channelsFitted_iff (n : Nat) (p : Profile) : channelsFitted n p = true ↔
    ∀ c : Fin 16, p.channelMask.getLsbD c.val = true → c.val / 4 < n := by
  simp only [channelsFitted, List.all_eq_true, mem_maskChannels, decide_eq_true_eq]

/-- The first constraint that fails (R47). -/
theorem constraintFault_eq (n : Nat) (p : Profile) : constraintFault n p =
    if failedConstraint n p = 0 then none else some (failedConstraint n p) := by
  unfold constraintFault failedConstraint
  have h1 : (!windowOrder p) = true ↔ p.rowLast < p.rowFirst := by simp [windowOrder]
  have h2 : (!windowClosure p) = true ↔ p.frameRows < p.rowLast + 5 := by simp [windowClosure]
  have h3 : (!channelsFitted n p) = true ↔
      ¬ ∀ c : Fin 16, p.channelMask.getLsbD c.val = true → c.val / 4 < n := by
    rw [Bool.not_eq_true', ← Bool.not_eq_true, channelsFitted_iff]
  have h4 : (!rowPeriodLong p) = true ↔
      (p.rowPeriod < 40 ∨ p.rowPeriod < 24 + 4 * channelsIn p.channelMask) := by
    rw [Bool.not_eq_true', ← Bool.not_eq_true, rowPeriodLong_iff, not_not]
  simp only [h1, h2, h3, h4]
  split_ifs <;> first | rfl | omega

/-- A copy fails no constraint exactly when it meets C1 to C4 (TABLE 3-3). -/
theorem failedConstraint_eq_zero_iff (n : Nat) (p : Profile) : failedConstraint n p = 0 ↔ CrossChecked n p := by
  unfold failedConstraint
  by_cases h1 : p.rowLast < p.rowFirst
  · simp only [if_pos h1, one_ne_zero, false_iff]
    rintro ⟨horder, -⟩
    omega
  by_cases h2 : p.frameRows < p.rowLast + 5
  · simp only [if_neg h1, if_pos h2, OfNat.ofNat_ne_zero, false_iff]
    rintro ⟨-, hclosure, -⟩
    omega
  by_cases h3 : ∀ c : Fin 16, p.channelMask.getLsbD c.val = true → c.val / 4 < n
  · by_cases h4 : p.rowPeriod < 40 ∨ p.rowPeriod < 24 + 4 * channelsIn p.channelMask
    · rw [if_neg h1, if_neg h2, if_neg (not_not.2 h3), if_pos h4]
      simp only [OfNat.ofNat_ne_zero, false_iff]
      rintro ⟨-, -, -, hlow, hperiod⟩
      omega
    · rw [if_neg h1, if_neg h2, if_neg (not_not.2 h3), if_neg h4]
      exact iff_of_true rfl ⟨by omega, by omega, h3, by omega⟩
  · rw [if_neg h1, if_neg h2, if_pos h3]
    simp only [OfNat.ofNat_ne_zero, false_iff]
    exact fun h => h3 h.2.2.1

/-- The first named profile at fault, searched for one by one (R47). -/
theorem constraintsFault_eq (s : State) (list : List Nat) : constraintsFault s list =
    ((list.map fun v => (v, failedConstraint (fitted s) s.profiles[profileOf v].staged)).find?
      (fun x => x.2 ≠ 0) |>.map fun x => 16 * x.1 + x.2) := by
  induction list with
  | nil => rfl
  | cons v list ih =>
    rw [constraintsFault, constraintFault_eq, List.map_cons, List.find?_cons]
    by_cases h : failedConstraint (fitted s) s.profiles[profileOf v].staged = 0
    · simp only [h, if_true, ne_eq, not_true_eq_false, decide_false, ih]
    · simp only [h, if_false, ne_eq, not_false_eq_true, decide_true, Option.map_some]

/-- The first named profile with a pending copy, or the schedule (R45). -/
theorem pendingFault_eq_firstPending {s : State} {c : CommitOperands} (h : ∀ v ∈ c.list, v < 4) :
    pendingFault s c = firstPending s c := by
  have hsearch : c.list.find? (fun v => if v = 4 then s.schedule.pend.isSome
      else s.profiles[profileOf v].pend.isSome) = c.list.find? fun v => s.profiles[profileOf v].pend.isSome := by
    refine List.find?_congr fun v hv => if_neg ?_
    have := h v hv
    omega
  unfold pendingFault firstPending
  rw [List.find?_append, hsearch]
  cases hfind : c.list.find? fun v => s.profiles[profileOf v].pend.isSome with
  | some v => simp
  | none =>
    by_cases hflag : c.flag = 1 <;> cases s.schedule.pend <;> simp [hflag]

/-- The form fault of a COMMIT, check 1 of TABLE 3-2 (R43). -/
theorem commitFormFault_eq (c : CommitOperands) : commitFormFault c =
    if 4 < c.count ∨ 1 < c.mode ∨ 1 < c.flag then some (.badField, 255)
    else if (firstBadEntry c.list).isSome then some (.badField, (firstBadEntry c.list).getD 0)
    else if c.count = 0 ∧ c.flag = 0 then some (.badField, 255) else none := by
  unfold commitFormFault
  rw [listFault_eq_firstBadEntry]
  by_cases h1 : 4 < c.count
  · simp [h1]
  by_cases h2 : 1 < c.mode
  · simp [h2]
  by_cases h3 : 1 < c.flag
  · simp [h3]
  cases firstBadEntry c.list <;> simp [h1, h2, h3]

/-- The fault of a COMMIT is its refusal by TABLE 3-2, in the order of the table (R42). -/
theorem commitFault_eq_commitRefusal {s : State} {c : CommitOperands} (h : s.commits.length ≤ 4) :
    commitFault s c = commitRefusal s c := by
  unfold commitFault commitRefusal
  rw [commitFormFault_eq]
  by_cases h1 : 4 < c.count ∨ 1 < c.mode ∨ 1 < c.flag
  · simp only [if_pos h1]
  simp only [if_neg h1]
  by_cases h2 : (firstBadEntry c.list).isSome = true
  · simp only [if_pos h2]
  simp only [if_neg h2]
  by_cases h3 : c.count = 0 ∧ c.flag = 0
  · simp only [if_pos h3]
  simp only [if_neg h3]
  obtain ⟨hlist, -⟩ := (firstBadEntry_eq_none_iff c.list).1 (by simpa using h2)
  have htag : (s.commits.any fun g => g.tag == c.tag) = true ↔ ∃ g ∈ s.commits, g.tag = c.tag := by simp
  have hfull : 4 ≤ s.commits.length ↔ s.commits.length = 4 := by omega
  have hlate : (c.mode = 1 ∧ (!atOrAhead c.frame s.stream.next) = true) ↔
      (c.mode = 1 ∧ 2 ^ 31 ≤ (c.frame - s.stream.next).toNat) := by
    rw [Bool.not_eq_true', ← Bool.not_eq_true, atOrAhead_iff, Nat.not_lt]
  refine if_congr htag rfl (if_congr hfull rfl ?_)
  rw [pendingFault_eq_firstPending hlist]
  cases firstPending s c with
  | some v => rfl
  | none =>
    simp only [Option.isSome_none, Bool.false_eq_true, if_false]
    refine if_congr hlate rfl ?_
    rw [constraintsFault_eq]
    show _ = if (firstUnsound s c).isSome then some (Status.invalid, (firstUnsound s c).getD 0) else none
    unfold firstUnsound
    split <;> rename_i hd <;> rw [hd] <;> rfl

/-- No named profile has a pending copy, nor a carried schedule (R45). -/
theorem firstPending_eq_none_iff {s : State} {c : CommitOperands} (h : ∀ v ∈ c.list, v < 4) :
    firstPending s c = none ↔ NothingPending s c := by
  unfold firstPending NothingPending
  rw [List.find?_append, Option.or_eq_none_iff, List.find?_eq_none]
  refine and_congr (forall₂_congr fun v hv => ?_) ?_
  · have hne : v ≠ 4 := by have := h v hv; omega
    simp [hne]
  · by_cases hflag : c.flag = 1 <;> simp [hflag]

/-- Every named profile's staged copy meets C1 to C4 (R47). -/
theorem firstUnsound_eq_none_iff (s : State) (c : CommitOperands) : firstUnsound s c = none ↔
    ∀ v ∈ c.list, CrossChecked (fitted s) s.profiles[profileOf v].staged := by
  unfold firstUnsound
  rw [Option.map_eq_none_iff, List.find?_eq_none]
  simp only [List.mem_map, forall_exists_index, and_imp, forall_apply_eq_imp_iff₂, ← failedConstraint_eq_zero_iff,
    decide_eq_true_eq, not_not, ne_eq]

/-- A check that refuses stands before the others: none refuses exactly when it does not and they do not. -/
theorem ite_none_iff {α : Type} {p : Prop} [Decidable p] {a : α} {x : Option α} :
    (if p then some a else x) = none ↔ ¬ p ∧ x = none := by
  by_cases h : p <;> simp [h]

/-- A COMMIT is refused by no check exactly when it passes them all (R42). -/
theorem commitRefusal_eq_none_iff {s : State} {c : CommitOperands} (hcommits : s.commits.length ≤ 4) :
    commitRefusal s c = none ↔ CommitPasses s c := by
  unfold commitRefusal CommitPasses CommitForm
  by_cases h1 : 4 < c.count ∨ 1 < c.mode ∨ 1 < c.flag
  · rw [if_pos h1]
    simp only [reduceCtorEq, false_iff]
    omega
  rw [if_neg h1]
  cases h2 : firstBadEntry c.list with
  | some i =>
    have hbad := mt (firstBadEntry_eq_none_iff c.list).2 (by simp [h2])
    simp only [Option.isSome_some, if_true, reduceCtorEq, false_iff]
    rintro ⟨⟨-, -, -, hlist, hnodup, -⟩, -⟩
    exact hbad ⟨hlist, hnodup⟩
  | none =>
    obtain ⟨hlist, hnodup⟩ := (firstBadEntry_eq_none_iff c.list).1 h2
    simp only [Option.isSome_none, Bool.false_eq_true, if_false, ite_eq_right_iff, reduceCtorEq, imp_false,
      ite_none_iff]
    rw [Bool.not_eq_true, Option.isSome_eq_false_iff, Option.isNone_iff_eq_none, firstPending_eq_none_iff hlist,
      Bool.not_eq_true, Option.isSome_eq_false_iff, Option.isNone_iff_eq_none, firstUnsound_eq_none_iff]
    constructor
    · rintro ⟨h3, htag, hfull, hpend, hlate, hsound⟩
      exact ⟨⟨by omega, by omega, by omega, hlist, hnodup, by omega⟩, fun g hg hsame => htag ⟨g, hg, hsame⟩,
        by omega, hpend, fun hat => by omega, hsound⟩
    · rintro ⟨⟨-, -, -, -, -, hform⟩, htag, hfull, hpend, hlate, hsound⟩
      exact ⟨by omega, fun ⟨g, hg, hsame⟩ => htag g hg hsame, by omega, hpend,
        fun ⟨hat, hfar⟩ => absurd (hlate hat) (by omega), hsound⟩

/-- In its turn a COMMIT is taken by its owner and answered (R152). -/
theorem exec_commit_of_turn {s : State} {r : Record} {rest : List Record} (hturn : ImmediateTurn s r rest)
    (hkind : HasKind r 0x03) :
    exec .commit s = .next (answerImmediate r (commitOwner r (advanceHead s rest)).1
      (commitOwner r (advanceHead s rest)).2) :=
  runImmediate_of_turn commitOwner hturn (not_longRecord_of_kind_lt hkind (by decide))
    ((ofKind_eq_true_iff kindCommit r).2 hkind)

/-- The owner of a COMMIT that a check refuses leaves the machine as it is (R42). -/
theorem commitOwner_of_refused {r : Record} {s : State} {x : Status × Nat} (hcommits : s.commits.length ≤ 4)
    (h : commitRefusal s (commitOperands r) = some x) : commitOwner r s = (s, answer x.1 x.2 0) := by
  have hfault := (commitFault_eq_commitRefusal (c := commitOperands r) hcommits).trans h
  unfold commitOwner
  simp only [hfault]

/-- A COMMIT that passes every check has no fault (R42). -/
theorem commitFault_of_passes {s : State} {c : CommitOperands} (h : CommitPasses s c) : commitFault s c = none := by
  have hcommits : s.commits.length ≤ 4 := by
    obtain ⟨-, -, hroom, -⟩ := h
    omega
  rw [commitFault_eq_commitRefusal hcommits, commitRefusal_eq_none_iff hcommits]
  exact h

/-- Settles O30: the checks of the model are those of TABLE 3-2, in its order. -/
theorem refusedCommitChangesNothing : Obligations.RefusedCommitChangesNothing := by
  intro s r rest hturn hkind hcommits
  refine ⟨fun x hx => ?_, commitRefusal_eq_none_iff hcommits⟩
  have howner : commitOwner r (advanceHead s rest) = (advanceHead s rest, answer x.1 x.2 0) :=
    commitOwner_of_refused (s := advanceHead s rest) hcommits hx
  rw [exec_commit_of_turn hturn hkind, howner]
  rfl

end Sys2Proof.Laws
end

/-! ### Accepted COMMITs -/

section
set_option Elab.async false
namespace Sys2Proof.Laws

open Sys2Proof Sys2Proof.Machine Sys2Proof.Safety

/-- Profile p is in the set of a list of profiles when it is in the list (R183). -/
theorem inSet_foldl_profiles (list : List Nat) (set : BitVec 4) (h : ∀ v ∈ list, v < 4) (p : Fin 4) :
    inSet (list.foldl (fun set v => set ||| BitVec.twoPow 4 (profileOf v).val) set) p =
      (inSet set p || decide (p.val ∈ list)) := by
  induction list generalizing set with
  | nil => simp
  | cons v list ih =>
    rw [List.foldl_cons, ih _ fun w hw => h w (List.mem_cons_of_mem v hw)]
    have hv : v < 4 := h v List.mem_cons_self
    have hprofile : (profileOf v).val = v := Nat.mod_eq_of_lt hv
    have hbit : inSet (set ||| BitVec.twoPow 4 (profileOf v).val) p = (inSet set p || decide (p.val = v)) := by
      unfold inSet
      rw [BitVec.getLsbD_or, BitVec.getLsbD_twoPow, hprofile]
      simp [hv, eq_comm]
    rw [hbit, Bool.or_assoc]
    simp only [List.mem_cons, Bool.decide_or]

/-- Profile p is in the set of a checked profile list when it is in the list (R183). -/
theorem inSet_profileSetOf {list : List Nat} (h : ∀ v ∈ list, v < 4) (p : Fin 4) :
    inSet (profileSetOf list) p = decide (p.val ∈ list) := by
  rw [profileSetOf, inSet_foldl_profiles list 0#4 h p]
  simp [inSet]

/-- The same of the set as the statements write it (R183). -/
theorem inSet_setOf (list : List Nat) (p : Fin 4) : inSet (Safety.setOf list) p = decide (p.val ∈ list) := by
  have hsum : Safety.setOf list = BitVec.ofNat 4 ((if 0 ∈ list then 1 else 0) + (if 1 ∈ list then 2 else 0) +
      (if 2 ∈ list then 4 else 0) + (if 3 ∈ list then 8 else 0)) := by
    simp [Safety.setOf, List.range_succ, Nat.add_assoc]
  rw [hsum]
  by_cases h0 : 0 ∈ list <;> by_cases h1 : 1 ∈ list <;> by_cases h2 : 2 ∈ list <;> by_cases h3 : 3 ∈ list <;>
    fin_cases p <;> simp [inSet, h0, h1, h2, h3]

/-- The two spellings of the set of a profile list agree (R183). -/
theorem profileSetOf_eq_setOf {list : List Nat} (h : ∀ v ∈ list, v < 4) :
    profileSetOf list = Safety.setOf list := by
  refine BitVec.eq_of_getLsbD_eq fun i hi => ?_
  exact (inSet_profileSetOf h ⟨i, hi⟩).trans (inSet_setOf list ⟨i, hi⟩).symm

/-- What happens to the copies of the profiles of a checked list (R23, R25). -/
theorem mapSet_profileSetOf {list : List Nat} (h : ∀ v ∈ list, v < 4) (copies : Vector ProfileCopies 4)
    (f : ProfileCopies → ProfileCopies) : mapSet copies (profileSetOf list) f =
      Vector.ofFn fun p : Fin 4 => if p.val ∈ list then f copies[p] else copies[p] := by
  unfold mapSet
  simp only [inSet_profileSetOf h, decide_eq_true_eq]

/-- In a list in landing order a new group stands after all that are not further ahead, before all that are (R40). -/
theorem insertGroup_eq {s : State} {list : List CommitGroup} (g : CommitGroup)
    (h : list.Pairwise (InLandingOrder s)) :
    insertGroup s.stream.next g list =
      list.filter (fun x => !decide (x.state = .pending ∧ distance s g < distance s x)) ++ [g] ++
        list.filter fun x => decide (x.state = .pending ∧ distance s g < distance s x) := by
  induction list with
  | nil => rfl
  | cons x list ih =>
    obtain ⟨hx, hlist⟩ := List.pairwise_cons.1 h
    change (if x.state = .pending ∧ distance s g < distance s x then g :: x :: list
      else x :: insertGroup s.stream.next g list) = _
    by_cases hfurther : x.state = .pending ∧ distance s g < distance s x
    · have hall : ∀ y ∈ list, y.state = .pending ∧ distance s g < distance s y := by
        intro y hy
        obtain ⟨hpending, hdist⟩ := hx y hy hfurther.1
        exact ⟨hpending, by omega⟩
      have hnone : list.filter (fun y => !decide (y.state = .pending ∧ distance s g < distance s y)) = [] :=
        List.filter_eq_nil_iff.2 fun y hy => by rw [decide_eq_true (hall y hy)]; decide
      have hkept : list.filter (fun y => decide (y.state = .pending ∧ distance s g < distance s y)) = list :=
        List.filter_eq_self.2 fun y hy => decide_eq_true (hall y hy)
      rw [if_pos hfurther, List.filter_cons_of_neg (by rw [decide_eq_true hfurther]; decide),
        List.filter_cons_of_pos (by exact decide_eq_true hfurther), hnone, hkept]
      rfl
    · rw [if_neg hfurther, ih hlist, List.filter_cons_of_pos (by rw [decide_eq_false hfurther]; rfl),
        List.filter_cons_of_neg (by rw [decide_eq_false hfurther]; decide)]
      rfl

/-- Settles O29: in STOPPED a passing COMMIT with landing NEXT lands at once. -/
theorem commitLandsAtOnceWhenStopped : Obligations.CommitLandsAtOnceWhenStopped := by
  intro s r rest hturn hkind c hpasses hmode hstopped
  have hlist : ∀ v ∈ c.list, v < 4 := by
    obtain ⟨⟨-, -, -, hlist, -⟩, -⟩ := hpasses
    exact hlist
  have howner : commitOwner r (advanceHead s rest) = landAtOnce (advanceHead s rest) c := by
    have hfault : commitFault (advanceHead s rest) c = none := commitFault_of_passes (s := advanceHead s rest) hpasses
    simp only [commitOwner, hfault, c]
    exact if_pos ⟨hmode, hstopped⟩
  have hschedule : activateSchedule s.schedule s.schedule.staged = { s.schedule with
      active := s.schedule.staged, entry := 0, remaining := repeatAt s.schedule.staged 0 } := by
    cases hstaged : s.schedule.staged <;> simp [activateSchedule, restartPosition, scheduleEntryAt, repeatAt, hstaged]
  rw [exec_commit_of_turn hturn hkind, howner]
  simp only [landAtOnce, mapSet_profileSetOf hlist]
  rw [← hschedule]
  rfl

/-- Settles O28: the group stands where the landing order puts it. -/
theorem commitIsListedInLandingOrder : Obligations.CommitIsListedInLandingOrder := by
  intro s r rest hturn hkind horder c hpasses hnot frame g further
  have hlist : ∀ v ∈ c.list, v < 4 := by
    obtain ⟨⟨-, -, -, hlist, -⟩, -⟩ := hpasses
    exact hlist
  have howner : commitOwner r (advanceHead s rest) = acceptCommit (advanceHead s rest) c := by
    have hfault : commitFault (advanceHead s rest) c = none := commitFault_of_passes (s := advanceHead s rest) hpasses
    simp only [commitOwner, hfault, c]
    exact if_neg hnot
  have hschedule : (if c.flag = 1 then { s.schedule with pend := some s.schedule.staged } else s.schedule) =
      { s.schedule with pend := if c.flag = 1 then some s.schedule.staged else s.schedule.pend } := by
    by_cases hflag : c.flag = 1 <;> simp only [hflag, if_true, if_false]
  have hgroup : (⟨c.tag, profileSetOf c.list, c.flag == 1, landingFrame s c, .pending, none⟩ : CommitGroup) = g := by
    rw [profileSetOf_eq_setOf hlist]
    rfl
  rw [exec_commit_of_turn hturn hkind, howner]
  simp only [acceptCommit, mapSet_profileSetOf hlist]
  have hcommits := insertGroup_eq g horder
  rw [← hgroup] at hcommits
  change Host.Outcome.next (answered { s with
    profiles := _, schedule := if c.flag = 1 then { s.schedule with pend := some s.schedule.staged } else s.schedule
    commits := insertGroup s.stream.next ⟨c.tag, profileSetOf c.list, c.flag == 1, landingFrame s c, .pending, none⟩
      s.commits } r rest _) = _
  rw [hschedule, hcommits, hgroup]
  rfl

end Sys2Proof.Laws
end

/-! ### SET_CHANNEL -/

section
set_option Elab.async false
namespace Sys2Proof.Laws

open Sys2Proof Sys2Proof.Machine Sys2Proof.Safety

/-- A source is in its range (TABLE 2-2). -/
theorem inRange_source_iff (v : Nat) : inRange 0x11 v = true ↔ v ≤ 3 := by
  have h : inRange 0x11 v = decide ((0 : Int) ≤ v ∧ (v : Int) ≤ 3) := rfl
  rw [h, decide_eq_true_eq]
  omega

/-- A constant is in its range (TABLE 2-2, R87). -/
theorem inRange_constant_iff (v : Int) : inRange 0x12 v = true ↔ SampleValue v := by
  have h : inRange 0x12 v = decide (SampleValue v) := rfl
  rw [h, decide_eq_true_eq]

/-- A trim_apply is in its range (TABLE 2-2). -/
theorem inRange_trimApply_iff (v : Nat) : inRange 0x13 v = true ↔ v ≤ 1 := by
  have h : inRange 0x13 v = decide ((0 : Int) ≤ v ∧ (v : Int) ≤ 1) := rfl
  rw [h, decide_eq_true_eq]
  omega

/-- The checks of a SET_CHANNEL in their order (R83). -/
theorem channelFault_eq (s : State) (o : ChannelOperands) : channelFault s o =
    if 16 ≤ o.channel then some (.badField, 255)
    else if fitted s ≤ o.channel / 4 then some (.notFitted, o.channel)
    else if ¬ o.source ≤ 3 then some (.range, 0)
    else if ¬ SampleValue o.constant then some (.range, 1)
    else if ¬ o.trimApply ≤ 1 then some (.range, 2)
    else none := by
  have hnot : ∀ {b : Bool} {p : Prop}, (b = true ↔ p) → ((!b) = true ↔ ¬ p) := by
    intro b p h
    rw [Bool.not_eq_true', ← Bool.not_eq_true, h]
  exact if_congr Iff.rfl rfl (if_congr Iff.rfl rfl (if_congr (hnot (inRange_source_iff _)) rfl
    (if_congr (hnot (inRange_constant_iff _)) rfl (if_congr (hnot (inRange_trimApply_iff _)) rfl rfl))))

/-- The entry after an accepted SET_CHANNEL, by the codes of its operands (R83). -/
theorem editChannel_eq_writtenChannel (old : Channel) {o : ChannelOperands} (hsource : o.source ≤ 3)
    (happly : o.trimApply ≤ 1) : editChannel old o = writtenChannel old o.source o.constant o.trimApply := by
  obtain ⟨channel, source, apply, constant⟩ := o
  change source ≤ 3 at hsource
  change apply ≤ 1 at happly
  interval_cases source <;> interval_cases apply <;> rfl

/-- A write changes what a channel delivers (R83). -/
theorem changesDelivery_iff (old new : Channel) : changesDelivery old new = true ↔ DeliveryChanges old new := by
  simp only [changesDelivery, DeliveryChanges, Bool.or_eq_true, Bool.and_eq_true, bne_iff_ne, beq_iff_eq, ne_comm,
    or_assoc]

/-- The machine after an accepted SET_CHANNEL, but for its answer (R83, R91). -/
def channelWritten (s : State) (ch : Fin 16) (new : Channel) : State :=
  { s with
    channels := s.channels.set ch new
    records := if DeliveryChanges s.channels[ch] new then
      damagedRecords s (editedRecord s fun x => x == ch) 0x01 else s.records }

/-- The owner of a SET_CHANNEL without a fault (R83, R91). -/
theorem setChannelOwner_of_no_fault {r : Record} {s : State} {ch : Fin 16}
    (hd : (s.records.map FrameRecord.ref).Nodup) (hch : ch.val = recordNat r 0x08 1)
    (hfault : channelFault s (channelOperands r) = none) :
    setChannelOwner r s = (channelWritten s ch (editChannel s.channels[ch] (channelOperands r)),
      answer .ok 0 (recordNat r 0x08 1)) := by
  have hindex : Fin.ofNat 16 (channelOperands r).channel = ch := by
    rw [show (channelOperands r).channel = ch.val from hch.symm]
    exact Fin.ofNat_val_eq_self ch
  simp only [setChannelOwner, hfault, hindex]
  by_cases hchange : DeliveryChanges s.channels[ch] (editChannel s.channels[ch] (channelOperands r))
  · rw [if_pos ((changesDelivery_iff ..).2 hchange), liveEdit_eq hd, channelWritten, if_pos hchange]
    rfl
  · rw [if_neg (mt (changesDelivery_iff ..).1 hchange), channelWritten, if_neg hchange]
    rfl

/-- In its turn a SET_CHANNEL is taken by its owner and answered (R152). -/
theorem exec_setChannel_of_turn {s : State} {r : Record} {rest : List Record} (hturn : ImmediateTurn s r rest)
    (hkind : HasKind r 0x07) :
    exec .setChannel s = .next (answerImmediate r (setChannelOwner r (advanceHead s rest)).1
      (setChannelOwner r (advanceHead s rest)).2) := by
  have hshort : ¬ LongRecord s r := by
    obtain ⟨hk, -⟩ := hkind
    rintro ⟨-, ⟨hlow, -⟩ | ⟨hstop, -⟩⟩ <;> omega
  exact runImmediate_of_turn setChannelOwner hturn hshort ((ofKind_eq_true_iff kindSetChannel r).2 hkind)

/-- In its turn a SET_CHANNEL with a fault is answered with it and changes nothing (R83). -/
theorem exec_setChannel_of_fault {s : State} {r : Record} {rest : List Record} {status : Status} {detail : Nat}
    (hturn : ImmediateTurn s r rest) (hkind : HasKind r 0x07)
    (hfault : channelFault s (channelOperands r) = some (status, detail)) :
    exec .setChannel s = .next (answered s r rest ⟨status, BitVec.ofNat 8 detail, 0⟩) := by
  have hsame : channelFault (advanceHead s rest) (channelOperands r) = some (status, detail) := hfault
  rw [exec_setChannel_of_turn hturn hkind]
  simp only [setChannelOwner, hsame]
  rfl

/-- Settles O35: the checks in their order, and then the entry with its live edit. -/
theorem setChannelWritesTheEntry : Obligations.SetChannelWritesTheEntry := by
  intro s r rest hturn hkind hdistinct c source apply constant refused
  obtain ⟨hd, -⟩ := hdistinct
  have hunfold : channelFault s (channelOperands r) =
      if 16 ≤ c then some (.badField, 255)
      else if fitted s ≤ c / 4 then some (.notFitted, c)
      else if ¬ source ≤ 3 then some (.range, 0)
      else if ¬ SampleValue constant then some (.range, 1)
      else if ¬ apply ≤ 1 then some (.range, 2)
      else none := channelFault_eq s (channelOperands r)
  refine ⟨fun h1 => ?badField, fun h1 h2 => ?notFitted, fun h1 h2 h3 => ?source, fun h1 h2 h3 h4 => ?constant,
    fun h1 h2 h3 h4 h5 => ?apply, fun ch hch h2 h3 h4 h5 => ?written⟩
  case badField => exact exec_setChannel_of_fault hturn hkind (by rw [hunfold, if_pos h1])
  case notFitted => exact exec_setChannel_of_fault hturn hkind (by rw [hunfold, if_neg (by omega), if_pos h2])
  case source =>
    exact exec_setChannel_of_fault hturn hkind
      (by rw [hunfold, if_neg (by omega), if_neg (by omega), if_pos (by omega)])
  case constant =>
    exact exec_setChannel_of_fault hturn hkind
      (by rw [hunfold, if_neg (by omega), if_neg (by omega), if_neg (by omega), if_pos h4])
  case apply =>
    exact exec_setChannel_of_fault hturn hkind
      (by rw [hunfold, if_neg (by omega), if_neg (by omega), if_neg (by omega), if_neg (not_not.2 h4),
        if_pos (by omega)])
  case written =>
    have hbound : ch.val < 16 := ch.isLt
    have hnone : channelFault (advanceHead s rest) (channelOperands r) = none := by
      change channelFault s (channelOperands r) = none
      rw [hunfold, if_neg (by omega), if_neg (by omega), if_neg (by omega), if_neg (not_not.2 h4),
        if_neg (by omega)]
    have howner := setChannelOwner_of_no_fault (s := advanceHead s rest) hd hch hnone
    rw [editChannel_eq_writtenChannel _ h3 h5] at howner
    rw [exec_setChannel_of_turn hturn hkind, howner]
    rfl

end Sys2Proof.Laws
end

/-! ### Cancellation and STOP END -/

section
set_option Elab.async false
namespace Sys2Proof.Laws

open Sys2Proof Sys2Proof.Machine Sys2Proof.Safety

/-- A change of the records with a reference, as the statements write it. -/
theorem updateRecord_eq (s : State) (ref : Nat) (f : FrameRecord → FrameRecord) : updateRecord s ref f =
    { s with records := s.records.map fun r => if some ref = some r.ref then f r else r } := by
  have hcond : ∀ r : FrameRecord, (if r.ref == ref then f r else r) = if some ref = some r.ref then f r else r := by
    intro r
    by_cases h : r.ref = ref
    · rw [if_pos (beq_iff_eq.2 h), if_pos (by rw [h])]
    · rw [if_neg (mt beq_iff_eq.1 h), if_neg (by simpa using Ne.symm h)]
  simp only [updateRecord, hcond]

/-- The cancellation of the frame in the set-up slot, with its record (R17, R141). -/
theorem cancelSetUp_eq (s : State) : cancelSetUp s =
    { s with stream := cancelledStream s.stream, records := recordsAfterCancel s } := by
  have hstream : ∀ f, s.stream.setUp = some f →
      cancelledStream s.stream = { s.stream with next := f.sequence, setUp := none } := by
    intro f hf
    simp [cancelledStream, hf]
  cases hslot : s.stream.setUp with
  | none =>
    have hkept : cancelledStream s.stream = s.stream := by
      simp only [cancelledStream, hslot, Option.map_none, Option.getD_none]
      rw [← hslot]
    simp only [cancelSetUp, hslot, recordsAfterCancel, hkept]
  | some f =>
    cases f with
    | buffered q ref b =>
      simp only [cancelSetUp, cancelRecord, enterReportWait, updateRecord_eq, hslot, recordsAfterCancel,
        cancelledRecords, hstream _ hslot, recordOf, SlotFrame.sequence]
    | dropped q p b reason =>
      simp [cancelSetUp, hslot, recordsAfterCancel, cancelledRecords, hstream _ hslot, recordOf]

/-- A STOP whose manner is END (TABLE 11-6). -/
theorem stopMannerEnd_iff (r : Record) : stopMannerEnd r = true ↔ recordNat r 0x08 1 = 0 :=
  (toNat_eq_zero_iff_beq (recordField r 0x08 1)).symm

/-- A STOP whose manner is ABORT (TABLE 11-6). -/
theorem stopMannerAbort_iff (r : Record) : stopMannerAbort r = true ↔ recordNat r 0x08 1 = 1 := by
  unfold stopMannerAbort recordNat
  rw [beq_iff_eq, ← BitVec.toNat_inj]
  rfl

/-- A STOP is long exactly when it is a STOP END in RUNNING (R14, R151). -/
theorem longRecord_of_stop {s : State} {r : Record} (hkind : HasKind r 0x06) :
    LongRecord s r ↔ recordNat r 0x08 1 = 0 ∧ s.stream.state = .running := by
  obtain ⟨hk, hflags⟩ := hkind
  constructor
  · rintro ⟨-, ⟨hlow, -⟩ | ⟨-, hmanner, hstate⟩⟩
    · omega
    · exact ⟨hmanner, hstate⟩
  · rintro ⟨hmanner, hstate⟩
    exact ⟨hflags, .inr ⟨hk, hmanner, hstate⟩⟩

/-- A STOP END in RUNNING is taken into the pending list (R14, R153). -/
theorem exec_stopEnd_of_running {s : State} {r : Record} {rest : List Record} (hkind : HasKind r 0x06)
    (hturn : LongTurn s r rest) (hmanner : recordNat r 0x08 1 = 0) (hstate : s.stream.state = .running) :
    exec .stopEnd s = .next (enterList r (beginDraining (advanceHead s rest)) .stopEnd none) := by
  have hlong := (longRecord_of_stop hkind).2 ⟨hmanner, hstate⟩
  have htest : (ofKind kindStop r && stopMannerEnd r) = true := by
    rw [Bool.and_eq_true]
    exact ⟨(ofKind_eq_true_iff kindStop r).2 hkind, (stopMannerEnd_iff r).2 hmanner⟩
  have htake : takeLong s (fun r => ofKind kindStop r && stopMannerEnd r) = some (r, advanceHead s rest) :=
    (takeLong_eq_some_iff ..).2
      ⟨rest, hturn, htest, Bool.eq_false_iff.2 fun hi => (isImmediate_iff s r).1 hi hlong, rfl⟩
  have hrun := runLong_of_turn (test := fun r => ofKind kindStop r && stopMannerEnd r) stopEndLongOwner hturn hlong htest
  simp only [exec, execStopEnd, htake]
  exact hrun

/-- Any other STOP that is no ABORT is an immediate request, in its turn (R14, R151; log 17). -/
theorem exec_stopEnd_of_immediate {s : State} {r : Record} {rest : List Record} (hkind : HasKind r 0x06)
    (hturn : ImmediateTurn s r rest) (hmanner : recordNat r 0x08 1 ≠ 1)
    (hshort : ¬ (recordNat r 0x08 1 = 0 ∧ s.stream.state = .running)) :
    exec .stopEnd s = .next (answerImmediate r (stopEndImmediateOwner r (advanceHead s rest)).1
      (stopEndImmediateOwner r (advanceHead s rest)).2) := by
  have himm := mt (longRecord_of_stop (s := s) hkind).1 hshort
  have htake : takeLong s (fun r => ofKind kindStop r && stopMannerEnd r) = none := by
    cases htake : takeLong s (fun r => ofKind kindStop r && stopMannerEnd r) with
    | none => rfl
    | some x =>
      obtain ⟨more, ⟨-, -, hintake⟩, -, hchar, -⟩ := (takeLong_eq_some_iff s _ x.1 x.2).1 htake
      obtain ⟨-, -, -, hhead⟩ := hturn
      obtain ⟨rfl, -⟩ := List.cons.inj (hintake.symm.trans hhead)
      exact absurd ((isImmediate_iff s x.1).2 himm) (by rw [hchar]; decide)
  have htest : (ofKind kindStop r && !stopMannerAbort r) = true := by
    rw [Bool.and_eq_true, Bool.not_eq_true', ← Bool.not_eq_true, stopMannerAbort_iff]
    exact ⟨(ofKind_eq_true_iff kindStop r).2 hkind, hmanner⟩
  have hrun := runImmediate_of_turn (test := fun r => ofKind kindStop r && !stopMannerAbort r)
    stopEndImmediateOwner hturn himm htest
  simp only [exec, execStopEnd, htake]
  exact hrun

/-- Settles O33: long in RUNNING, and otherwise immediate by the stream state. -/
theorem stopEndActsByTheStreamState : Obligations.StopEndActsByTheStreamState := by
  intro s r rest hkind manner done
  refine ⟨fun hturn hmanner hstate => ?running, fun hturn => ?immediate⟩
  case running =>
    rw [exec_stopEnd_of_running hkind hturn hmanner hstate, beginDraining, cancelSetUp_eq]
    rfl
  case immediate =>
    have hend : manner = 0 → stopMannerEnd r = true := (stopMannerEnd_iff r).2
    refine ⟨fun hm hs => ?waiting, fun hm hs => ?draining, fun hm hs => ?stopped, fun hm => ?neither⟩
    case waiting =>
      have howner : stopEndImmediateOwner r (advanceHead s rest) =
          (useFree (stopWaiting (advanceHead s rest)), freeAnswer (advanceHead s rest) .ok) := by
        have hstate : (advanceHead s rest).stream.state = .waiting := hs
        simp only [stopEndImmediateOwner, hend hm, hstate, Bool.not_true, Bool.false_eq_true, if_false]
      refine ⟨Config.freeDetail s.freeCount, Config.freeAux s.freeCount, ?_⟩
      rw [exec_stopEnd_of_immediate hkind hturn (by change manner ≠ 1; omega) (by simp [hs]), howner,
        stopWaiting, cancelSetUp_eq]
      rfl
    case draining =>
      have howner : stopEndImmediateOwner r (advanceHead s rest) =
          (useFree (advanceHead s rest), freeAnswer (advanceHead s rest) .busy) := by
        have hstate : (advanceHead s rest).stream.state = .draining := hs
        simp only [stopEndImmediateOwner, hend hm, hstate, Bool.not_true, Bool.false_eq_true, if_false]
      refine ⟨Config.freeDetail s.freeCount, Config.freeAux s.freeCount, ?_⟩
      rw [exec_stopEnd_of_immediate hkind hturn (by change manner ≠ 1; omega) (by simp [hs]), howner]
      rfl
    case stopped =>
      have howner : stopEndImmediateOwner r (advanceHead s rest) =
          (useFree (advanceHead s rest), freeAnswer (advanceHead s rest) .ok) := by
        have hstate : (advanceHead s rest).stream.state = .stopped := hs
        simp only [stopEndImmediateOwner, hend hm, hstate, Bool.not_true, Bool.false_eq_true, if_false]
      refine ⟨Config.freeDetail s.freeCount, Config.freeAux s.freeCount, ?_⟩
      rw [exec_stopEnd_of_immediate hkind hturn (by change manner ≠ 1; omega) (by simp [hs]), howner]
      rfl
    case neither =>
      have hnot : stopMannerEnd r = false := by
        rw [← Bool.not_eq_true, stopMannerEnd_iff]
        change ¬ manner = 0
        omega
      have howner : stopEndImmediateOwner r (advanceHead s rest) =
          (useFree (advanceHead s rest), freeAnswer (advanceHead s rest) .badField) := by
        simp only [stopEndImmediateOwner, hnot, Bool.not_false, if_true]
      refine ⟨Config.freeDetail s.freeCount, Config.freeAux s.freeCount, ?_⟩
      rw [exec_stopEnd_of_immediate hkind hturn (by change manner ≠ 1; omega)
        (fun h => by have h0 : manner = 0 := h.1; omega), howner]
      rfl

end Sys2Proof.Laws
end

/-! ### Buffers -/

section
set_option Elab.async false
namespace Sys2Proof.Laws

open Sys2Proof Sys2Proof.Machine Sys2Proof.Safety

/-- A RECLAIM has returned everything (R144). -/
theorem reclaimDone_iff (s : State) (r : Reclaim) : reclaimDone s r = true ↔ AllReturned s.buffers r.target := by
  simp only [reclaimDone, AllReturned, Bool.and_eq_true, List.isEmpty_iff, Option.isNone_iff_eq_none, beq_iff_eq,
    and_assoc]

/-- A RECLAIM with something left goes on (R144). -/
theorem finishReclaim_of_not {s : State} (h : ∀ x ∈ s.buffers.reclaim, ¬ AllReturned s.buffers x.target) :
    finishReclaim s = s := by
  unfold finishReclaim
  cases hr : s.buffers.reclaim with
  | none => rfl
  | some x => exact if_neg (mt (reclaimDone_iff s x).1 (h x hr))

/-- A RECLAIM that has returned everything completes (R144). -/
theorem finishReclaim_of_done {s : State} {x : Reclaim} (hr : s.buffers.reclaim = some x)
    (h : AllReturned s.buffers x.target) : finishReclaim s = { s with
      buffers := { s.buffers with reclaim := none }
      requests := { s.requests with entries := answeredWork s .reclaim (answer .ok 0 x.returned) } } := by
  unfold finishReclaim
  rw [hr]
  exact if_pos ((reclaimDone_iff s x).2 h)

/-- In its turn a RECLAIM is taken by its owner into the pending list (R153). -/
theorem exec_reclaim_of_turn {s : State} {r : Record} {rest : List Record} (hturn : LongTurn s r rest)
    (hkind : HasKind r 0x0C) {state : State} {work : LongWork} {a : Option Answer}
    (howner : reclaimOwner r (advanceHead s rest) = ⟨state, work, a⟩) :
    exec .reclaim s = .next (enterList r state work a) := by
  have hrun := runLong_of_turn reclaimOwner hturn (longRecord_of_kind hkind (by decide) (by decide))
    ((ofKind_eq_true_iff kindReclaim r).2 hkind)
  rw [howner] at hrun
  exact hrun

/-- The entry of the RECLAIM in progress is the first that waits, while no entry before it does (R144, R157). -/
theorem waitingEntry_eq_some {s : State} {i : Nat} {e : PendingEntry} (he : s.requests.entries[i]? = some e)
    (hwaits : ¬ EntryQuiet s e) (hbefore : ∀ y ∈ s.requests.entries.take i, EntryQuiet s y) :
    waitingEntry s = some i := by
  obtain ⟨hi, hget⟩ := List.getElem?_eq_some_iff.1 he
  unfold waitingEntry
  rw [List.findIdx?_eq_some_iff_getElem]
  refine ⟨hi, (entryWaits_iff s _).2 (hget ▸ hwaits), fun j hj => ?_⟩
  rw [entryWaits_iff, not_not]
  refine hbefore _ (List.mem_take_iff_getElem.2 ⟨j, ?_, rfl⟩)
  omega

/-- No group waits for its report (R52). -/
theorem waitingGroup_eq_none {s : State} (h : ∀ g ∈ s.commits, g.state ≠ .landedUnreported) : waitingGroup s = none := by
  unfold waitingGroup
  rw [List.find?_eq_none]
  exact fun g hg => by simpa using h g hg

/-- No port waits for its report (R81). -/
theorem waitingPort_eq_none {s : State} (h : ∀ p : Fin 4, PortQuiet s.ports[p]) : waitingPort s = none := by
  unfold waitingPort
  rw [List.find?_eq_none]
  exact fun p _ => by rw [portWaits_iff, not_not]; exact h p

/-- With the other producers quiet the arbiter grants the first waiting entry (R157, R168). -/
theorem grant_of_waitingEntry {s : State} {i : Nat} (hgrant : GrantPossible s) (hquiet : ProducersQuiet s)
    (hentry : waitingEntry s = some i) : grant s = some (.long i) := by
  refine (grant_eq_some_iff s _).2 ⟨hgrant, ?_⟩
  obtain ⟨hrecords, hgroups, hports, hlatch, hsummary⟩ := hquiet
  simp only [firstWaiter, waitingRecord_eq_none hrecords, waitingGroup_eq_none hgroups, waitingPort_eq_none hports,
    hlatch, hsummary, Option.isSome_none, Bool.false_eq_true, if_false, hentry]

/-- The grant of the RECLAIM in progress returns the head of the buffer list (R144). -/
theorem exec_reclaimedReturn_of_grant {s : State} {i : Nat} {e : PendingEntry} {d : Descriptor} {ds : List Descriptor}
    {x : Reclaim} (hgrant : grant s = some (.long i)) (he : s.requests.entries[i]? = some e) (hopen : e.answer = none)
    (hx : s.buffers.reclaim = some x) (hlist : s.buffers.list = d :: ds) :
    exec .reclaimedReturn s = .next (finishReclaim (place
      { s with buffers := { s.buffers with list := ds, reclaim := some (countReturn x) } }
      (.bufferReturned d.tag .reclaimed))) := by
  have hserves : grantsReclaim s i = true := by simp [grantsReclaim, he, PendingEntry.ready, hopen]
  simp only [exec, execReclaimedReturn, hgrant, hlist, hx, hserves, if_true]

/-- Settles O41: the owner of a RECLAIM by its checks, and each grant's return. -/
theorem reclaimReturnsWhatIsHeld : Obligations.ReclaimReturnsWhatIsHeld := by
  refine ⟨?taking, ?grant⟩
  case taking =>
    intro s r rest hturn hkind target
    refine ⟨fun hs => ?running, fun hs hr => ?busy, fun hs hr hall => ?done, fun hs hr hall => ?begun⟩
    case running => exact exec_reclaim_of_turn hturn hkind (if_pos hs)
    case busy =>
      refine exec_reclaim_of_turn hturn hkind ((if_neg (not_not.2 hs)).trans (if_pos ?_))
      exact Option.isSome_iff_ne_none.2 hr
    case done =>
      have hfree : ¬ (s.buffers.reclaim.isSome = true) := by simp [hr]
      have hrun := exec_reclaim_of_turn hturn hkind
        ((if_neg (not_not.2 hs)).trans ((if_neg hfree).trans (if_pos ((reclaimDone_iff _ _).2 hall))))
      rw [hrun]
      simp only [← hr]
      rfl
    case begun =>
      have hfree : ¬ (s.buffers.reclaim.isSome = true) := by simp [hr]
      refine exec_reclaim_of_turn hturn hkind ((if_neg (not_not.2 hs)).trans ((if_neg hfree).trans (if_neg ?_)))
      exact mt (reclaimDone_iff _ _).1 hall
  case grant =>
    intro s i e d ds x hgrant hquiet he hwork hopen hx hlist hbefore b a
    have hwaits : ¬ EntryQuiet s e := by
      rintro ⟨-, hnone⟩
      rcases hnone hwork with h | h
      · exact absurd (hx.symm.trans h) nofun
      · exact absurd (hlist.symm.trans h) nofun
    have hserved := grant_of_waitingEntry hgrant hquiet (waitingEntry_eq_some he hwaits hbefore)
    rw [exec_reclaimedReturn_of_grant hserved he hopen hx hlist]
    refine ⟨fun hall => ?_, fun hall => ?_⟩
    · rw [finishReclaim_of_not]
      · rfl
      · rintro y hy
        obtain rfl := Option.some.inj hy
        exact hall
    · rw [finishReclaim_of_done (x := countReturn x) rfl hall]
      rfl

/-- A descriptor meets R130. -/
theorem descriptorValid_iff (d : Descriptor) : descriptorValid d = true ↔ GoodDescriptor d := decide_eq_true_iff

/-- An ordinary descriptor fetch is due when R129 says so. -/
theorem ordinaryFetchDue_iff {s : State} (h : 0 < bufferSize s) : ordinaryFetchDue s = true ↔ OrdinaryFetchDue s := by
  simp only [ordinaryFetchDue, OrdinaryFetchDue, Bool.and_eq_true, isEnabled_iff, Bool.not_eq_true',
    Option.isNone_iff_eq_none, decide_eq_true_eq, and_assoc, ringDist_pos_iff _ _ h]

/-- A descriptor fetch under RECLAIM is due when R144 says so. -/
theorem reclaimFetchDue_iff (s : State) : reclaimFetchDue s = true ↔ ReclaimFetchDue s := by
  unfold reclaimFetchDue ReclaimFetchDue
  cases s.buffers.reclaim with
  | none => simp
  | some r =>
    simp only [Bool.and_eq_true, isEnabled_iff, Option.isNone_iff_eq_none, decide_eq_true_eq, Option.mem_some_iff,
      exists_eq_left']
    tauto

/-- A descriptor that comes in good order is taken, and may be the last of a RECLAIM (R130, R144). -/
theorem exec_descriptorFetchDone {s : State} {f : DescriptorFetch} {a : ReadAnswer 128}
    (hdev : s.window.device = .enabled) (hf : s.buffers.fetch = some f) (htracked : a.tracked = true)
    (hok : ¬ ReadFails a) : exec (.descriptorFetchDone a) s = .next (finishReclaim
      { s with buffers := takeDescriptor s.buffers f.forReclaim (descriptorOf a.data) }) := by
  simp only [exec, execDescriptorFetchDone, isEnabled_of hdev, htracked, Bool.and_self, hf,
    (readFailed_eq_false_iff a).2 hok, Bool.false_eq_true, if_false]

/-- Settles O42: the issues of R129 and R144, and the three ends of a fetch. -/
theorem descriptorsAreFetchedAndValidated : Obligations.DescriptorsAreFetchedAndValidated := by
  constructor
  · intro s hsize issued
    refine ⟨fun h => ?_, fun h h' => ?_, fun h h' => ?_⟩
    · simp only [exec, execDescriptorFetchIssue, (reclaimFetchDue_iff s).2 h, if_true]
      rfl
    · have hnone : ¬ reclaimFetchDue s = true := mt (reclaimFetchDue_iff s).1 h
      simp only [exec, execDescriptorFetchIssue, hnone, (ordinaryFetchDue_iff hsize).2 h', if_true]
      rfl
    · have hnone : ¬ reclaimFetchDue s = true := mt (reclaimFetchDue_iff s).1 h
      have hnone' : ¬ ordinaryFetchDue s = true := mt (ordinaryFetchDue_iff hsize).1 h'
      simp only [exec, execDescriptorFetchIssue, hnone, hnone']
      rfl
  intro s f a hdev hf htracked hok d latched
  have hlatch : f.forReclaim = false → ¬ GoodDescriptor d →
      takeDescriptor s.buffers f.forReclaim (descriptorOf a.data) = latched := by
    intro hnot hbad
    refine if_neg ?_
    rw [Bool.or_eq_true, hnot]
    rintro (h | h)
    · exact absurd h (by decide)
    · exact hbad ((descriptorValid_iff d).1 h)
  refine ⟨fun hgood => ?joins, fun hnot hbad hleft => ?latched, ?last⟩
  case joins =>
    have htake : takeDescriptor s.buffers f.forReclaim (descriptorOf a.data) =
        { s.buffers with fetch := none, list := s.buffers.list ++ [d] } := by
      refine if_pos ?_
      rw [Bool.or_eq_true]
      exact hgood.imp_right (descriptorValid_iff d).2
    rw [exec_descriptorFetchDone hdev hf htracked hok, htake, finishReclaim_of_not]
    rintro x - ⟨hempty, -⟩
    exact absurd hempty (by simp)
  case latched =>
    rw [exec_descriptorFetchDone hdev hf htracked hok, hlatch hnot hbad, finishReclaim_of_not hleft]
  case last =>
    intro hnot hbad x hx hall answer
    rw [exec_descriptorFetchDone hdev hf htracked hok, hlatch hnot hbad,
      finishReclaim_of_done (s := { s with buffers := latched }) hx hall]
    rfl

end Sys2Proof.Laws
end

/-! ### Payload bursts and completion ring writes -/

section
set_option Elab.async false
namespace Sys2Proof.Laws

open Sys2Proof Sys2Proof.Machine Sys2Proof.Safety

/-- The burst from the oldest unissued bytes, once they reach the next multiple of 256 or the capture has ended
(R120). -/
theorem nextBurst_of_due {s : State} {first : StagedByte} {more : List StagedByte} {x : FrameRecord}
    (hbytes : s.coder.unissued = first :: more) (hfind : findRecord s first.ref = some x)
    (hdue : 256 - (x.descriptor.address + BitVec.ofNat 64 first.offset).toNat % 256 ≤
      (s.coder.unissued.takeWhile fun b => b.ref == first.ref).length ∨ x.phase ≠ .opened) :
    nextBurst s =
      let address := x.descriptor.address + BitVec.ofNat 64 first.offset
      let taken := (s.coder.unissued.takeWhile fun b => b.ref == first.ref).take (256 - address.toNat % 256)
      some (⟨first.ref, address, first.offset, taken.map StagedByte.value⟩, s.coder.unissued.drop taken.length) := by
  rw [hbytes] at hdue
  simp only [nextBurst, hbytes, hfind]
  exact if_pos hdue

/-- No burst is due before (R120). -/
theorem nextBurst_of_not_due {s : State} {first : StagedByte} {more : List StagedByte} {x : FrameRecord}
    (hbytes : s.coder.unissued = first :: more) (hfind : findRecord s first.ref = some x)
    (hdue : ¬ (256 - (x.descriptor.address + BitVec.ofNat 64 first.offset).toNat % 256 ≤
      (s.coder.unissued.takeWhile fun b => b.ref == first.ref).length ∨ x.phase ≠ .opened)) :
    nextBurst s = none := by
  rw [hbytes] at hdue
  simp only [nextBurst, hbytes, hfind]
  exact if_neg hdue

/-- The first bytes of the run at the front of a list are those of the list. -/
theorem take_takeWhile_eq_take {α : Type} (p : α → Bool) (l : List α) (n : Nat) :
    (l.takeWhile p).take n = l.take (min n (l.takeWhile p).length) := by
  have hrun : l.takeWhile p = l.take (l.takeWhile p).length := List.prefix_iff_eq_take.1 (List.takeWhile_prefix p)
  conv_lhs => rw [hrun, List.take_take]

/-- Settles O43: the burst that the model forms is that of R120. -/
theorem payloadBurstsStopAtMultiplesOf256 : Obligations.PayloadBurstsStopAtMultiplesOf256 := by
  intro s first more x hdev hbytes hx href hdistinct address room run n
  obtain ⟨hd, -⟩ := hdistinct
  have hfind : findRecord s first.ref = some x := href ▸ findRecord_of_mem hd hx
  refine ⟨fun hshort hopen => ?_, fun hdue => ?_⟩
  · have hnone : nextBurst s = none := nextBurst_of_not_due hbytes hfind (by
      rintro (h | h)
      · exact absurd hshort (Nat.not_lt.2 h)
      · exact h hopen)
    simp only [exec, execPayloadBurstIssue, isEnabled_of hdev, hnone]
  · have hburst := nextBurst_of_due hbytes hfind hdue
    have htaken : run.take room = s.coder.unissued.take n := take_takeWhile_eq_take _ _ room
    have hlength : (run.take room).length = n := List.length_take
    simp only [exec, execPayloadBurstIssue, isEnabled_of hdev, hburst]
    change Host.Outcome.next { s with coder := { s.coder with
      unissued := s.coder.unissued.drop (run.take room).length
      bursts := s.coder.bursts ++
        [(⟨first.ref, address, first.offset, (run.take room).map StagedByte.value⟩ : PayloadBurst)] } } = _
    rw [hlength, htaken, href]

/-- The ring has room for one more completion (R166). -/
theorem ringHasRoom_iff {s : State} (h : 0 < completionSize s) : ringHasRoom s = true ↔
    modDiff (completionSize s) s.completions.tail s.window.cpHead.toNat < completionSize s - 1 := by
  rw [ringHasRoom, decide_eq_true_eq, ← ringDist_eq_modDiff _ _ h, postedCount]
  omega

/-- The machine once the queue's head has been posted (R166). -/
theorem postHead_eq {s : State} {c : Completion} {rest : List Completion} (h : s.completions.holding = c :: rest) :
    postHead s = { s with completions := { s.completions with
      holding := rest, write := none
      tail := if ¬ s.completions.tail + 1 < completionSize s then 0 else s.completions.tail + 1
      phase := if ¬ s.completions.tail + 1 < completionSize s then !s.completions.phase
        else s.completions.phase } } := by
  by_cases hroom : s.completions.tail + 1 < completionSize s <;> simp [postHead, h, ringNext, hroom]

/-- A completion ring write that succeeds posts the queue's head (R166, R172). -/
theorem exec_completionWriteDone_of_success {s : State} {a : WriteAnswer} (hdev : s.window.device = .enabled)
    (hwrite : s.completions.write ≠ none) (htracked : a.tracked = true) (hok : ¬ WriteFails a) :
    exec (.completionWriteDone a) s = .next (noticeAtPosting (postHead s) (postedCount (postHead s))) := by
  obtain ⟨w, hw⟩ := Option.ne_none_iff_exists'.1 hwrite
  simp only [exec, execCompletionWriteDone, isEnabled_of hdev, htracked, Bool.and_self, hw,
    (writeFailed_eq_false_iff a).2 hok, Bool.false_eq_true, if_false]

/-- Settles O45: the issue, the posting with its table, and the expiry. -/
theorem completionsArePostedInOrder : Obligations.CompletionsArePostedInOrder := by
  refine ⟨?issue, ?posting, fun s => ⟨fun h => ?_, fun h => ?_⟩⟩
  case issue =>
    intro s c rest hsize hholding n due
    have hdue : (isEnabled s && s.completions.write.isNone && ringHasRoom s) = true ↔ due := by
      rw [Bool.and_eq_true, Bool.and_eq_true, isEnabled_iff, Option.isNone_iff_eq_none, ringHasRoom_iff hsize,
        and_assoc]
    refine ⟨fun h => ?_, fun h => ?_⟩
    · simp only [exec, execCompletionWriteIssue, hholding, hdue.2 h, if_true]
      rfl
    · simp only [exec, execCompletionWriteIssue, hholding]
      exact if_neg (mt hdue.1 h)
  case posting =>
    intro s a c rest hsize hdev hwrite hholding htracked hok n wraps tail count threshold u
    have hpost : postHead s = { s with completions := u } := postHead_eq hholding
    have hcount : (postedCount { s with completions := u } : Int) = count := ringDist_eq_modDiff _ _ hsize
    have hrun := exec_completionWriteDone_of_success hdev hwrite htracked hok
    rw [hpost] at hrun
    rw [hrun]
    refine ⟨fun hnotice => ?_, fun hnotice hreached => ?_, fun hnotice hbelow htimer => ?_,
      fun hnotice hbelow htimer => ?_⟩
    · exact congrArg _ (if_pos hnotice)
    · have hlow : ¬ (u.notice = true) := by rw [hnotice]; decide
      have hmeets : threshold ≤ postedCount { s with completions := u } := by omega
      exact congrArg _ ((if_neg hlow).trans (if_pos hmeets))
    · have hlow : ¬ (u.notice = true) := by rw [hnotice]; decide
      have hmisses : ¬ threshold ≤ postedCount { s with completions := u } := by omega
      obtain ⟨k, hk⟩ := Option.ne_none_iff_exists'.1 htimer
      refine congrArg _ ((if_neg hlow).trans ((if_neg hmisses).trans ?_))
      simp only [u, hk]
    · have hlow : ¬ (u.notice = true) := by rw [hnotice]; decide
      have hmisses : ¬ threshold ≤ postedCount { s with completions := u } := by omega
      refine congrArg _ ((if_neg hlow).trans ((if_neg hmisses).trans ?_))
      simp only [u, htimer]
      rfl
  · simp only [exec, execNoticeTimerExpiry, h]
  · dsimp only [exec]
    unfold execNoticeTimerExpiry
    split
    · rename_i h'
      exact absurd h' h
    · rfl

end Sys2Proof.Laws
end

/-! ### The arbiter -/

section
set_option Elab.async false
namespace Sys2Proof.Laws

open Sys2Proof Sys2Proof.Machine Sys2Proof.Safety

/-- Record x is offered before y, their numbers being counted from a base: by number, then by turn (R139). -/
def Offered (base : Word) (x y : FrameRecord) : Prop :=
  (x.sequence - base).toNat ≤ (y.sequence - base).toNat ∧ (x.sequence = y.sequence → x.turn ≤ y.turn)

/-- Numbers less than half the circle from a base compare as their distances from it (0.7). -/
theorem atOrAhead_from_base {a b base : Word} (ha : (a - base).toNat < 2 ^ 31) (hb : (b - base).toNat < 2 ^ 31) :
    atOrAhead a b = true ↔ (b - base).toNat ≤ (a - base).toNat := by
  rw [atOrAhead_iff]
  bv_omega

/-- Distances from a base determine the number. -/
theorem sequence_eq_of_distance {a b base : Word} (h : (a - base).toNat = (b - base).toNat) : a = b := by
  bv_omega

/-- What stands before stands before what is further behind. -/
theorem Offered.trans {base : Word} {x y z : FrameRecord} (hxy : Offered base x y) (hyz : Offered base y z) :
    Offered base x z := by
  obtain ⟨hseq, hturn⟩ := hxy
  obtain ⟨hseq', hturn'⟩ := hyz
  refine ⟨hseq.trans hseq', fun hsame => ?_⟩
  have hmiddle : x.sequence = y.sequence := sequence_eq_of_distance (base := base) (by rw [← hsame] at hseq'; omega)
  exact (hturn hmiddle).trans (hturn' (hmiddle.symm.trans hsame))

theorem Offered.refl (base : Word) (x : FrameRecord) : Offered base x x := ⟨le_refl _, fun _ => le_refl _⟩

/-- The record that is offered of two stands before both (R139). -/
theorem offered_firstOffered {base : Word} {best r : FrameRecord} (hbest : (best.sequence - base).toNat < 2 ^ 31)
    (hr : (r.sequence - base).toNat < 2 ^ 31) :
    Offered base (firstOffered best r) best ∧ Offered base (firstOffered best r) r := by
  rcases firstOffered_cases best r with ⟨hchosen, hwhy⟩ | ⟨hchosen, hwhy⟩ <;> rw [hchosen]
  · refine ⟨.refl .., ?_⟩
    rcases hwhy with ⟨hsame, hturn⟩ | ⟨hne, hahead⟩
    · exact ⟨by rw [hsame], fun _ => hturn⟩
    · exact ⟨(atOrAhead_from_base hr hbest).1 hahead, fun h => absurd h.symm hne⟩
  · refine ⟨?_, .refl ..⟩
    rcases hwhy with ⟨hsame, hturn⟩ | ⟨hne, hbehind⟩
    · exact ⟨by rw [hsame], fun _ => hturn.le⟩
    · have hnot := mt (atOrAhead_from_base hr hbest).2 (by rw [hbehind]; decide)
      exact ⟨by omega, fun h => absurd h hne⟩

/-- The record offered of a list stands before all of them (R139). -/
theorem offered_foldl_firstOffered {base : Word} (l : List FrameRecord) (best : FrameRecord)
    (h : ∀ x ∈ best :: l, (x.sequence - base).toNat < 2 ^ 31) :
    ∀ x ∈ best :: l, Offered base (l.foldl firstOffered best) x := by
  induction l generalizing best with
  | nil =>
    intro x hx
    rw [List.mem_singleton.1 hx]
    exact .refl ..
  | cons r l ih =>
    have hbest := h best List.mem_cons_self
    have hr := h r (List.mem_cons_of_mem _ List.mem_cons_self)
    obtain ⟨hfirst, hsecond⟩ := offered_firstOffered hbest hr
    have hchosen : ((firstOffered best r).sequence - base).toNat < 2 ^ 31 := lt_of_le_of_lt hfirst.1 hbest
    have hrest := ih (firstOffered best r) (by
      intro x hx
      rcases List.mem_cons.1 hx with rfl | hx
      · exact hchosen
      · exact h x (List.mem_cons_of_mem _ (List.mem_cons_of_mem _ hx)))
    have hhead := hrest _ List.mem_cons_self
    intro x hx
    rcases List.mem_cons.1 hx with rfl | hx
    · exact hhead.trans hfirst
    · rcases List.mem_cons.1 hx with rfl | hx
      · exact hhead.trans hsecond
      · exact hrest x (List.mem_cons_of_mem _ hx)

/-- The record that is offered stands before every waiting record (R139). -/
theorem waitingRecord_offered {s : State} {base : Word} (hbase : ∀ r ∈ s.records, (r.sequence - base).toNat < 2 ^ 31)
    (h : ∃ r ∈ s.records, r.phase = .reportWait) :
    ∃ r, waitingRecord s = some r ∧ r ∈ s.records ∧ r.phase = .reportWait ∧
      ∀ x ∈ s.records, x.phase = .reportWait → Offered base r x := by
  obtain ⟨r₀, hr₀, hwait₀⟩ := h
  have hfilter : ∀ x, x ∈ (s.records.filter fun r => r.phase == .reportWait) ↔
      x ∈ s.records ∧ x.phase = .reportWait := fun x => by simp [List.mem_filter]
  cases hlist : s.records.filter fun r => r.phase == .reportWait with
  | nil =>
    have hmem := (hfilter r₀).2 ⟨hr₀, hwait₀⟩
    rw [hlist] at hmem
    exact absurd hmem (List.not_mem_nil)
  | cons b l =>
    have hwaiting : waitingRecord s = some (l.foldl firstOffered b) := by rw [waitingRecord, hlist]
    obtain ⟨hmem, hwait⟩ := waitingRecord_mem hwaiting
    refine ⟨_, hwaiting, hmem, hwait, fun x hx hxwait => ?_⟩
    refine offered_foldl_firstOffered l b (fun y hy => hbase y ?_) x ?_
    · exact ((hfilter y).1 (hlist ▸ hy)).1
    · exact hlist ▸ (hfilter x).2 ⟨hx, hxwait⟩

/-- The lowest waiting port is found (R81). -/
theorem waitingPort_eq_some {s : State} {p : Fin 4} (hp : ¬ PortQuiet s.ports[p])
    (hbelow : ∀ q : Fin 4, q < p → PortQuiet s.ports[q]) : waitingPort s = some p := by
  have hwaits : s.ports[p].waits = true := (portWaits_iff _).2 hp
  have hquiet : ∀ q : Fin 4, q < p → s.ports[q].waits = false := fun q hq =>
    Bool.eq_false_iff.2 fun h => (portWaits_iff _).1 h (hbelow q hq)
  have hfin : allPorts = List.finRange 4 := by decide
  unfold waitingPort
  rw [hfin]
  refine List.find?_eq_some_iff_getElem.2 ⟨hwaits, p.val, by simp, by simp, fun j hj => ?_⟩
  simpa using hquiet ⟨j, by omega⟩ hj

/-- No pending-list entry waits (R157). -/
theorem waitingEntry_eq_none {s : State} (h : ∀ e ∈ s.requests.entries, EntryQuiet s e) : waitingEntry s = none := by
  unfold waitingEntry
  rw [List.findIdx?_eq_none_iff]
  exact fun e he => Bool.eq_false_iff.2 fun hw => (entryWaits_iff s e).1 hw (h e he)

/-- Settles O46: the first waiter line by line of TABLE 10-3. -/
theorem arbiterGrantsInOrder : Obligations.ArbiterGrantsInOrder := by
  intro s base hbase
  refine ⟨grant_eq_none_of_not_possible, fun hgrant => ?_⟩
  have hfirst : grant s = firstWaiter s := by
    cases hw : firstWaiter s with
    | some w => exact (grant_eq_some_iff s w).2 ⟨hgrant, hw⟩
    | none =>
      cases hg : grant s with
      | none => rfl
      | some w => exact absurd (((grant_eq_some_iff s w).1 hg).2.symm.trans hw) nofun
  rw [hfirst]
  refine ⟨fun hwait => ?records, fun hrecords => ⟨fun hwait => ?groups, fun hgroups => ⟨fun p hp hbelow => ?ports,
    fun hports => ⟨fun hlatch => ?latch, fun hlatch hsummary => ?summary, fun hlatch hsummary =>
      ⟨fun i hi he hbefore => ?entry, fun hentries => ⟨fun hintake => ?empty, fun r rest hintake =>
        ⟨fun hlong => ?long, fun hshort => ?immediate⟩⟩⟩⟩⟩⟩⟩
  case records =>
    obtain ⟨r, hr, hmem, hphase, hoffered⟩ := waitingRecord_offered hbase hwait
    exact ⟨r, hmem, hphase, by simp only [firstWaiter, hr], hoffered⟩
  case groups =>
    obtain ⟨g, hg, hlanded⟩ := hwait
    obtain ⟨x, hx⟩ := Option.isSome_iff_exists.1
      ((List.find?_isSome (p := fun g : CommitGroup => g.state == .landedUnreported)).2
        ⟨g, hg, beq_iff_eq.2 hlanded⟩)
    simp only [firstWaiter, waitingRecord_eq_none hrecords, waitingGroup, hx]
  case ports =>
    simp only [firstWaiter, waitingRecord_eq_none hrecords, waitingGroup_eq_none hgroups,
      waitingPort_eq_some hp hbelow]
  case latch =>
    simp only [firstWaiter, waitingRecord_eq_none hrecords, waitingGroup_eq_none hgroups, waitingPort_eq_none hports,
      Option.isSome_iff_ne_none.2 hlatch, if_true]
  case summary =>
    simp only [firstWaiter, waitingRecord_eq_none hrecords, waitingGroup_eq_none hgroups, waitingPort_eq_none hports,
      hlatch, Option.isSome_none, Bool.false_eq_true, if_false, Option.isSome_iff_ne_none.2 hsummary, if_true]
  case entry =>
    have hget : s.requests.entries[i]? = some s.requests.entries[i] := List.getElem?_eq_getElem hi
    simp only [firstWaiter, waitingRecord_eq_none hrecords, waitingGroup_eq_none hgroups, waitingPort_eq_none hports,
      hlatch, hsummary, Option.isSome_none, Bool.false_eq_true, if_false,
      waitingEntry_eq_some hget (he _ hget) hbefore]
  case empty =>
    simp only [firstWaiter_of_quiet ⟨hrecords, hgroups, hports, hlatch, hsummary⟩ hentries, immediateWaits, hintake,
      Bool.false_eq_true, if_false]
  case long =>
    have hnot : isImmediate s r = false := Bool.eq_false_iff.2 fun h => (isImmediate_iff s r).1 h hlong
    simp only [firstWaiter_of_quiet ⟨hrecords, hgroups, hports, hlatch, hsummary⟩ hentries, immediateWaits, hintake,
      hnot, Bool.false_eq_true, if_false]
  case immediate =>
    simp only [firstWaiter_of_quiet ⟨hrecords, hgroups, hports, hlatch, hsummary⟩ hentries, immediateWaits, hintake,
      (isImmediate_iff s r).2 hshort, if_true]

end Sys2Proof.Laws
end

/-! ### Grants and takings -/

section
set_option Elab.async false
namespace Sys2Proof.Laws

open Sys2Proof Sys2Proof.Machine Sys2Proof.Safety

/-- The arbiter grants a record only if it is the one offered (R139, R168). -/
theorem waitingRecord_of_grant {s : State} {ref : Nat} (h : grant s = some (.record ref)) :
    ∃ r, waitingRecord s = some r ∧ r.ref = ref := by
  have hfirst := ((grant_eq_some_iff s _).1 h).2
  unfold firstWaiter at hfirst
  split at hfirst
  · rename_i r hr
    exact ⟨r, hr, Waiter.record.inj (Option.some.inj hfirst)⟩
  · repeat' split at hfirst
    all_goals cases hfirst

/-- The arbiter grants a taking only if an immediate request is at the intake's head (R152, R168). -/
theorem immediateWaits_of_grant {s : State} (h : grant s = some .immediate) : immediateWaits s = true := by
  have hfirst := ((grant_eq_some_iff s _).1 h).2
  unfold firstWaiter at hfirst
  by_contra hnone
  simp only [hnone, if_false] at hfirst
  repeat' split at hfirst
  all_goals cases hfirst

/-- The intake's head, when the arbiter grants its taking, is immediate (R151, R152). -/
theorem not_longRecord_of_grant {s : State} {r : Record} {rest : List Record} (h : grant s = some .immediate)
    (hintake : s.requests.intake = r :: rest) : ¬ LongRecord s r := by
  have hwaits := immediateWaits_of_grant h
  rw [immediateWaits, hintake] at hwaits
  exact (isImmediate_iff s r).1 hwaits

/-- The command that takes a record of a known kind with zero flags (R151). -/
theorem commandOf_of_hasKind {r : Record} {k : Nat} (h : HasKind r k) (hlow : 1 ≤ k) (hhigh : k ≤ 12)
    (hmanner : ¬ (k = 6 ∧ recordNat r 0x08 1 = 1)) : commandOf r =
      ([.stage, .stageSchedule, .commit, .withdraw, .start, .stopEnd, .setChannel, .portAlign, .trimProgram,
        .trimLoad, .readOut, .reclaim] : List Instr).getD (k - 1) .badKind := by
  obtain ⟨hkind, hflags⟩ := h
  unfold commandOf
  simp only [hkind, hflags]
  rw [if_neg (by omega), if_neg (by simp), if_neg hmanner]

/-- A record of unknown kind is taken by BAD_KIND (R155). -/
theorem commandOf_of_unknown {r : Record} (h : kindKnown (requestKind r) = false) : commandOf r = .badKind := by
  have hkind : ¬ (1 ≤ recordNat r 0x00 1 ∧ recordNat r 0x00 1 ≤ 12) := by
    have := of_decide_eq_false h
    exact this
  exact if_pos (by omega)

/-- A record of known kind with flags is taken by BAD_FLAGS (R155). -/
theorem commandOf_of_flags {r : Record} (h : kindKnown (requestKind r) = true) (hflags : requestFlags r ≠ 0) :
    commandOf r = .badFlags := by
  have hkind : 1 ≤ recordNat r 0x00 1 ∧ recordNat r 0x00 1 ≤ 12 := of_decide_eq_true h
  have hnonzero : recordNat r 0x01 1 ≠ 0 := fun h0 => hflags (BitVec.eq_of_toNat_eq h0)
  exact (if_neg (by omega)).trans (if_pos hnonzero)

/-- A STOP ABORT is taken by its own command (R16). -/
theorem commandOf_of_abort {r : Record} (h : HasKind r 6) (hmanner : recordNat r 0x08 1 = 1) :
    commandOf r = .stopAbort := by
  obtain ⟨hkind, hflags⟩ := h
  unfold commandOf
  simp only [hkind, hflags, hmanner]
  decide

/-- An immediate taking that is not due has no effect (R152; log 3). -/
theorem runImmediate_of_not_due {s : State} {test : Record → Bool} {owner : Record → State → State × Answer}
    {c : Instr} (htest : ∀ r, test r = true → commandOf r = c)
    (h : ∀ r rest, s.requests.intake = r :: rest → commandOf r = c → ¬ TakingDue s r) :
    runImmediate s test owner = .next s := by
  rcases runImmediate_cases s test owner with ⟨-, hrun⟩ | ⟨r, rest, hintake, ht, hgrant, -⟩
  · exact hrun
  · have hdue : TakingDue s r := by
      rw [TakingDue, if_neg (not_longRecord_of_grant hgrant hintake)]
      exact hgrant
    exact absurd hdue (h r rest hintake (htest r ht))

/-- A long taking is due when it is made (R153). -/
theorem takingDue_of_longTurn {s : State} {r : Record} {rest : List Record} (h : LongTurn s r rest)
    (hlong : isImmediate s r = false) : TakingDue s r := by
  obtain ⟨hdev, hroom, -⟩ := h
  have hrecord : LongRecord s r := by
    by_contra hnot
    exact absurd ((isImmediate_iff s r).2 hnot) (by rw [hlong]; decide)
  rw [TakingDue, if_pos hrecord]
  exact ⟨hdev, hroom⟩

/-- A long taking that is not due has no effect (R153; log 3). -/
theorem runLong_of_not_due {s : State} {test : Record → Bool} {owner : Record → State → Taken} {c : Instr}
    (htest : ∀ r, test r = true → commandOf r = c)
    (h : ∀ r rest, s.requests.intake = r :: rest → commandOf r = c → ¬ TakingDue s r) :
    runLong s test owner = .next s := by
  rcases runLong_cases s test owner with ⟨-, hrun⟩ | ⟨r, rest, hturn, ht, hlong, -⟩
  · exact hrun
  · exact absurd (takingDue_of_longTurn hturn hlong) (h r rest hturn.2.2 (htest r ht))

/-- The kind test of a command other than STOP's decides the command (TABLE 11-12). -/
theorem commandOf_of_ofKind {k : BitVec 8} {r : Record} (hlow : 1 ≤ k.toNat) (hhigh : k.toNat ≤ 12)
    (hstop : k.toNat ≠ 6) (h : ofKind k r = true) : commandOf r =
      ([.stage, .stageSchedule, .commit, .withdraw, .start, .stopEnd, .setChannel, .portAlign, .trimProgram,
        .trimLoad, .readOut, .reclaim] : List Instr).getD (k.toNat - 1) .badKind :=
  commandOf_of_hasKind ((ofKind_eq_true_iff k r).1 h) hlow hhigh fun hand => hstop hand.1

/-- A STOP that is no ABORT is taken by STOP_END (R14; log 17). -/
theorem commandOf_of_stopEnd {r : Record} (h : ofKind kindStop r = true) (hmanner : recordNat r 0x08 1 ≠ 1) :
    commandOf r = .stopEnd :=
  commandOf_of_hasKind ((ofKind_eq_true_iff kindStop r).1 h) (by decide) (by decide) fun hand => hmanner hand.2

/-- A STOP_END that is not due has no effect (R14; log 3). -/
theorem execStopEnd_of_not_due {s : State}
    (h : ∀ r rest, s.requests.intake = r :: rest → commandOf r = .stopEnd → ¬ TakingDue s r) :
    execStopEnd s = .next s := by
  unfold execStopEnd
  split
  · refine runLong_of_not_due (c := .stopEnd) (fun r ht => ?_) h
    obtain ⟨hkind, hend⟩ := Bool.and_eq_true_iff.1 ht
    have hmanner := (stopMannerEnd_iff r).1 hend
    exact commandOf_of_stopEnd hkind (by omega)
  · refine runImmediate_of_not_due (c := .stopEnd) (fun r ht => ?_) h
    obtain ⟨hkind, hnot⟩ := Bool.and_eq_true_iff.1 ht
    refine commandOf_of_stopEnd hkind (mt (stopMannerAbort_iff r).2 ?_)
    rw [Bool.not_eq_true]
    simpa using hnot

/-- A STOP_ABORT that is not due has no effect (R16; log 3). -/
theorem execStopAbort_of_not_due {s : State}
    (h : ∀ r rest, s.requests.intake = r :: rest → commandOf r = .stopAbort → ¬ TakingDue s r) :
    execStopAbort s = .next s := by
  unfold execStopAbort
  cases htake : takeImmediate s (fun r => ofKind kindStop r && stopMannerAbort r) with
  | none => rfl
  | some x =>
    obtain ⟨rest, hintake, ht, hgrant, -⟩ := (takeImmediate_eq_some_iff s _ x.1 x.2).1 htake
    obtain ⟨hkind, habort⟩ := Bool.and_eq_true_iff.1 ht
    have hdue : TakingDue s x.1 := by
      rw [TakingDue, if_neg (not_longRecord_of_grant hgrant hintake)]
      exact hgrant
    exact absurd hdue (h x.1 rest hintake
      (commandOf_of_abort ((ofKind_eq_true_iff kindStop x.1).1 hkind) ((stopMannerAbort_iff x.1).1 habort)))

/-- The taking of a request that is not due has no effect (R151 to R153; log 3). -/
theorem exec_taking_of_not_due {s : State} {c : Instr} (hc : c ∈ takings)
    (h : ∀ r rest, s.requests.intake = r :: rest → commandOf r = c → ¬ TakingDue s r) : exec c s = .next s := by
  simp only [takings, List.mem_cons, List.not_mem_nil, or_false] at hc
  rcases hc with rfl | rfl | rfl | rfl | rfl | rfl | rfl | rfl | rfl | rfl | rfl | rfl | rfl | rfl | rfl
  · exact runImmediate_of_not_due (fun r ht => commandOf_of_unknown (by simpa using ht)) h
  · refine runImmediate_of_not_due (fun r ht => ?_) h
    obtain ⟨hkind, hflags⟩ := Bool.and_eq_true_iff.1 ht
    exact commandOf_of_flags hkind (bne_iff_ne.1 hflags)
  · exact runImmediate_of_not_due (fun r => commandOf_of_ofKind (by decide) (by decide) (by decide)) h
  · exact runImmediate_of_not_due (fun r => commandOf_of_ofKind (by decide) (by decide) (by decide)) h
  · exact runImmediate_of_not_due (fun r => commandOf_of_ofKind (by decide) (by decide) (by decide)) h
  · exact runImmediate_of_not_due (fun r => commandOf_of_ofKind (by decide) (by decide) (by decide)) h
  · exact runImmediate_of_not_due (fun r => commandOf_of_ofKind (by decide) (by decide) (by decide)) h
  · exact execStopEnd_of_not_due h
  · exact execStopAbort_of_not_due h
  · exact runImmediate_of_not_due (fun r => commandOf_of_ofKind (by decide) (by decide) (by decide)) h
  · exact runLong_of_not_due (fun r => commandOf_of_ofKind (by decide) (by decide) (by decide)) h
  · exact runLong_of_not_due (fun r => commandOf_of_ofKind (by decide) (by decide) (by decide)) h
  · exact runLong_of_not_due (fun r => commandOf_of_ofKind (by decide) (by decide) (by decide)) h
  · exact runLong_of_not_due (fun r => commandOf_of_ofKind (by decide) (by decide) (by decide)) h
  · exact runLong_of_not_due (fun r => commandOf_of_ofKind (by decide) (by decide) (by decide)) h

/-- The completion that tells of a record is that of its report kind (R139). -/
theorem recordCompletion_eq_reportCompletion (r : FrameRecord) : recordCompletion r = reportCompletion r := by
  unfold recordCompletion reportCompletion
  rcases hkind : r.reportKind with _ | (_ | _ | _) <;> rfl

/-- Settles O47: the seven producers, without and with their grant, and the takings that are not due. -/
theorem grantsEmptyTheirProducers : Obligations.GrantsEmptyTheirProducers := by
  intro s
  refine ⟨fun hdistinct r hr hgrant => ?record, fun hgrant htags g hg _ => ?group, fun p hgrant => ?port,
    fun hgrant d hd => ?latch, fun hgrant d hd => ?summary, fun i _ hgrant e he a ha => ?long, fun h => ?noRecord,
    fun h => ?noGroup, fun h => ?noPort, fun h => ?noLatch, fun h => ?noSummary, fun h => ?noLong, fun h => ?noReclaim,
    fun c hc h => exec_taking_of_not_due hc h⟩
  case record =>
    obtain ⟨hd, -⟩ := hdistinct
    obtain ⟨x, hx, href⟩ := waitingRecord_of_grant hgrant
    have hsame : x = r := List.inj_on_of_nodup_map hd (waitingRecord_mem hx).1 hr href
    subst hsame
    simp only [exec, execFrameReportGrant, hgrant, hx, recordCompletion_eq_reportCompletion]
    rfl
  case group =>
    have hfind : waitingGroup s = some g := hg
    have hmem : g ∈ s.commits := List.mem_of_find?_eq_some hg
    simp only [exec, execCommitLanded, hgrant, hfind, erase_eq_filter_tag htags hmem]
    rfl
  case port =>
    simp only [exec, execPortEvent, hgrant]
    rfl
  case latch =>
    have hlatch : s.buffers.latch = some d := hd
    simp only [exec, execRejectedReturn, hgrant, hlatch]
    rfl
  case summary =>
    have hsummary : s.completions.summary = some d := hd
    simp only [exec, execDropSummaryGrant, hgrant, hsummary]
    rfl
  case long =>
    have hentry : s.requests.entries[i]? = some e := he
    have hanswer : e.answer = some a := ha
    simp only [exec, execLongRequestDone, hgrant, hentry, hanswer]
    rfl
  case noRecord =>
    dsimp only [exec]
    unfold execFrameReportGrant
    split
    · rename_i hgrant _
      exact absurd hgrant (h _)
    · rfl
  case noGroup =>
    dsimp only [exec]
    unfold execCommitLanded
    split
    · rename_i hgrant _
      exact absurd hgrant h
    · rfl
  case noPort =>
    dsimp only [exec]
    unfold execPortEvent
    split
    · rename_i hgrant
      exact absurd hgrant (h _)
    · rfl
  case noLatch =>
    dsimp only [exec]
    unfold execRejectedReturn
    split
    · rename_i hgrant _
      exact absurd hgrant h
    · rfl
  case noSummary =>
    dsimp only [exec]
    unfold execDropSummaryGrant
    split
    · rename_i hgrant _
      exact absurd hgrant h
    · rfl
  case noLong =>
    dsimp only [exec]
    unfold execLongRequestDone
    split
    · rename_i i hgrant
      cases he : s.requests.entries[i]? with
      | none => rfl
      | some e => simp only [h i hgrant e he]
    · rfl
  case noReclaim =>
    dsimp only [exec]
    unfold execReclaimedReturn
    split
    · rename_i i d rest r hgrant _ _
      cases he : s.requests.entries[i]? with
      | none => simp only [grantsReclaim, he, Bool.false_eq_true, if_false]
      | some e =>
        obtain ⟨a, ha⟩ := Option.ne_none_iff_exists'.1 (h i hgrant e he)
        simp [grantsReclaim, he, PendingEntry.ready, ha]
    · rfl

end Sys2Proof.Laws
end

/-! ### DELTA8 -/

section
set_option Elab.async false
namespace Sys2Proof.Laws

open Sys2Proof Sys2Proof.Machine Sys2Proof.Safety

/-- The one byte of a difference (R116). -/
theorem bytesLE_signedCode8 (d : Int) : bytesLE 1 (signedCode 8 d) = [BitVec.ofInt 8 d] := by
  rw [bytesLE_succ, signedCode, BitVec.ofNat_toNat, BitVec.setWidth_eq]
  rfl

/-- The marker's number, as the statements write it (R87). -/
theorem oneByteDelta_iff (p v : Int) :
    (v ≠ marker ∧ p ≠ marker ∧ -127 ≤ v - p ∧ v - p ≤ 127) ↔ OneByteDelta p v := Iff.rfl

/-- DELTA8 of a sample within reach of its predecessor (R116). -/
theorem codeDelta_of_oneByte {pred : Option Int} {p v : Int} (hpred : pred = some p) (h : OneByteDelta p v) :
    codeDelta pred v = [BitVec.ofInt 8 (v - p)] := by
  rw [hpred, codeDelta, if_pos ((oneByteDelta_iff p v).2 h), bytesLE_signedCode8]

/-- DELTA8 of any other sample: the escape and the sample's code (R116). -/
theorem codeDelta_of_escape {pred : Option Int} {v : Int} (h : ∀ p, pred = some p → ¬ OneByteDelta p v) :
    codeDelta pred v = 0x80#8 :: bytesLE 2 (signedCode 16 v) := by
  cases pred with
  | none => rfl
  | some p => exact if_neg (mt (oneByteDelta_iff p v).1 (h p rfl))

/-- A row of one sample is coded as the sample. -/
theorem codeSamples_delta8_singleton (preds : Vector (Option Int) 16) (x : Fin 16 × Int) :
    codeSamples .delta8 preds [x] = codeDelta preds[x.1] x.2 := List.append_nil _

/-- A difference in −127 to 127 is no escape, and reads back as itself (R116). -/
theorem delta_readsBack {d : Int} (hlow : -127 ≤ d) (hhigh : d ≤ 127) :
    BitVec.ofInt 8 d ≠ 0x80#8 ∧ (BitVec.ofInt 8 d).toInt = d := by
  have hread : (BitVec.ofInt 8 d).toInt = d := by
    rw [BitVec.toInt_ofInt]
    apply Int.bmod_eq_of_le_mul_two <;> push_cast <;> omega
  refine ⟨fun hescape => ?_, hread⟩
  rw [hescape] at hread
  have hvalue : (0x80#8).toInt = -128 := by decide
  omega

/-- A reader takes back the first sample of a row, whatever bytes follow (R116). -/
theorem readDelta8_codeDelta {preds : Vector (Option Int) 16} {x : Fin 16 × Int} (channels : List (Fin 16))
    (bytes : List Byte) (hx : SampleValue x.2 ∨ x.2 = -32768) :
    readDelta8 preds (x.1 :: channels) (codeDelta preds[x.1] x.2 ++ bytes) =
      (readDelta8 preds channels bytes).map fun y => (x.2 :: y.1, y.2) := by
  by_cases hone : ∃ p, preds[x.1] = some p ∧ OneByteDelta p x.2
  · obtain ⟨p, hp, hdelta⟩ := hone
    obtain ⟨-, -, hlow, hhigh⟩ := id hdelta
    obtain ⟨hescape, hread⟩ := delta_readsBack hlow hhigh
    have hsum : p + (x.2 - p) = x.2 := by omega
    rw [codeDelta_of_oneByte hp hdelta, List.singleton_append]
    conv_lhs => unfold readDelta8
    simp only [if_neg hescape, hp, hread, hsum]
  · have hno : ∀ p, preds[x.1] = some p → ¬ OneByteDelta p x.2 := fun p hp hd => hone ⟨p, hp, hd⟩
    have hbytes := bytesLE_signedCode16 x.2
    have hread := signedValue_littleEndian_signedCode16 hx
    rw [hbytes] at hread
    rw [codeDelta_of_escape hno, hbytes]
    simp only [List.cons_append, List.nil_append, readDelta8, if_true, hread]

/-- Settles O51: sample by sample, one byte or the escape, and back. -/
theorem delta8RoundTrip : Obligations.Delta8RoundTrip := by
  intro preds xs rest
  refine ⟨?bySample, fun x _ p hp hdelta => ?oneByte, fun x _ hno => ?escape, fun hxs => ?readBack⟩
  case bySample =>
    simp only [codeSamples_delta8_singleton]
    rfl
  case oneByte => rw [codeSamples_delta8_singleton, codeDelta_of_oneByte hp hdelta]
  case escape => rw [codeSamples_delta8_singleton, codeDelta_of_escape hno, bytesLE_signedCode16]
  case readBack =>
    induction xs with
    | nil => rfl
    | cons x xs ih =>
      have hsplit : codeSamples .delta8 preds (x :: xs) ++ rest =
          codeDelta preds[x.1] x.2 ++ (codeSamples .delta8 preds xs ++ rest) := by
        simp only [codeSamples, codeDelta8, List.flatMap_cons, List.append_assoc]
      rw [List.map_cons, hsplit, readDelta8_codeDelta _ _ (hxs x List.mem_cons_self),
        ih fun y hy => hxs y (List.mem_cons_of_mem x hy)]
      rfl

end Sys2Proof.Laws
end

/-! ### Sizes and fields of written records -/

section
set_option Elab.async false
namespace Sys2Proof.Laws

open Sys2Proof Sys2Proof.Machine Sys2Proof.Safety

/-- The little-endian value of bytes that follow one another (0.7). -/
theorem littleEndian_append (a b : List Byte) :
    littleEndian (a ++ b) = littleEndian a + 256 ^ a.length * littleEndian b := by
  induction a with
  | nil => simp [littleEndian]
  | cons x a ih =>
    rw [List.cons_append, littleEndian, ih, littleEndian, List.length_cons, pow_succ]
    ring

/-- Zero bytes add nothing (R182). -/
theorem littleEndian_zeros (n : Nat) : littleEndian (List.replicate n 0#8) = 0 := by
  induction n with
  | zero => rfl
  | succ n ih => rw [List.replicate_succ, littleEndian, ih]; rfl

/-- Fields given by size and value, at the offsets at which they follow one another. -/
def atOffsets : Nat → List (Nat × Nat) → List Field
  | _, [] => []
  | o, x :: rest => (o, x.1, x.2) :: atOffsets (o + x.1) rest

/-- The number of fields with one in front. -/
theorem recordOfFields_cons (f : Field) (fields : List Field) :
    recordOfFields (f :: fields) = f.2.2 % 2 ^ (8 * f.2.1) * 2 ^ (8 * f.1) + recordOfFields fields := rfl

/-- The number of fields after one another. -/
theorem recordOfFields_append (fields others : List Field) :
    recordOfFields (fields ++ others) = recordOfFields fields + recordOfFields others := by
  simp only [recordOfFields, List.map_append, List.sum_append]

/-- A field of zeros adds nothing (R182). -/
theorem recordOfFields_zero (o n : Nat) (fields : List Field) :
    recordOfFields ((o, n, 0) :: fields) = recordOfFields fields := by
  rw [recordOfFields_cons, Nat.zero_mod, Nat.zero_mul, Nat.zero_add]

/-- Fields that agree in front of fields that agree. -/
theorem recordOfFields_congr (f : Field) {fields others : List Field}
    (h : recordOfFields fields = recordOfFields others) :
    recordOfFields (f :: fields) = recordOfFields (f :: others) := by
  rw [recordOfFields_cons, recordOfFields_cons, h]

/-- The bytes of fields that follow one another, from an offset on, are those fields at their offsets (0.7). -/
theorem littleEndian_fields (o : Nat) (fields : List (Nat × Nat)) :
    2 ^ (8 * o) * littleEndian (fields.flatMap fun x => bytesLE x.1 x.2) = recordOfFields (atOffsets o fields) := by
  induction fields generalizing o with
  | nil => rfl
  | cons x fields ih =>
    rw [atOffsets, recordOfFields_cons, ← ih, List.flatMap_cons, littleEndian_append, littleEndian_bytesLE,
      length_bytesLE, show 256 = 2 ^ 8 from rfl, ← pow_mul, Nat.mul_add (8 : Nat), pow_add]
    ring

/-- A completion of 32 bytes: kind, phase, fields, zeros (R164, R182). -/
theorem completionBytes_eq {fields : List Byte} (kind : Nat) (phase : Bool) (h : fields.length ≤ 30) :
    completionBytes kind phase fields =
      bytesLE 1 kind ++ (bytesLE 1 (bit phase) ++ (fields ++ List.replicate (30 - fields.length) 0#8)) := by
  have hfront : (bytesLE 1 kind ++ bytesLE 1 (bit phase) ++ fields).length = 2 + fields.length := by
    simp only [List.length_append, length_bytesLE]
  have hzeros : 32 - (2 + fields.length) ≤ 30 := by omega
  rw [completionBytes, List.take_append, List.take_of_length_le (by omega), hfront, List.take_replicate,
    Nat.min_eq_left hzeros, show 32 - (2 + fields.length) = 30 - fields.length by omega]
  simp only [List.append_assoc]

/-- The codes of statuses are their places in TABLE 11-13. -/
theorem statusCode_eq (x : Status) : x.code = statusCode x := by cases x <;> rfl

/-- The fields of a completion take at most 30 bytes (R164). -/
theorem length_completionFields (c : Completion) : (completionFields c).length ≤ 30 := by
  cases c <;> simp [completionFields, frameReportFields]

/-- The fields of a frame's report at their offsets (TABLE 11-7). -/
theorem littleEndian_frameReportFields (r : FrameReport) :
    2 ^ (8 * 2) * littleEndian (frameReportFields r) = recordOfFields (reportLayout r) :=
  littleEndian_fields 2 [(1, r.damage.toNat), (1, r.profile.val), (4, r.sequence.toNat), (4, r.tag.toNat),
    (2, r.rowsWritten), (2, r.rowsLost), (4, r.payloadBytes), (1, r.missed)]

/-- The fields of a completion at their offsets (TABLE 11-7). -/
theorem littleEndian_completionFields (c : Completion) :
    2 ^ (8 * 2) * littleEndian (completionFields c) = recordOfFields (completionLayout c).2 := by
  cases c with
  | requestDone tag kind a head =>
    have hfields := littleEndian_fields 2 [(2, tag.toNat), (1, kind.toNat), (1, a.status.code), (1, a.detail.toNat),
      (1, 0), (4, a.aux.toNat), (2, head)]
    rw [statusCode_eq] at hfields
    refine Eq.trans ?_ (hfields.trans ?_)
    · rw [← statusCode_eq]
      rfl
    · exact recordOfFields_congr _ (recordOfFields_congr _ (recordOfFields_congr _ (recordOfFields_congr _
        (recordOfFields_zero ..))))
  | commitLanded tag landed set carries =>
    exact littleEndian_fields 2 [(2, tag.toNat), (4, landed.toNat), (1, set.toNat), (1, bit carries)]
  | frameDone r => exact littleEndian_frameReportFields r
  | frameDiscarded r => exact littleEndian_frameReportFields r
  | frameDropped first last count reasons =>
    exact (littleEndian_fields 2 [(1, reasons.toNat), (1, 0), (4, first.toNat), (4, last.toNat), (4, count)]).trans
      (recordOfFields_congr _ (recordOfFields_zero ..))
  | bufferReturned tag reason =>
    have hfields := (littleEndian_fields 2 [(1, reason.code), (1, 0), (4, tag.toNat)]).trans
      (recordOfFields_congr _ (recordOfFields_zero ..))
    cases reason <;> exact hfields
  | portEvent port state cause changes =>
    have hfields := littleEndian_fields 2 [(1, port.val), (1, state.code), (1, cause.code), (1, changes)]
    cases state <;> cases cause <;> exact hfields

/-- The kind code of a completion (TABLE 11-12). -/
theorem completionCode_eq (c : Completion) : c.code = (completionLayout c).1 := by cases c <;> rfl

/-- A frame header at its offsets (TABLE 11-9). -/
theorem littleEndian_frameHeader (r : FrameRecord) :
    littleEndian (frameHeader r) = recordOfFields (headerLayout r) := by
  have hformat : r.bound.sampleFormat.code = if r.bound.sampleFormat = .raw16 then 0
      else if r.bound.sampleFormat = .pack12 then 1 else 2 := by cases r.bound.sampleFormat <;> rfl
  have hfields := littleEndian_fields 0 [(1, 1), (1, r.profile.val), (1, r.bound.sampleFormat.code),
    (1, bit r.bound.rowStamps), (4, r.sequence.toNat), (2, r.bound.channelMask.toNat), (2, r.bound.rowFirst),
    (2, r.bound.rowStep), (2, r.bound.rowPeriod), (2, r.rowsPlanned), (2, r.rowsWritten), (2, r.rowsLost),
    (1, r.damage.toNat), (1, r.missed), (4, r.payloadBytes), (6, (r.startTime.getD 0).toNat)]
  rw [Nat.mul_zero, pow_zero, Nat.one_mul] at hfields
  have hheader : littleEndian (frameHeader r) = recordOfFields (atOffsets 0 [(1, 1), (1, r.profile.val),
      (1, r.bound.sampleFormat.code), (1, bit r.bound.rowStamps), (4, r.sequence.toNat),
      (2, r.bound.channelMask.toNat), (2, r.bound.rowFirst), (2, r.bound.rowStep), (2, r.bound.rowPeriod),
      (2, r.rowsPlanned), (2, r.rowsWritten), (2, r.rowsLost), (1, r.damage.toNat), (1, r.missed),
      (4, r.payloadBytes), (6, (r.startTime.getD 0).toNat)]) := by
    rw [← hfields, frameHeader, littleEndian_append, littleEndian_zeros, Nat.mul_zero, Nat.add_zero]
    simp only [List.flatMap_cons, List.flatMap_nil, List.append_nil, List.append_assoc]
  rw [hheader, hformat]
  rfl

/-- DELTA8 takes at most 3 bytes a sample (R116). -/
theorem length_codeDelta_le (pred : Option Int) (v : Int) : (codeDelta pred v).length ≤ 3 := by
  by_cases h : ∃ p, pred = some p ∧ OneByteDelta p v
  · obtain ⟨p, hp, hdelta⟩ := h
    rw [codeDelta_of_oneByte hp hdelta, List.length_singleton]
    decide
  · rw [codeDelta_of_escape fun p hp hd => h ⟨p, hp, hd⟩, List.length_cons, length_bytesLE]

/-- The samples of a row take at most 48 bytes (R112, TABLE 7-2). -/
theorem length_codeSamples_le (format : SampleFormat) (preds : Vector (Option Int) 16)
    {samples : List (Fin 16 × Int)} (h : samples.length ≤ 16) : (codeSamples format preds samples).length ≤ 48 := by
  cases format with
  | raw16 =>
    have hlength : (codeSamples .raw16 preds samples).length = 2 * samples.length := by
      simp [codeSamples, codeRaw16, List.length_flatMap, Function.comp_def, Nat.mul_comm]
    omega
  | pack12 =>
    have hlength := length_codePack12 (samples.map Prod.snd)
    rw [List.length_map] at hlength
    change (codePack12 (samples.map Prod.snd)).length ≤ 48
    omega
  | delta8 =>
    have hlength : (codeSamples .delta8 preds samples).length ≤ 3 * samples.length := by
      induction samples with
      | nil => exact le_refl _
      | cons x samples ih =>
        have hhead := length_codeDelta_le preds[x.1] x.2
        have hrest := ih (by rw [List.length_cons] at h; omega)
        change (codeDelta preds[x.1] x.2 ++ codeDelta8 preds samples).length ≤ _
        change (codeDelta8 preds samples).length ≤ _ at hrest
        rw [List.length_append, List.length_cons]
        omega
    omega

/-- The value of a row stamp (R113, TABLE 11-10). -/
theorem littleEndian_rowStamp (index : Nat) (bad : Vector Bool 4) :
    littleEndian (rowStamp index bad) = stampValue index bad := by
  have hbits : stampValue index bad = index % 65536 +
      65536 * (bit bad[0] + 2 * bit bad[1] + 4 * bit bad[2] + 8 * bit bad[3]) := by
    cases h0 : bad[0] <;> cases h1 : bad[1] <;> cases h2 : bad[2] <;> cases h3 : bad[3] <;>
      simp [stampValue, List.finRange_succ, bit, h0, h1, h2, h3]
  have hbound (b : Bool) : bit b ≤ 1 := by cases b <;> decide
  have h0 := hbound bad[0]
  have h1 := hbound bad[1]
  have h2 := hbound bad[2]
  have h3 := hbound bad[3]
  rw [hbits, rowStamp, littleEndian_bytesLE]
  refine Nat.mod_eq_of_lt ?_
  norm_num
  omega

/-- Settles O52: lengths from those of the fields, and values from the fields at their offsets. -/
theorem writtenRecordsHaveTheirSizes : Obligations.WrittenRecordsHaveTheirSizes := by
  refine ⟨?row, fun phase c => ?completion, fun r => ⟨?length, littleEndian_frameHeader r⟩⟩
  case row =>
    intro p preds h hsamples row samples stamp
    have hrow : row = (stamp ++ samples) ++
        List.replicate ((4 - (stamp ++ samples).length % 4) % 4) 0#8 := rfl
    have hcoded : samples.length ≤ 48 := length_codeSamples_le _ _ hsamples
    have hstamp : stamp.length ≤ 4 := by
      change (if p.rowStamps then rowStamp h.index h.bad else []).length ≤ 4
      split
      · rw [rowStamp, length_bytesLE]
      · decide
    have hlength : row.length = (stamp.length + samples.length) +
        (4 - (stamp.length + samples.length) % 4) % 4 := by
      rw [hrow, List.length_append, List.length_replicate, List.length_append]
    refine ⟨by omega, by omega, ?_, by omega, fun hset => ?_, fun b hb => ?_⟩
    · rw [hrow, ← List.length_append, List.take_left]
    · have hstamped : stamp = rowStamp h.index h.bad := if_pos hset
      rw [hstamped]
      exact ⟨by rw [rowStamp, length_bytesLE], littleEndian_rowStamp _ _⟩
    · rw [hrow, ← List.length_append, List.drop_left] at hb
      exact (List.mem_replicate.1 hb).2
  case completion =>
    have hfields := length_completionFields c
    refine ⟨?_, ?_⟩
    · rw [encodeCompletion, completionBytes_eq _ _ hfields]
      simp only [List.length_append, length_bytesLE, List.length_replicate]
      omega
    · have hvalue : 2 ^ (8 * 0) * littleEndian (encodeCompletion phase c) = recordOfFields
          ([(0x00, 1, (completionLayout c).1), (0x01, 1, flag phase)] ++ (completionLayout c).2) := by
        have hfront := littleEndian_fields 0 [(1, c.code), (1, bit phase)]
        have hbytes : encodeCompletion phase c = ([(1, c.code), (1, bit phase)].flatMap fun x => bytesLE x.1 x.2) ++
            (completionFields c ++ List.replicate (30 - (completionFields c).length) 0#8) := by
          rw [encodeCompletion, completionBytes_eq _ _ hfields]
          simp only [List.flatMap_cons, List.flatMap_nil, List.append_nil, List.append_assoc]
        have hlength : ([(1, c.code), (1, bit phase)].flatMap fun x => bytesLE x.1 x.2).length = 2 := by
          simp
        rw [hbytes, littleEndian_append, Nat.mul_add, hfront, hlength, littleEndian_append, littleEndian_zeros,
          Nat.mul_zero, Nat.mul_zero, Nat.add_zero, pow_zero, Nat.one_mul, show 256 ^ 2 = 2 ^ (8 * 2) from rfl,
          littleEndian_completionFields, completionCode_eq, recordOfFields_append]
        rfl
      rwa [Nat.mul_zero, pow_zero, Nat.one_mul] at hvalue
  case length => simp [frameHeader]

end Sys2Proof.Laws
end

/-! ### Read-out images -/

section
set_option Elab.async false
namespace Sys2Proof.Laws

open Sys2Proof Sys2Proof.Machine Sys2Proof.Safety

/-- The sixteen channels are those of the statements. -/
theorem allChannels_eq_finRange : allChannels = List.finRange 16 := by decide

/-- The four ports are those of the statements. -/
theorem allPorts_eq_finRange : allPorts = List.finRange 4 := by decide

/-- A signed value as an item of 24 bits (R159). -/
theorem signedCode24_eq (v : Int) : signedCode 24 v = code24 v := BitVec.toNat_ofInt v

/-- The items of a profile (TABLE 9-3). -/
theorem profileItems_eq (p : Profile) : profileItems p = profileImage p := by
  obtain ⟨a, b, c, d, e, mask, format, policy, stamps⟩ := p
  cases format <;> cases policy <;> rfl

/-- The items of a schedule (TABLE 9-3). -/
theorem scheduleItems_eq (entries : List ScheduleEntry) : scheduleItems entries = scheduleImage entries := by
  rw [scheduleItems, scheduleImage, List.mapIdx_eq_zipIdx_map, List.flatMap]

/-- The items of one group (TABLE 9-3). -/
theorem groupItems_eq (g : Nat) (x : CommitGroup) : groupItems g x =
    let id := 0x10 * g + 0x10
    [(id, x.tag.toNat), (id + 1, if x.state = .pending then 0 else 1)] ++ twoItems (id + 2) x.landingFrame.toNat ++
      [(id + 4, x.profileSet.toNat), (id + 5, flag x.scheduleFlag)] ++
      x.landedFrame.toList.flatMap fun f => twoItems (id + 6) f.toNat := by
  obtain ⟨tag, set, carries, landing, state, landed⟩ := x
  cases state <;> cases landed <;> rfl

/-- The items of the commit list (TABLE 9-3). -/
theorem commitItems_eq (groups : List CommitGroup) : commitItems groups = commitsImage groups := by
  rw [commitItems, commitsImage, List.mapIdx_eq_zipIdx_map, List.flatMap]
  simp only [groupItems_eq]

/-- The items of the channel table (TABLE 9-3). -/
theorem channelItems_eq (s : State) : channelItems s = channelsImage s := by
  have hsource (x : Source) : x.code = if x = .converter then 0 else if x = .constant then 1
      else if x = .ramp then 2 else 3 := by cases x <;> rfl
  rw [channelItems, channelsImage, allChannels_eq_finRange]
  simp only [hsource, signedCode24_eq]
  rfl

/-- The items of a trim table (TABLE 9-3). -/
theorem trimItems_eq (t : TrimTable) : trimItems t = trimImageItems t := by
  rw [trimItems, trimImageItems, allChannels_eq_finRange]
  simp only [signedCode24_eq]

/-- The code of a slot state (TABLE 9-3). -/
theorem slotStateCode_eq (k : SlotState) : k.code = slotCode k := by cases k <;> rfl

/-- The items of a trim slot (TABLE 9-3). -/
theorem trimSlotItems_eq (t : TrimUnit) (k : Fin 8) : trimSlotItems t k = slotImageItems t k := by
  rw [trimSlotItems, slotImageItems, slotStateCode_eq, trimItems_eq, imageTable_eq_tableOf]

/-- The items of the trim table in force, with its origin (TABLE 9-3). -/
theorem trimTableItems_eq (t : TrimUnit) :
    trimTableItems t = (0x01, originCode t.origin) :: trimImageItems t.table := by
  have hcode : t.origin.code = originCode t.origin := by cases t.origin <;> rfl
  rw [trimTableItems, hcode, trimItems_eq]

/-- The slot of the TRIM_PROGRAM in progress (TABLE 9-4). -/
theorem programSlot_eq (p : TrimProgramming) : programSlot p = programmedSlot p := by cases p <;> rfl

/-- The items of the status image (TABLE 9-4). -/
theorem statusItems_eq (s : State) : statusItems s = statusImage s := by
  have hstate (x : StreamState) : x.code = if x = .stopped then 0 else if x = .running then 1
      else if x = .waiting then 2 else 3 := by cases x <;> rfl
  have hmode (x : StartMode) : x.code = if x = .free then 0 else 1 := by cases x <;> rfl
  have hport (x : PortState) : x.code = if x = .off then 0 else if x = .aligning then 1
      else if x = .up then 2 else 3 := by cases x <;> rfl
  have hphase (x : Phase) : x.code = if x = .setUp then 0 else if x = .opened then 1
      else if x = .closing then 2 else 3 := by cases x <;> rfl
  have hload (x : TrimLoading) : bit (x != .idle) = if x = .idle then 0 else 1 := by
    by_cases h : x = .idle <;> simp [bit, h]
  have hslots : ([0, 1, 2, 3, 4, 5, 6, 7].map fun k : Fin 8 => (0x40 + k.val, slotCode s.trim.slotStates[k])) =
      (List.finRange 8).map fun k => (0x40 + k.val, slotCode s.trim.slotStates[k]) := rfl
  unfold statusItems statusImage
  simp only [hstate, hmode, hport, slotStateCode_eq, hload, programSlot_eq, allPorts_eq_finRange,
    List.mapIdx_eq_zipIdx_map, List.flatMap, recordItems, hphase, hslots]
  rfl

/-- Every image holds the items of its table (TABLES 9-3, 9-4). -/
theorem imageItems_eq_imageOf (s : State) {o : ReadOutOperands} (hlow : 1 ≤ o.kind) (hhigh : o.kind ≤ 8) :
    imageItems s o = imageOf s o := by
  obtain ⟨kind, index, copy, target, length⟩ := o
  change 1 ≤ kind at hlow
  change kind ≤ 8 at hhigh
  interval_cases kind
  · simp only [imageItems, imageOf, selectProfile, if_true]
    split
    · simp only [Option.map_some, profileItems_eq, if_true]
    · simp only [if_true, if_false, funext profileItems_eq, one_ne_zero]
    · rename_i h0 h1
      simp only [Option.map_some, profileItems_eq]
      rw [if_neg h0, if_neg h1]
  · simp only [imageItems, imageOf, selectSchedule, Nat.reduceEqDiff, if_true, if_false]
    split
    · simp only [Option.map_some, scheduleItems_eq, if_true]
    · simp only [if_true, if_false, funext scheduleItems_eq, one_ne_zero]
    · rename_i h0 h1
      simp only [Option.map_some, scheduleItems_eq]
      rw [if_neg h0, if_neg h1]
  · exact congrArg some (commitItems_eq s.commits)
  · exact congrArg some (channelItems_eq s)
  · exact congrArg some (trimTableItems_eq s.trim)
  · exact congrArg some (trimSlotItems_eq s.trim _)
  · rfl
  · exact congrArg some (statusItems_eq s)

/-! ### The size of an image -/

/-- A list of items of equal number for each element. -/
theorem length_flatMap_le {α : Type} (l : List α) (f : α → List Item) (n : Nat) (h : ∀ x ∈ l, (f x).length ≤ n) :
    (l.flatMap f).length ≤ n * l.length := by
  induction l with
  | nil => exact Nat.zero_le _
  | cons x l ih =>
    have hhead := h x List.mem_cons_self
    have hrest := ih fun y hy => h y (List.mem_cons_of_mem x hy)
    rw [List.flatMap_cons, List.length_append, List.length_cons, Nat.mul_succ]
    omega

/-- A schedule image of a schedule within its bounds (R60). -/
theorem length_scheduleImage {entries : List ScheduleEntry} (h : entries.length ≤ 8) :
    (scheduleImage entries).length ≤ 62 := by
  have hitems := length_flatMap_le entries.zipIdx
    (fun x => [(0x10 + 2 * x.2, x.1.profile.val), (0x11 + 2 * x.2, x.1.repeats)]) 2 fun _ _ => le_refl _
  rw [List.length_zipIdx] at hitems
  rw [scheduleImage, List.length_cons]
  omega

/-- A commit image of a list within its capacity (R40). -/
theorem length_commitItems {groups : List CommitGroup} (h : groups.length ≤ 4) :
    (commitItems groups).length ≤ 62 := by
  have hgroup (g : Nat) (x : CommitGroup) : (groupItems g x).length ≤ 8 := by
    obtain ⟨tag, set, carries, landing, state, landed⟩ := x
    cases landed <;> simp [groupItems, wideItems]
  have hitems := length_flatMap_le groups.zipIdx (fun x => groupItems x.2 x.1) 8 fun x _ => hgroup _ _
  rw [List.length_zipIdx] at hitems
  rw [commitItems, List.mapIdx_eq_zipIdx_map, List.length_cons]
  change (groups.zipIdx.flatMap fun x => groupItems x.2 x.1).length + 1 ≤ 62
  omega

/-- A trim image holds two items a channel (TABLE 9-3). -/
theorem length_trimImageItems (t : TrimTable) : (trimImageItems t).length = 32 := rfl

/-- A status image of a record table within its capacity (R127). -/
theorem length_statusImage {s : State} (h : s.records.length ≤ 4) : (statusImage s).length ≤ 62 := by
  have hitems := length_flatMap_le s.records.zipIdx (fun x => twoItems (0x10 + 4 * x.2) x.1.sequence.toNat ++
    [(0x12 + 4 * x.2, if x.1.phase = .setUp then 0 else if x.1.phase = .opened then 1
      else if x.1.phase = .closing then 2 else 3)]) 3 fun _ _ => le_refl _
  rw [List.length_zipIdx] at hitems
  simp only [statusImage, List.length_append, List.length_map, List.length_finRange, List.length_cons,
    List.length_nil, twoItems] at hitems ⊢
  omega

/-- Every image has at most 62 items, so that it fits 256 bytes (R159). -/
theorem length_imageItems {s : State} {o : ReadOutOperands} {items : List Item} (hs : ImageBounded s)
    (hlow : 1 ≤ o.kind) (hhigh : o.kind ≤ 8) (h : imageItems s o = some items) : items.length ≤ 62 := by
  obtain ⟨hcommits, hrecords, hstaged, hpend, hactive⟩ := hs
  obtain ⟨kind, index, copy, target, length⟩ := o
  change 1 ≤ kind at hlow
  change kind ≤ 8 at hhigh
  interval_cases kind <;> simp only [imageItems, Option.some.injEq] at h
  · obtain ⟨p, -, rfl⟩ := Option.map_eq_some_iff.1 h
    exact le_of_lt (by decide : 9 < 62)
  · obtain ⟨entries, hsel, rfl⟩ := Option.map_eq_some_iff.1 h
    rw [scheduleItems_eq]
    refine length_scheduleImage ?_
    unfold selectSchedule at hsel
    split at hsel
    · exact Option.some.inj hsel ▸ hstaged
    · exact hpend _ hsel
    · exact Option.some.inj hsel ▸ hactive
  · exact h ▸ length_commitItems hcommits
  · rw [← h, channelItems_eq]
    exact (by decide : 48 ≤ 62)
  · rw [← h, trimTableItems_eq, List.length_cons, length_trimImageItems]
    decide
  · rw [← h, trimSlotItems_eq, slotImageItems]
    split <;> simp [length_trimImageItems]
  · rw [← h]; decide
  · rw [← h, statusItems_eq]; exact length_statusImage hrecords

/-- The four bytes of an item (TABLE 11-11). -/
theorem itemBytes_eq (x : Item) : itemBytes x =
    [BitVec.ofNat 8 x.1, BitVec.ofNat 8 x.2, BitVec.ofNat 8 (x.2 / 2 ^ 8), BitVec.ofNat 8 (x.2 / 2 ^ 16)] := by
  simp only [itemBytes, bytesLE_succ, Nat.div_div_eq_div_mul, Nat.reduceMul, Nat.reducePow]
  rfl

/-- The header of an image takes 8 bytes (TABLE 11-11). -/
theorem imageBytes_eq (kind : Nat) (items : List Item) : imageBytes kind items =
    ([(1, kind), (1, 0), (2, items.length), (4, 0)].flatMap fun x => bytesLE x.1 x.2) ++ items.flatMap itemBytes := by
  simp only [imageBytes, List.flatMap_cons, List.flatMap_nil, List.append_nil, List.append_assoc]

/-- Four bytes for each item (TABLE 11-11). -/
theorem length_flatMap_itemBytes (items : List Item) : (items.flatMap itemBytes).length = 4 * items.length := by
  induction items with
  | nil => rfl
  | cons x items ih =>
    rw [List.flatMap_cons, List.length_append, ih, itemBytes_eq, List.length_cons]
    simp only [List.length_cons, List.length_nil]
    omega

/-- An image of n items is 8 + 4 n bytes long (TABLE 11-11). -/
theorem length_imageBytes (kind : Nat) (items : List Item) :
    (imageBytes kind items).length = 8 + 4 * items.length := by
  rw [imageBytes_eq, List.length_append, length_flatMap_itemBytes]
  simp

/-- The bursts of an image carry its bytes, in one or two, none crossing a multiple of 256 (R161). -/
theorem imageBursts_carry {target : Addr} {bytes : List Byte} (hpos : 0 < bytes.length) (hfits : bytes.length ≤ 256) :
    let bursts := imageBursts target bytes
    (bursts.length = 1 ∨ bursts.length = 2) ∧ (bursts.map ImageBurst.data).flatten = bytes ∧
      (∀ b ∈ bursts, 0 < b.data.length ∧ b.address.toNat % 256 + b.data.length ≤ 256) ∧
      (∀ x ∈ bursts.zip bursts.tail, x.2.address = x.1.address + BitVec.ofNat 64 x.1.data.length) ∧
      bursts.head?.map ImageBurst.address = some target := by
  have hmod : target.toNat % 256 < 256 := Nat.mod_lt _ (by decide)
  by_cases hone : bytes.length ≤ 256 - target.toNat % 256
  · have hbursts : imageBursts target bytes = [⟨target, bytes⟩] := if_pos hone
    simp only [hbursts, List.mem_singleton, forall_eq]
    refine ⟨.inl rfl, by simp, ⟨hpos, by omega⟩, by simp, rfl⟩
  · have hbursts : imageBursts target bytes = [⟨target, bytes.take (256 - target.toNat % 256)⟩,
        ⟨target + BitVec.ofNat 64 (256 - target.toNat % 256), bytes.drop (256 - target.toNat % 256)⟩] := if_neg hone
    have hnext : (target + BitVec.ofNat 64 (256 - target.toNat % 256)).toNat % 256 = 0 := by
      rw [BitVec.toNat_add, BitVec.toNat_ofNat]
      omega
    simp only [hbursts, List.mem_cons, List.not_mem_nil, or_false, forall_eq_or_imp, forall_eq, List.length_take,
      List.length_drop]
    refine ⟨.inr rfl, by simp, ⟨⟨by omega, by omega⟩, ⟨by omega, by rw [hnext]; omega⟩⟩, ?_, rfl⟩
    intro x hx
    simp only [List.tail_cons, List.zip_cons_cons, List.zip_nil_right, List.mem_singleton] at hx
    rw [hx]
    simp only [List.length_take]
    rw [Nat.min_eq_left (by omega)]

/-- The lists that an image tells of are within their capacities while the invariant holds (R40, R60, R127). -/
theorem imageBounded_of_inv {s : State} (h : Inv s) : ImageBounded s := by
  obtain ⟨hcapacity, -, -, -, hschedule, -⟩ := h
  obtain ⟨-, hcommits, hrecords, -⟩ := hcapacity
  obtain ⟨hstaged, hpend, hactive, -⟩ := hschedule
  exact ⟨hcommits, hrecords, hstaged.2.1, fun e he => (hpend e he).2.1, hactive.2.1⟩

/-- Settles O40: the items of the tables, their number, and the bursts that carry them. -/
theorem readOutImagesFitTheirBursts : Obligations.ReadOutImagesFitTheirBursts := by
  refine ⟨fun s o hlow hhigh => imageItems_eq_imageOf s hlow hhigh, fun s r rest hinv =>
    ⟨imageBounded_of_inv hinv, imageBounded_of_inv (s := s) hinv⟩, ?image⟩
  intro s o items hs hlow hhigh hitems bytes bursts
  have hcount := length_imageItems hs hlow hhigh hitems
  have hlength : bytes.length = 8 + 4 * items.length := length_imageBytes o.kind items
  have hheader : ([(1, o.kind), (1, 0), (2, items.length), (4, 0)].flatMap fun x => bytesLE x.1 x.2).length = 8 := by
    simp
  refine ⟨hlength, by omega, ?_, ?_, imageBursts_carry (by omega) (by omega)⟩
  · have hvalue := littleEndian_fields 0 [(1, o.kind), (1, 0), (2, items.length), (4, 0)]
    rw [Nat.mul_zero, pow_zero, Nat.one_mul] at hvalue
    have htake : bytes.take 8 = [(1, o.kind), (1, 0), (2, items.length), (4, 0)].flatMap fun x => bytesLE x.1 x.2 := by
      rw [← hheader]
      exact (congrArg _ (imageBytes_eq o.kind items)).trans List.take_left
    have hkind : o.kind < 2 ^ 8 := by omega
    have hitems : items.length < 2 ^ 16 := by omega
    rw [htake, hvalue, atOffsets, recordOfFields_cons, atOffsets, recordOfFields_zero, atOffsets, recordOfFields_cons,
      atOffsets, recordOfFields_zero, atOffsets]
    dsimp only
    rw [Nat.mod_eq_of_lt hkind, Nat.mod_eq_of_lt hitems]
    exact congrArg₂ _ (Nat.mul_one _) (Nat.add_zero _)
  · have hdrop : bytes.drop 8 = items.flatMap itemBytes := by
      rw [← hheader]
      exact (congrArg _ (imageBytes_eq o.kind items)).trans List.drop_left
    rw [hdrop]
    exact congrArg (items.flatMap ·) (funext itemBytes_eq)

end Sys2Proof.Laws
end

/-! ### READ_OUT -/

section
set_option Elab.async false
namespace Sys2Proof.Laws

open Sys2Proof Sys2Proof.Machine Sys2Proof.Safety

/-- The selector of a READ_OUT is valid for its kind (TABLE 9-2). -/
theorem selectorValid_iff (o : ReadOutOperands) : selectorValid o = true ↔ SelectorValid o := by
  unfold selectorValid SelectorValid
  split
  · rename_i hkind
    simp [hkind]
  · rename_i hkind
    simp [hkind]
  · rename_i hkind
    simp [hkind]
  · rename_i h1 h2 h6
    exact iff_of_true rfl ⟨fun h => absurd h h1, fun h => absurd h h2, fun h => absurd h h6⟩

/-- A READ_OUT finds no image exactly when the copy it names is absent (R158). -/
theorem imageItems_eq_none_iff (s : State) {o : ReadOutOperands} (hlow : 1 ≤ o.kind) (hhigh : o.kind ≤ 8) :
    imageItems s o = none ↔ CopyAbsent s o := by
  rw [imageItems_eq_imageOf s hlow hhigh]
  unfold imageOf CopyAbsent
  by_cases h1 : o.kind = 1
  · by_cases hc0 : o.copy = 0
    · simp [h1, hc0]
    · by_cases hc1 : o.copy = 1 <;> simp [h1, hc0, hc1]
  by_cases h2 : o.kind = 2
  · by_cases hc0 : o.copy = 0
    · simp [h2, hc0]
    · by_cases hc1 : o.copy = 1 <;> simp [h2, hc0, hc1]
  simp only [h1, h2, false_and, or_false, iff_false, if_false]
  repeat' split
  all_goals exact Option.some_ne_none _

/-- The image that a READ_OUT without a fault reads, or the fault of its length (R158). -/
theorem readOutImage_of_items {s : State} {o : ReadOutOperands} {items : List Item} (hkind : 1 ≤ o.kind ∧ o.kind ≤ 8)
    (hsel : SelectorValid o) (haligned : o.target.toNat % 64 = 0) (h : imageItems s o = some items) :
    readOutImage s o = if o.length < 8 + 4 * items.length then .inr (.range, 1)
      else .inl (imageBytes o.kind items) := by
  have hvalid : ¬ ((!selectorValid o) = true) := by rw [(selectorValid_iff o).2 hsel]; decide
  unfold readOutImage
  rw [if_neg (by omega), if_neg hvalid, if_neg (not_not.2 haligned), h]
  simp only [length_imageBytes]

/-- In its turn a READ_OUT with a fault is refused (R158). -/
theorem exec_readOut_of_fault {s : State} {r : Record} {rest : List Record} {status : Status} {detail : Nat}
    (hturn : LongTurn s r rest) (hkind : HasKind r 0x0B)
    (h : readOutImage (listed s r rest .refused none) (readOutOperands r) = .inr (status, detail)) :
    exec .readOut s = .next (listed s r rest .refused (some ⟨status, BitVec.ofNat 8 detail, 0⟩)) := by
  refine runLong_of_refused hturn (longRecord_of_kind hkind (by decide) (by decide))
    ((ofKind_eq_true_iff kindReadOut r).2 hkind) ?_
  have hsame : readOutImage (enterList r (advanceHead s rest) .refused none) (readOutOperands r) =
      .inr (status, detail) := h
  simp only [readOutOwner, hsame]

/-- In its turn a READ_OUT without a fault takes its image and issues its bursts (R160, R161). -/
theorem exec_readOut_of_image {s : State} {r : Record} {rest : List Record} {bytes : List Byte}
    (hturn : LongTurn s r rest) (hkind : HasKind r 0x0B)
    (h : readOutImage (listed s r rest .refused none) (readOutOperands r) = .inl bytes) :
    exec .readOut s = .next (listed s r rest (.image bytes.length
      (imageBursts (readOutOperands r).target bytes)) none) := by
  have hrun := runLong_of_turn readOutOwner hturn (longRecord_of_kind hkind (by decide) (by decide))
    ((ofKind_eq_true_iff kindReadOut r).2 hkind)
  have hsame : readOutImage (enterList r (advanceHead s rest) .refused none) (readOutOperands r) = .inl bytes := h
  simp only [readOutOwner, hsame] at hrun
  exact hrun

/-- The answer of a READ_OUT by the responses of its bursts (R161). -/
theorem imageAnswer_eq (size : Nat) (responses : List Resp) : imageAnswer size responses =
    if ∃ x ∈ responses, x = .slverr ∨ x = .decerr then ⟨.writeError, 0, 0⟩ else ⟨.ok, 0, BitVec.ofNat 32 size⟩ := by
  have hany : responses.any respIsError = true ↔ ∃ x ∈ responses, x = .slverr ∨ x = .decerr := by
    simp only [List.any_eq_true, respIsError_iff]
  exact if_congr hany rfl rfl

/-- Settles O39: the checks in their order, the snapshot, and the responses. -/
theorem readOutSnapshotsAnImage : Obligations.ReadOutSnapshotsAnImage := by
  refine ⟨?taking, ?responses⟩
  case taking =>
    intro s r rest hturn hkind o kindKnown aligned refused
    have hin : kindKnown → ¬ (o.kind < 1 ∨ 8 < o.kind) := by
      rintro ⟨hlow, hhigh⟩
      omega
    refine ⟨fun hk => ?_, fun hk hsel => ?_, fun hk hsel ha => ?_, fun hk hsel ha habsent => ?_,
      fun hk hsel ha hpresent => ?_⟩
    · have hout : o.kind < 1 ∨ 8 < o.kind := by
        by_contra hin
        exact hk ⟨by omega, by omega⟩
      exact exec_readOut_of_fault hturn hkind (if_pos hout)
    · have hinvalid : (!selectorValid o) = true := by
        rw [Bool.not_eq_true', ← Bool.not_eq_true, selectorValid_iff]
        exact hsel
      exact exec_readOut_of_fault hturn hkind ((if_neg (hin hk)).trans (if_pos hinvalid))
    · have hvalid : ¬ ((!selectorValid o) = true) := by rw [(selectorValid_iff o).2 hsel]; decide
      exact exec_readOut_of_fault hturn hkind ((if_neg (hin hk)).trans ((if_neg hvalid).trans (if_pos ha)))
    · have hvalid : ¬ ((!selectorValid o) = true) := by rw [(selectorValid_iff o).2 hsel]; decide
      have hnone : imageItems (listed s r rest .refused none) o = none :=
        (imageItems_eq_none_iff _ hk.1 hk.2).2 habsent
      refine exec_readOut_of_fault hturn hkind
        ((if_neg (hin hk)).trans ((if_neg hvalid).trans ((if_neg (not_not.2 ha)).trans ?_)))
      change (match imageItems (listed s r rest .refused none) o with
        | none => _
        | some items => _) = _
      rw [hnone]
    · obtain ⟨items, hitems⟩ := Option.ne_none_iff_exists'.1
        (mt (imageItems_eq_none_iff (listed s r rest .refused none) hk.1 hk.2).1 hpresent)
      have himage := readOutImage_of_items hk hsel ha hitems
      refine ⟨items, hitems, fun hshort => ?_, fun hlong => ?_⟩
      · exact exec_readOut_of_fault hturn hkind (himage.trans (if_pos hshort))
      · have hrun := exec_readOut_of_image hturn hkind (himage.trans (if_neg (by omega)))
        rw [length_imageBytes] at hrun
        exact hrun
  case responses =>
    intro s i size bursts responses e hdev he hwork hopen hcount failed a
    simp only [exec, execImageWriteDone, isEnabled_of hdev, he, hwork, hopen, hcount, if_true, imageAnswer_eq]
    rfl

end Sys2Proof.Laws
end

/-! ### A record replaced, and the drain of its frame -/

section
set_option Elab.async false
namespace Sys2Proof.Laws

open Sys2Proof Sys2Proof.Machine Sys2Proof.Safety

/-- The machine with the record of a reference replaced (R136 to R139). -/
def replaceRecord (s : State) (ref : Nat) (v : FrameRecord) : State :=
  { s with records := s.records.map fun z => if z.ref = ref then v else z }

/-- A change of a listed record replaces it, since its reference is its own (R127). -/
theorem updateRecord_eq_replaceRecord {s : State} {x : FrameRecord} (hd : (s.records.map FrameRecord.ref).Nodup)
    (hx : x ∈ s.records) (f : FrameRecord → FrameRecord) :
    updateRecord s x.ref f = replaceRecord s x.ref (f x) := by
  have hrecords : (s.records.map fun r => if r.ref == x.ref then f r else r) =
      s.records.map fun z => if z.ref = x.ref then f x else z := by
    refine List.map_congr_left fun z hz => ?_
    by_cases hsame : z.ref = x.ref
    · rw [if_pos (beq_iff_eq.2 hsame), if_pos hsame, List.inj_on_of_nodup_map hd hz hx hsame]
    · rw [if_neg (mt beq_iff_eq.1 hsame), if_neg hsame]
  simp only [updateRecord, replaceRecord, hrecords]

/-- A change of a replaced record replaces it again. -/
theorem updateRecord_replaceRecord {s : State} {ref : Nat} {v : FrameRecord} (hv : v.ref = ref)
    (f : FrameRecord → FrameRecord) :
    updateRecord (replaceRecord s ref v) ref f = replaceRecord s ref (f v) := by
  have hrecords : ((s.records.map fun z => if z.ref = ref then v else z).map fun r => if r.ref == ref then f r else r) =
      s.records.map fun z => if z.ref = ref then f v else z := by
    rw [List.map_map]
    refine List.map_congr_left fun z _ => ?_
    by_cases hsame : z.ref = ref <;> simp [hsame, hv]
  simp only [updateRecord, replaceRecord, hrecords]

/-- A replaced record is found by its reference. -/
theorem findRecord_replaceRecord {s : State} {x v : FrameRecord} (hx : x ∈ s.records) (hv : v.ref = x.ref) :
    findRecord (replaceRecord s x.ref v) x.ref = some v := by
  unfold findRecord replaceRecord
  generalize s.records = l at hx
  induction l with
  | nil => cases hx
  | cons y l ih =>
    by_cases hsame : y.ref = x.ref
    · simp [hsame, hv]
    · rcases List.mem_cons.1 hx with rfl | hmem
      · exact absurd rfl hsame
      · simpa [hsame] using ih hmem

/-- A replacement that keeps the turn leaves the next turn (R139; log 15). -/
theorem nextTurn_replaceRecord {s : State} {x v : FrameRecord} (hd : (s.records.map FrameRecord.ref).Nodup)
    (hx : x ∈ s.records) (hv : v.turn = x.turn) :
    nextTurn (replaceRecord s x.ref v).records = nextTurn s.records := by
  have hturns : (replaceRecord s x.ref v).records.map FrameRecord.turn = s.records.map FrameRecord.turn := by
    rw [replaceRecord, List.map_map]
    refine List.map_congr_left fun z hz => ?_
    by_cases hsame : z.ref = x.ref
    · rw [Function.comp, if_pos hsame, hv, List.inj_on_of_nodup_map hd hz hx hsame]
    · rw [Function.comp, if_neg hsame]
  rw [nextTurn, nextTurn, hturns]

/-- The statements write a replaced record by its own reference. -/
theorem replaceRecord_records {s : State} {v : FrameRecord} : (replaceRecord s v.ref v).records = withRecord s v := rfl

/-- A frame's payload has been answered when no staged byte and no burst is of it (R122). -/
theorem payloadAnswered_iff (c : Coder) (ref : Nat) : payloadAnswered c ref = true ↔
    (∀ b ∈ c.unissued, b.ref ≠ ref) ∧ ∀ b ∈ c.bursts, b.ref ≠ ref := by
  simp only [payloadAnswered, Bool.and_eq_true, List.all_eq_true, bne_iff_ne]

/-- The drain of the frame of a replaced record (R122, R123, R139). -/
theorem drainIfDone_replaceRecord {s : State} {x v : FrameRecord} (hd : (s.records.map FrameRecord.ref).Nodup)
    (hx : x ∈ s.records) (href : v.ref = x.ref) (hturn : v.turn = x.turn) :
    drainIfDone (replaceRecord s x.ref v) x.ref =
      replaceRecord { s with coder := (drained (nextTurn s.records) s.coder v).1 } x.ref
        (drained (nextTurn s.records) s.coder v).2 := by
  have hcond : (v.phase = .closing ∧ payloadAnswered s.coder x.ref = true ∧
      s.coder.headers.all (fun w => w.ref != x.ref) = true) ↔
      (v.phase = .closing ∧ (∀ b ∈ s.coder.unissued, b.ref ≠ v.ref) ∧ (∀ b ∈ s.coder.bursts, b.ref ≠ v.ref) ∧
        ∀ w ∈ s.coder.headers, w.ref ≠ v.ref) := by
    simp only [payloadAnswered_iff, List.all_eq_true, bne_iff_ne, href, and_assoc]
  unfold drainIfDone
  rw [findRecord_replaceRecord hx href]
  change (if v.phase = .closing ∧ payloadAnswered s.coder x.ref = true ∧
    s.coder.headers.all (fun w => w.ref != x.ref) = true then _ else _) = _
  by_cases hdone : v.phase = .closing ∧ (∀ b ∈ s.coder.unissued, b.ref ≠ v.ref) ∧
      (∀ b ∈ s.coder.bursts, b.ref ≠ v.ref) ∧ ∀ w ∈ s.coder.headers, w.ref ≠ v.ref
  · rw [if_pos (hcond.2 hdone), drained, if_pos hdone]
    by_cases hdisp : v.disposition = some .discard
    · have hdrain : drain (replaceRecord s x.ref v) v =
          enterReportWait (replaceRecord s x.ref v) x.ref .frameDiscarded := by
        unfold drain
        rw [hdisp, href]
      rw [if_pos hdisp, hdrain, enterReportWait, updateRecord_replaceRecord href, nextTurn_replaceRecord hd hx hturn]
    · rw [if_neg hdisp]
      unfold drain
      split
      · rename_i h
        exact absurd h hdisp
      · rfl
  · rw [if_neg (mt hcond.1 hdone), drained, if_neg hdone]

/-- The disposition of a record whose capture ends (R137). -/
theorem closeRecord_eq_closedRecord (x : FrameRecord) : closeRecord x = closedRecord x := by
  have hmask : ~~~ discardableDamage = 0xF8#8 := by decide
  have hdisp : dispositionOf x.bound.damagePolicy x.damage =
      if x.bound.damagePolicy = .discard ∧ x.damage ≠ 0 ∧ x.damage &&& 0xF8 = 0 then .discard else .deliver := by
    cases x.bound.damagePolicy with
    | deliver => simp [dispositionOf]
    | discard =>
      simp only [dispositionOf, onlyDiscardable, hmask, Bool.and_eq_true, bne_iff_ne, beq_iff_eq, true_and]
      rfl
  rw [closeRecord, closedRecord, hdisp]

/-- The end of the capture of a replaced record's frame (R110, R122, R137). -/
theorem endCapture_replaceRecord {s : State} {x v : FrameRecord} (hd : (s.records.map FrameRecord.ref).Nodup)
    (hx : x ∈ s.records) (href : v.ref = x.ref) (hturn : v.turn = x.turn) :
    endCapture (replaceRecord s x.ref v) x.ref =
      let last := drained (nextTurn s.records) { s.coder with openFrame := none } (closedRecord v)
      replaceRecord { s with coder := last.1 } x.ref last.2 := by
  have hclosed : updateRecord (replaceRecord s x.ref v) x.ref closeRecord =
      replaceRecord s x.ref (closedRecord v) := by
    rw [updateRecord_replaceRecord href, closeRecord_eq_closedRecord]
  unfold endCapture
  rw [hclosed]
  exact drainIfDone_replaceRecord (s := { s with coder := { s.coder with openFrame := none } }) hd hx href hturn

end Sys2Proof.Laws
end

/-! ### The hand-over of a row -/

section
set_option Elab.async false
namespace Sys2Proof.Laws

open Sys2Proof Sys2Proof.Machine Sys2Proof.Safety

/-- The predecessors after a staged row whose channels are distinct (R116). -/
theorem newPreds_eq (preds : Vector (Option Int) 16) {samples : List (Fin 16 × Int)}
    (h : (samples.map Prod.fst).Nodup) : newPreds preds samples = Vector.ofFn fun ch : Fin 16 =>
      match samples.find? fun x => x.1 == ch with
      | some x => some x.2
      | none => preds[ch] := by
  induction samples generalizing preds with
  | nil =>
    refine Vector.ext fun i hi => ?_
    simp [newPreds]
  | cons x samples ih =>
    obtain ⟨hnew, hrest⟩ := List.nodup_cons.1 h
    have hstep : newPreds preds (x :: samples) = newPreds (preds.set x.1 (some x.2)) samples := rfl
    rw [hstep, ih _ hrest]
    refine congrArg Vector.ofFn (funext fun ch => ?_)
    by_cases hch : x.1 = ch
    · have hnone : samples.find? (fun y => y.1 == ch) = none := by
        rw [List.find?_eq_none]
        intro y hy hsame
        exact hnew (List.mem_map.2 ⟨y, hy, (beq_iff_eq.1 hsame).trans hch.symm⟩)
      rw [List.find?_cons_of_pos (by exact beq_iff_eq.2 hch), hnone]
      simp [← hch]
    · have hother : (preds.set x.1 (some x.2))[ch] = preds[ch] := by
        have hne : x.1.val ≠ ch.val := fun he => hch (Fin.ext he)
        simp [hne]
      rw [List.find?_cons_of_neg (by exact mt beq_iff_eq.1 hch), hother]

/-- The bad-packet indication of a condition (R89). -/
theorem badPacket_eq (c : Condition) : badPacket c = decide (c = .bad ∨ c = .down) := by cases c <;> simp [badPacket]

/-- What the intake hands over is what R89 says. -/
theorem handoverOf_eq_handedOver (r : IntakeRow) (b : Profile) : handoverOf r b = handedOver r b := by
  simp only [handoverOf, handedOver, badPacket_eq, lastWindowRow_eq_finalRow, maskChannels, allChannels_eq_finRange]
  rfl

/-- The channels of a hand-over are distinct (R89). -/
theorem nodup_handedOver (r : IntakeRow) (b : Profile) : ((handedOver r b).samples.map Prod.fst).Nodup := by
  have hchannels : (handedOver r b).samples.map Prod.fst =
      (List.finRange 16).filter fun c => b.channelMask.getLsbD c.val := by
    rw [handedOver, List.map_map]
    exact List.map_id' _
  rw [hchannels]
  exact (List.nodup_finRange 16).filter _

/-- The damage of a row's samples (R90). -/
theorem rowDamage_eq_markedDamage (r : IntakeRow) (mask : BitVec 16) : rowDamage r mask = markedDamage r mask := by
  have hmarked (k : Condition) : ((maskChannels mask).any fun c =>
      fromConverter r c && r.conditions[portOf c] == k) = true ↔ MarkedBy r mask k := by
    simp only [List.any_eq_true, mem_maskChannels, Bool.and_eq_true, beq_iff_eq]
    rfl
  simp only [rowDamage, markedDamage, hmarked]
  rfl

/-- The row coder's decision on a record replaced by y, which differs from the record taken only in damage (R111). -/
theorem takeRow_replaceRecord {s : State} {x : FrameRecord} {h : Handover} (damage : BitVec 8)
    (hheld : storeHeld s.coder ≤ 8192) (hsamples : (h.samples.map Prod.fst).Nodup) :
    let kept := captured s.coder { x with damage := damage } h
    takeRow (replaceRecord s x.ref { x with damage := damage }) x h =
      replaceRecord { s with coder := kept.1 } x.ref kept.2 := by
  intro kept
  have hroom : storeSize - storeHeld s.coder < (codeRow x.bound s.coder.preds h).length ↔
      8192 < storeHeld s.coder + (codeRow x.bound s.coder.preds h).length := by
    unfold storeSize
    omega
  rcases takeRow_cases (replaceRecord s x.ref { x with damage := damage }) x h with
    ⟨hstop, hrow⟩ | ⟨hstop, hfull, hrow⟩ | ⟨hstop, hfits, hlost, hrow⟩ | ⟨hstop, hfits, hstaged, hrow⟩
  · have hkept : kept = (s.coder, { x with damage := damage }) := if_pos hstop
    rw [hrow, hkept]
  · have hkept : kept = ({ s.coder with stop := .truncated }, { x with damage := damage ||| 0x08 }) :=
      (if_neg (not_not.2 hstop)).trans (if_pos hfull)
    rw [hrow, hkept]
    exact updateRecord_replaceRecord (s := { s with coder := { s.coder with stop := .truncated } })
      (v := { x with damage := damage }) rfl fun r => { r with damage := r.damage ||| damageTruncated }
  · have hkept : kept = (s.coder, { x with damage := damage ||| 0x10, rowsLost := x.rowsLost + 1 }) :=
      (if_neg (not_not.2 hstop)).trans ((if_neg (Nat.not_lt.2 hfits)).trans (if_pos (hroom.1 hlost)))
    rw [hrow, hkept]
    exact updateRecord_replaceRecord (v := { x with damage := damage }) rfl fun r =>
      { r with rowsLost := r.rowsLost + 1, damage := r.damage ||| damageRowsLost }
  · have hstop' : ¬ (s.coder.stop ≠ .none) := not_not.2 hstop
    have hfits' : ¬ (x.descriptor.capacity.toNat < s.coder.cursor + (codeRow x.bound s.coder.preds h).length) :=
      Nat.not_lt.2 hfits
    have hstaged' : ¬ (8192 < storeHeld s.coder + (codeRow x.bound s.coder.preds h).length) :=
      mt hroom.2 (Nat.not_lt.2 hstaged)
    rw [hrow, newPreds_eq _ hsamples]
    simp only [kept, captured]
    rw [if_neg hstop', if_neg hfits', if_neg hstaged']
    exact updateRecord_replaceRecord (s := { s with coder := { s.coder with
        cursor := s.coder.cursor + (codeRow x.bound s.coder.preds h).length
        preds := _
        unissued := s.coder.unissued ++ stageBytes x.ref s.coder.cursor (codeRow x.bound s.coder.preds h) } })
      (v := { x with damage := damage }) rfl fun r => { r with
        rowsWritten := r.rowsWritten + 1
        payloadBytes := r.payloadBytes + (codeRow x.bound s.coder.preds h).length }

/-- A hand-over keeps the reference and the turn of its record. -/
theorem captured_ref_turn (c : Coder) (y : FrameRecord) (h : Handover) :
    (captured c y h).2.ref = y.ref ∧ (captured c y h).2.turn = y.turn := by
  unfold captured
  dsimp only
  split
  · exact ⟨rfl, rfl⟩
  · split
    · exact ⟨rfl, rfl⟩
    · split <;> exact ⟨rfl, rfl⟩

/-- The hand-over of a window row of a record (R89 to R91, R110, R111, R118, R122, R137). -/
theorem handOver_eq {s : State} {r : IntakeRow} {x : FrameRecord} (hd : (s.records.map FrameRecord.ref).Nodup)
    (hx : x ∈ s.records) (hheld : storeHeld s.coder ≤ 8192) :
    let kept := captured s.coder { x with damage := x.damage ||| markedDamage r x.bound.channelMask }
      (handedOver r x.bound)
    let last := if r.index = finalRow x.bound then
        drained (nextTurn s.records) { kept.1 with openFrame := none } (closedRecord kept.2)
      else kept
    handOver s r x = replaceRecord { s with coder := last.1 } x.ref last.2 := by
  intro kept last
  have hdamaged : addDamage s x.ref (rowDamage r x.bound.channelMask) =
      replaceRecord s x.ref { x with damage := x.damage ||| markedDamage r x.bound.channelMask } := by
    rw [rowDamage_eq_markedDamage]
    exact updateRecord_eq_replaceRecord hd hx _
  have hcoded : takeRow (addDamage s x.ref (rowDamage r x.bound.channelMask)) x (handoverOf r x.bound) =
      replaceRecord { s with coder := kept.1 } x.ref kept.2 := by
    rw [hdamaged, handoverOf_eq_handedOver]
    exact takeRow_replaceRecord _ hheld (nodup_handedOver r x.bound)
  obtain ⟨href, hturn⟩ := captured_ref_turn s.coder
    { x with damage := x.damage ||| markedDamage r x.bound.channelMask } (handedOver r x.bound)
  change (if (handoverOf r x.bound).last = true then endCapture (takeRow (addDamage s x.ref
      (rowDamage r x.bound.channelMask)) x (handoverOf r x.bound)) x.ref
    else takeRow (addDamage s x.ref (rowDamage r x.bound.channelMask)) x (handoverOf r x.bound)) = _
  rw [hcoded]
  have hlast : (handoverOf r x.bound).last = true ↔ r.index = finalRow x.bound := by
    rw [handoverOf_eq_handedOver]
    exact decide_eq_true_iff
  by_cases hend : r.index = finalRow x.bound
  · have hlast' : last = drained (nextTurn s.records) { kept.1 with openFrame := none } (closedRecord kept.2) :=
      if_pos hend
    rw [hlast']
    refine (if_pos (hlast.2 hend)).trans ?_
    exact endCapture_replaceRecord (s := { s with coder := kept.1 }) hd hx href hturn
  · have hlast' : last = kept := if_neg hend
    rw [hlast']
    exact if_neg (mt hlast.1 hend)

/-- A row is a window row (R89). -/
theorem isWindowRow_iff (b : Profile) (index : Nat) : isWindowRow b index = true ↔
    b.rowFirst ≤ index ∧ index ≤ b.rowLast ∧ (index - b.rowFirst) % b.rowStep = 0 := decide_eq_true_iff

/-- The record that takes a row's samples is the one that receives the row (R89). -/
theorem rowReceiver_eq_takingRecord {s : State} {r : IntakeRow} (hd : (s.records.map FrameRecord.ref).Nodup) :
    rowReceiver s r = takingRecord s.records r := by
  unfold rowReceiver takingRecord
  cases r.frame with
  | none => rfl
  | some f =>
    cases f with
    | dropped q p b reason => rfl
    | buffered q ref b =>
      dsimp only
      by_cases hwindow : b.rowFirst ≤ r.index ∧ r.index ≤ b.rowLast ∧ (r.index - b.rowFirst) % b.rowStep = 0
      · rw [if_pos ((isWindowRow_iff b r.index).2 hwindow), if_pos hwindow]
        cases hfind : findRecord s ref with
        | none =>
          symm
          simp only [List.find?_eq_none]
          intro y hy hboth
          have hnone := List.find?_eq_none.1 hfind y hy
          exact hnone (Bool.and_eq_true_iff.1 hboth).1
        | some x =>
          obtain ⟨hx, href⟩ := findRecord_mem hfind
          by_cases hopen : x.phase = .opened
          · have hmatch : (fun y : FrameRecord => y.ref == ref && y.phase == .opened) x = true := by simp [href, hopen]
            have hunique : ∀ y ∈ s.records, (y.ref == ref && y.phase == .opened) = true → y = x := by
              intro y hy hboth
              exact List.inj_on_of_nodup_map hd hy hx ((beq_iff_eq.1 (Bool.and_eq_true_iff.1 hboth).1).trans href.symm)
            simp only [if_pos hopen]
            obtain ⟨y, hy⟩ := Option.isSome_iff_exists.1 ((List.find?_isSome (p := fun y : FrameRecord =>
              y.ref == ref && y.phase == .opened)).2 ⟨x, hx, hmatch⟩)
            rw [hy, hunique y (List.mem_of_find?_eq_some hy) (by simpa using List.find?_some hy)]
          · simp only [if_neg hopen]
            symm
            rw [List.find?_eq_none]
            intro y hy hboth
            obtain ⟨hyref, hyopen⟩ := Bool.and_eq_true_iff.1 hboth
            have hsame := List.inj_on_of_nodup_map hd hy hx ((beq_iff_eq.1 hyref).trans href.symm)
            exact hopen (hsame ▸ beq_iff_eq.1 hyopen)
      · rw [if_neg (mt (isWindowRow_iff b r.index).1 hwindow), if_neg hwindow]

/-- The machine once the row in progress has been completed as row r (R88, R89). -/
def rowOver (s : State) (r : IntakeRow) : State :=
  { s with row := none, coder := (rowTaken s.coder s.records r).1, records := (rowTaken s.coder s.records r).2 }

/-- The completion of the row in progress (R88, R89). -/
theorem completeRow_eq {s : State} {r : IntakeRow} (hrow : s.row = some r)
    (hd : (s.records.map FrameRecord.ref).Nodup) (hheld : storeHeld s.coder ≤ 8192) :
    completeRow s = rowOver s r := by
  have hreceiver := rowReceiver_eq_takingRecord (s := { s with row := none }) (r := r) hd
  unfold completeRow
  rw [hrow]
  dsimp only
  rw [hreceiver]
  cases htaking : takingRecord s.records r with
  | none => simp only [rowOver, rowTaken, htaking]
  | some x =>
    obtain ⟨hx, -⟩ := rowReceiver_open (hreceiver.trans htaking)
    simp only [rowOver, rowTaken, htaking]
    exact handOver_eq (s := { s with row := none }) hd hx hheld

/-- A row is complete when no port's condition is PENDING (R88). -/
theorem rowComplete_iff (r : IntakeRow) : rowComplete r = true ↔ ∀ p : Fin 4, r.conditions[p] ≠ .pending := by
  simp only [rowComplete, allPorts_eq_finRange, List.all_eq_true, List.mem_finRange, bne_iff_ne, true_implies]

/-- A row that awaits a port goes on (R88). -/
theorem completeRowIfDone_of_awaiting {s : State} (h : ∀ r ∈ s.row, AwaitsPort r) : completeRowIfDone s = s := by
  unfold completeRowIfDone
  cases hrow : s.row with
  | none => rfl
  | some r =>
    obtain ⟨p, hp⟩ := h r hrow
    exact if_neg fun hdone => (rowComplete_iff r).1 hdone p hp

/-- A row that awaits no port is completed (R88). -/
theorem completeRowIfDone_of_done {s : State} {r : IntakeRow} (hrow : s.row = some r)
    (hdone : ∀ p : Fin 4, r.conditions[p] ≠ .pending) : completeRowIfDone s = completeRow s := by
  unfold completeRowIfDone
  rw [hrow]
  exact if_pos ((rowComplete_iff r).2 hdone)

end Sys2Proof.Laws
end

/-! ### Verdicts on replies -/

section
set_option Elab.async false
namespace Sys2Proof.Laws

open Sys2Proof Sys2Proof.Machine Sys2Proof.Safety

/-- The check word goes with the others when all six sum to 0xFFFF (TABLE 5-2). -/
theorem replyCheck_iff (w0 w1 w2 w3 w4 w5 : Half) :
    w5 = replyCheck w0 w1 w2 w3 w4 ↔ w0 + w1 + w2 + w3 + w4 + w5 = 0xFFFF#16 := by
  unfold replyCheck
  generalize w0 + w1 + w2 + w3 + w4 = sum
  constructor
  · rintro rfl
    bv_omega
  · intro h
    bv_omega

/-- A reply is GOOD (R74). -/
theorem replyGood_iff (bits : BitVec 96) : replyGood bits = true ↔ GoodReply bits := by
  rw [replyGood, Bool.and_eq_true, beq_iff_eq, beq_iff_eq, replyCheck_iff]
  rfl

/-- A reply is CORRECT (R74). -/
theorem replyCorrect_iff (bits : BitVec 96) : replyCorrect bits = true ↔ CorrectReply bits := by
  simp only [replyCorrect, Bool.and_eq_true, beq_iff_eq, replyGood_iff, and_assoc]
  rfl

/-- The verdict on a complete reply is GOOD or not by R74. -/
theorem verdictOf_isGood_iff (bits : BitVec 96) : (verdictOf bits).isGood = true ↔ GoodReply bits := by
  rw [← replyGood_iff]
  unfold verdictOf
  split <;> simp_all [Verdict.isGood]

/-- The verdict on a complete reply is that of a CORRECT one by R74. -/
theorem verdictOf_eq_correct_iff (bits : BitVec 96) : verdictOf bits = .good true ↔ CorrectReply bits := by
  rw [← replyCorrect_iff]
  unfold verdictOf
  by_cases hgood : replyGood bits = true
  · simp [hgood]
  · simp [hgood, replyCorrect]

/-- The condition of a complete reply is that of the statements (R76). -/
theorem conditionOf_eq_conditionAfter (bits : BitVec 96) : conditionOf bits = conditionAfter bits :=
  if_congr (replyGood_iff bits) rfl rfl

/-- A reply decides a condition (R76). -/
theorem conditionAfter_ne_pending (bits : BitVec 96) : conditionAfter bits ≠ .pending := by
  unfold conditionAfter
  split <;> exact nofun

/-- A change of state is counted up to 255 (R80). -/
theorem changePort_eq_changedPort (q : Port) (state : PortState) (cause : PortCause) :
    changePort q state cause = changedPort q state cause := by
  have hcount : min 255 (q.changeCount + 1) = if q.changeCount < 255 then q.changeCount + 1 else 255 := by
    split <;> omega
  rw [changePort, changedPort, hcount]

/-- An UP port after a verdict (R76). -/
theorem judgeUp_eq_upAfter (q : Port) {v : Verdict} {good : Prop} [Decidable good] (h : v.isGood = true ↔ good) :
    judgeUp q v = upAfter q good := by
  unfold judgeUp upAfter
  by_cases hgood : good
  · rw [if_pos (h.2 hgood), if_pos hgood]
  · rw [if_neg (mt h.1 hgood), if_neg hgood]
    by_cases hcount : q.consecutiveBad < 7
    · rw [if_neg (by omega), if_pos hcount]
    · rw [if_pos (by omega), if_neg hcount, changePort_eq_changedPort]

/-- A port that has spent its 512 requests is LOST (R77). -/
theorem spendCheck_fst (q : Port) :
    (spendCheck q).1 = if 512 ≤ q.alignSpent then changedPort q .lost .alignFailed else q := by
  unfold spendCheck
  rw [changePort_eq_changedPort]
  split <;> rfl

/-- An ALIGNING port after a verdict (R77). -/
theorem judgeAligning_eq_aligningAfter (q : Port) {v : Verdict} {correct : Prop} [Decidable correct]
    (h : v = .good true ↔ correct) : (judgeAligning q v).1 = aligningAfter q correct := by
  unfold judgeAligning aligningAfter
  by_cases hcorrect : correct
  · rw [if_pos (h.2 hcorrect), if_pos hcorrect]
    by_cases hcount : 7 ≤ q.goodAlign
    · rw [if_pos (by omega), if_pos ⟨hcorrect, hcount⟩, changePort_eq_changedPort]
    · have hnot : ¬ (correct ∧ 7 ≤ q.goodAlign) := fun hand => hcount hand.2
      rw [if_neg (by omega), if_neg hnot, spendCheck_fst]
      rfl
  · have hnot : ¬ (correct ∧ 7 ≤ q.goodAlign) := fun hand => hcorrect hand.1
    rw [if_neg (mt h.1 hcorrect), if_neg hcorrect, if_neg hnot, spendCheck_fst]
    rfl

/-- What a verdict does to an alignment shows in the port (R77). -/
theorem judgeAligning_outcome {q : Port} (hq : q.state = .aligning) (v : Verdict) :
    (judgeAligning q v).2 = if (judgeAligning q v).1.state = .aligning then .goesOn
      else if (judgeAligning q v).1.state = .up then .aligned q.alignSpent else .failed := by
  unfold judgeAligning spendCheck
  split
  · split
    · rfl
    · split <;> rfl
  · split <;> rfl

/-- A verdict leaves the window as it is. -/
theorem upAfter_window (q : Port) (w : Option ReplyWindow) (good : Prop) [Decidable good] :
    upAfter { q with window := w } good = { upAfter q good with window := w } := by
  unfold upAfter
  by_cases hgood : good
  · simp only [if_pos hgood]
  · by_cases hcount : q.consecutiveBad < 7
    · simp only [if_neg hgood, if_pos hcount]
    · simp only [if_neg hgood, if_neg hcount]
      rfl

/-- A verdict leaves the window of an alignment as it is. -/
theorem aligningAfter_window (q : Port) (w : Option ReplyWindow) (correct : Prop) [Decidable correct] :
    aligningAfter { q with window := w } correct = { aligningAfter q correct with window := w } := by
  unfold aligningAfter
  by_cases hup : correct ∧ 7 ≤ q.goodAlign
  · simp only [if_pos hup]
    rfl
  · by_cases hspent : 512 ≤ q.alignSpent
    · simp only [if_neg hup, if_pos hspent]
      rfl
    · simp only [if_neg hup, if_neg hspent]

/-- Two settings of one port. -/
theorem setPort_setPort (s : State) (p : Fin 4) (a b : Port) : setPort (setPort s p a) p b = setPort s p b := by
  simp [setPort]

/-- The port that has been set. -/
theorem getElem_setPort_self (s : State) (p : Fin 4) (q : Port) : (setPort s p q).ports[p] = q := by
  simp [setPort]

/-- The machine with the reply of port p's window w taken (R74). -/
def replyTaken (s : State) (p : Fin 4) (w : ReplyWindow) : State :=
  setPort s p { s.ports[p] with window := takenWindow w }

/-- A reply in a port's open window is judged (R74). -/
theorem exec_replyReceived_of_taken {s : State} {p : Fin 4} {w : ReplyWindow} (bits : BitVec 96)
    (h : ReplyTaken s p w) (hstate : s.ports[p].state = .up ∨ s.ports[p].state = .aligning) :
    exec (.replyReceived p true bits) s = .next (completeRowIfDone
      (applyVerdict (replyTaken s p w) p w (verdictOf bits) (conditionOf bits))) := by
  have hwindow : takingWindow s p true = some w := takingWindow_eq_some.2 ⟨h, rfl, hstate⟩
  simp only [exec, execReplyReceived, hwindow]
  rfl

/-- The verdict on an UP port's row or maintenance reply (R76). -/
theorem applyVerdict_of_up {s : State} {p : Fin 4} {w : ReplyWindow} (bits : BitVec 96)
    (hup : s.ports[p].state = .up) (hkind : w.alignment = false) (c : Condition) :
    applyVerdict (replyTaken s p w) p w (verdictOf bits) c =
      let judged := setPort s p { upAfter s.ports[p] (GoodReply bits) with window := takenWindow w }
      if w.atRow then decideCondition judged p c else judged := by
  have hport : (replyTaken s p w).ports[p] = { s.ports[p] with window := takenWindow w } :=
    getElem_setPort_self s p _
  have hjudged : setPort (replyTaken s p w) p (judgeUp (replyTaken s p w).ports[p] (verdictOf bits)) =
      setPort s p { upAfter s.ports[p] (GoodReply bits) with window := takenWindow w } := by
    rw [hport, judgeUp_eq_upAfter _ (verdictOf_isGood_iff bits), upAfter_window]
    exact setPort_setPort ..
  have hstate : (replyTaken s p w).ports[p].state = .up := by rw [hport]; exact hup
  unfold applyVerdict
  simp only [hstate, hkind, Bool.false_eq_true, if_false, hjudged]

/-- A reply to a strobe that the port's state does not send has no verdict (log 28). -/
theorem applyVerdict_of_other_kind {s : State} {p : Fin 4} {w : ReplyWindow} (v : Verdict) (c : Condition)
    (h : s.ports[p].state = .up ∧ w.alignment = true ∨ s.ports[p].state = .aligning ∧ w.alignment = false) :
    applyVerdict (replyTaken s p w) p w v c = replyTaken s p w := by
  have hport : (replyTaken s p w).ports[p].state = s.ports[p].state := by
    rw [show (replyTaken s p w).ports[p] = { s.ports[p] with window := takenWindow w } from
      getElem_setPort_self s p _]
  unfold applyVerdict
  rcases h with ⟨hstate, hkind⟩ | ⟨hstate, hkind⟩
  · simp only [hport, hstate, hkind, if_true]
  · simp only [hport, hstate, hkind, Bool.false_eq_true, if_false]

/-- The condition of a PENDING port is decided (R88). -/
theorem decideCondition_of_pending {s : State} {p : Fin 4} {r : IntakeRow} (hrow : s.row = some r)
    (hp : r.conditions[p] = .pending) (c : Condition) :
    decideCondition s p c = { s with row := some (decidedRow r p c) } := by
  unfold decideCondition
  rw [hrow]
  exact if_pos hp

/-- A decided condition stays (R88). -/
theorem decideCondition_of_decided {s : State} {p : Fin 4} (h : ∀ r ∈ s.row, r.conditions[p] ≠ .pending)
    (c : Condition) : decideCondition s p c = s := by
  unfold decideCondition
  cases hrow : s.row with
  | none => rfl
  | some r => exact if_neg (h r hrow)

/-- A decided row awaits another port exactly when one is PENDING (R88). -/
theorem decidedRow_pending_iff {r : IntakeRow} {p : Fin 4} {c : Condition} (hc : c ≠ .pending) :
    AwaitsPort (decidedRow r p c) ↔ ¬ OthersDecided r p := by
  have hcondition (q : Fin 4) : (decidedRow r p c).conditions[q] = if q = p then c else r.conditions[q] := by
    by_cases hq : q = p
    · subst hq
      simp [decidedRow]
    · have hne : p.val ≠ q.val := fun he => hq (Fin.ext he.symm)
      simp [decidedRow, hq, Vector.getElem_set_ne _ _ hne]
  constructor
  · rintro ⟨q, hq⟩ hothers
    rw [hcondition] at hq
    by_cases hqp : q = p
    · rw [if_pos hqp] at hq
      exact hc hq
    · rw [if_neg hqp] at hq
      exact hothers q hqp hq
  · intro hnot
    simp only [OthersDecided, not_forall, not_not] at hnot
    obtain ⟨q, hqp, hq⟩ := hnot
    refine ⟨q, ?_⟩
    rw [hcondition, if_neg hqp]
    exact hq

/-- With every other port decided the row is complete (R88). -/
theorem decidedRow_complete {r : IntakeRow} {p : Fin 4} {c : Condition} (hc : c ≠ .pending)
    (h : OthersDecided r p) : ∀ q : Fin 4, (decidedRow r p c).conditions[q] ≠ .pending := fun q hq =>
  (decidedRow_pending_iff hc).1 ⟨q, hq⟩ h

/-! ### What a completed row leaves alone -/

/-- A row coder's decision changes the row coder and the records only (R111). -/
theorem takeRow_frame (s : State) (x : FrameRecord) (h : Handover) :
    takeRow s x h = { s with coder := (takeRow s x h).coder, records := (takeRow s x h).records } := by
  rcases takeRow_cases s x h with ⟨-, hrow⟩ | ⟨-, -, hrow⟩ | ⟨-, -, -, hrow⟩ | ⟨-, -, -, hrow⟩ <;>
    (rw [hrow]; try rfl)

/-- The drain changes the row coder and the records only (R122). -/
theorem drainIfDone_frame (s : State) (ref : Nat) : drainIfDone s ref =
    { s with coder := (drainIfDone s ref).coder, records := (drainIfDone s ref).records } := by
  rcases drainIfDone_cases s ref with hsame | ⟨r, -, -, -, hsame | hsame⟩ <;> (rw [hsame]; try rfl)

/-- The end of a capture changes the row coder and the records only (R110, R137). -/
theorem endCapture_frame (s : State) (ref : Nat) : endCapture s ref =
    { s with coder := (endCapture s ref).coder, records := (endCapture s ref).records } := by
  unfold endCapture
  rw [drainIfDone_frame]
  rfl

/-- A hand-over changes the row coder and the records only (R89). -/
theorem handOver_frame (s : State) (r : IntakeRow) (x : FrameRecord) : handOver s r x =
    { s with coder := (handOver s r x).coder, records := (handOver s r x).records } := by
  unfold handOver
  dsimp only
  split
  · rw [endCapture_frame, takeRow_frame]
    rfl
  · rw [takeRow_frame]
    rfl

/-- The completion of a row changes the row, the row coder and the records only (R88, R89). -/
theorem completeRow_frame (s : State) : completeRow s =
    { s with row := none, coder := (completeRow s).coder, records := (completeRow s).records } := by
  rcases completeRow_cases s with ⟨hnone, hrow⟩ | ⟨r, hsome, ⟨-, hrow⟩ | ⟨x, -, hrow⟩⟩
  · rw [hrow, ← hnone]
  · rw [hrow]
  · rw [hrow, handOver_frame]

/-! ### Replies to UP and ALIGNING ports -/

/-- Settles O19: the four cases of a reply to an UP port, and those without a verdict or a taking. -/
theorem replyToAnUpPortIsJudged : Obligations.ReplyToAnUpPortIsJudged := by
  intro s p bits
  have huntaken {own : Bool} (h : takingWindow s p own = none) : exec (.replyReceived p own bits) s = .next s := by
    simp only [exec, execReplyReceived, h]
  refine ⟨?judged, fun w htaken hrow hkind => ?other, ?outside, fun hnot => ?untaken⟩
  case judged =>
    intro w htaken hup hkind q
    have hexec := exec_replyReceived_of_taken bits htaken (.inl hup)
    rw [applyVerdict_of_up bits hup hkind, conditionOf_eq_conditionAfter] at hexec
    refine ⟨fun hundecided hawaits => ?_, fun hat r hr hp => ?_⟩
    · have hdecide : (if w.atRow then decideCondition (setPort s p q) p (conditionAfter bits) else setPort s p q) =
          setPort s p q := by
        rcases hundecided with hat | hdecided
        · rw [if_neg (by rw [hat]; decide)]
        · split
          · exact decideCondition_of_decided (s := setPort s p q) hdecided _
          · rfl
      exact hexec.trans (congrArg _ ((congrArg completeRowIfDone hdecide).trans
        (completeRowIfDone_of_awaiting (s := setPort s p q) hawaits)))
    · have hdecide : (if w.atRow then decideCondition (setPort s p q) p (conditionAfter bits) else setPort s p q) =
          { setPort s p q with row := some (decidedRow r p (conditionAfter bits)) } :=
        (if_pos hat).trans (decideCondition_of_pending (s := setPort s p q) hr hp _)
      have hexec' := hexec.trans (congrArg (fun t => Host.Outcome.next (completeRowIfDone t)) hdecide)
      refine ⟨fun hothers => ?_, fun hothers => ?_⟩
      · refine hexec'.trans (congrArg _ (completeRowIfDone_of_awaiting fun x hx => ?_))
        obtain rfl := Option.some.inj hx
        exact (decidedRow_pending_iff (conditionAfter_ne_pending bits)).2 hothers
      · refine ⟨_, hexec', ?_⟩
        rw [completeRowIfDone_of_done rfl (decidedRow_complete (conditionAfter_ne_pending bits) hothers),
          completeRow_frame]
        exact ⟨rfl, rfl⟩
  case other =>
    have hstate : s.ports[p].state = .up ∨ s.ports[p].state = .aligning := hkind.imp And.left And.left
    rw [exec_replyReceived_of_taken bits htaken hstate, applyVerdict_of_other_kind _ _ hkind]
    exact congrArg _ (completeRowIfDone_of_awaiting (s := replyTaken s p w) hrow)
  case outside =>
    refine huntaken ?_
    cases hwindow : takingWindow s p false with
    | none => rfl
    | some w => exact absurd (takingWindow_eq_some.1 hwindow).2.1 (by decide)
  case untaken =>
    refine huntaken ?_
    cases hwindow : takingWindow s p true with
    | none => rfl
    | some w =>
      obtain ⟨⟨hdev, hfitted, hopen, hanswered⟩, -, hstate⟩ := takingWindow_eq_some.1 hwindow
      exfalso
      rcases hnot with h | h | h | h | h | ⟨v, hv, h⟩
      · unfold fitted at h
        omega
      · exact hdev h
      · rw [h] at hstate
        exact hstate.elim nofun nofun
      · rw [h] at hstate
        exact hstate.elim nofun nofun
      · exact absurd (hopen.symm.trans h) nofun
      · obtain rfl := Option.some.inj (hopen.symm.trans hv)
        exact absurd (hanswered.symm.trans h) (by decide)

/-- The verdict on an ALIGNING port's reply (R77). -/
theorem applyVerdict_of_aligning {s : State} {p : Fin 4} {w : ReplyWindow} (bits : BitVec 96)
    (hstate : s.ports[p].state = .aligning) (hkind : w.alignment = true) (c : Condition) :
    applyVerdict (replyTaken s p w) p w (verdictOf bits) c =
      let q := { aligningAfter s.ports[p] (CorrectReply bits) with window := takenWindow w }
      finishAlign (setPort s p q) p (if q.state = .aligning then .goesOn
        else if q.state = .up then .aligned s.ports[p].alignSpent else .failed) := by
  have hport : (replyTaken s p w).ports[p] = { s.ports[p] with window := takenWindow w } :=
    getElem_setPort_self s p _
  have hafter : (judgeAligning (replyTaken s p w).ports[p] (verdictOf bits)).1 =
      { aligningAfter s.ports[p] (CorrectReply bits) with window := takenWindow w } := by
    rw [hport, judgeAligning_eq_aligningAfter _ (verdictOf_eq_correct_iff bits), aligningAfter_window]
  have haligning : (replyTaken s p w).ports[p].state = .aligning := by rw [hport]; exact hstate
  have houtcome := judgeAligning_outcome haligning (verdictOf bits)
  have hspent : (replyTaken s p w).ports[p].alignSpent = s.ports[p].alignSpent := by rw [hport]
  rw [hafter, hspent] at houtcome
  unfold applyVerdict
  simp only [haligning, hkind, if_true, hafter, houtcome]
  exact congrArg (fun t => finishAlign t p _) (setPort_setPort ..)

/-- Settles O20: the alignment goes on, or ends with the answer of its PORT_ALIGN. -/
theorem replyToAnAligningPortIsJudged : Obligations.ReplyToAnAligningPortIsJudged := by
  intro s p w bits htaken hstate hkind hrow q
  have hexec := exec_replyReceived_of_taken bits htaken (.inr hstate)
  rw [applyVerdict_of_aligning bits hstate hkind] at hexec
  refine ⟨fun hgoes => ?_, fun hends => ⟨Config.freeDetail s.freeCount, ?_⟩⟩
  · have hfinish : (if q.state = .aligning then AlignOutcome.goesOn
        else if q.state = .up then .aligned s.ports[p].alignSpent else .failed) = .goesOn := if_pos hgoes
    refine hexec.trans (congrArg _ ?_)
    change completeRowIfDone (finishAlign (setPort s p q) p _) = _
    rw [hfinish]
    exact completeRowIfDone_of_awaiting (s := setPort s p q) hrow
  · intro a
    refine hexec.trans (congrArg _ ?_)
    change completeRowIfDone (finishAlign (setPort s p q) p (if q.state = .aligning then AlignOutcome.goesOn
      else if q.state = .up then .aligned s.ports[p].alignSpent else .failed)) = _
    rw [if_neg hends]
    by_cases hup : q.state = .up
    · have ha : a = freeDetailAnswer (setPort s p q) .ok s.ports[p].alignSpent := by
        simp only [a, hup, if_true]
        rfl
      rw [if_pos hup, ha]
      exact completeRowIfDone_of_awaiting (s := finishAlign (setPort s p q) p (.aligned s.ports[p].alignSpent)) hrow
    · have ha : a = freeDetailAnswer (setPort s p q) .alignFailed 512 := by
        simp only [a, hup, if_false]
        rfl
      rw [if_neg hup, ha]
      exact completeRowIfDone_of_awaiting (s := finishAlign (setPort s p q) p .failed) hrow

/-- The row coder after a drain has no open frame if it had none (R122). -/
theorem drained_openFrame (turn : Nat) (c : Coder) (x : FrameRecord) : (drained turn c x).1.openFrame = c.openFrame := by
  unfold drained
  split
  · split <;> rfl
  · rfl

/-- A drain keeps what a closed record has gathered, and does not open it again (R122). -/
theorem drained_keeps (turn : Nat) (c : Coder) {x : FrameRecord} (hx : x.phase = .closing) :
    let z := (drained turn c x).2
    z.ref = x.ref ∧ z.phase ≠ .opened ∧ z.damage = x.damage ∧ z.rowsWritten = x.rowsWritten ∧
      z.rowsLost = x.rowsLost ∧ z.payloadBytes = x.payloadBytes ∧ z.disposition = x.disposition := by
  have hclosed : x.phase ≠ .opened := by rw [hx]; decide
  unfold drained
  split
  · split
    · exact ⟨rfl, nofun, rfl, rfl, rfl, rfl, rfl⟩
    · exact ⟨rfl, hclosed, rfl, rfl, rfl, rfl, rfl⟩
  · exact ⟨rfl, hclosed, rfl, rfl, rfl, rfl, rfl⟩

/-- A window row of a listed OPEN record's frame is taken for it (R89). -/
theorem takingRecord_of_slotHolds {records : List FrameRecord} {r : IntakeRow} {x : FrameRecord}
    (hd : (records.map FrameRecord.ref).Nodup) (hx : x ∈ records) (hopen : x.phase = .opened)
    (hslot : slotHolds r.frame x) (hwindow : x.bound.rowFirst ≤ r.index ∧ r.index ≤ x.bound.rowLast ∧
      (r.index - x.bound.rowFirst) % x.bound.rowStep = 0) : takingRecord records r = some x := by
  have hfind : records.find? (fun y => y.ref == x.ref && y.phase == .opened) = some x := by
    obtain ⟨y, hy⟩ := Option.isSome_iff_exists.1 ((List.find?_isSome (p := fun y : FrameRecord =>
      y.ref == x.ref && y.phase == .opened)).2 ⟨x, hx, by simp [hopen]⟩)
    have hsame : y.ref = x.ref ∧ y.phase = .opened := by simpa using List.find?_some hy
    rw [hy, List.inj_on_of_nodup_map hd (List.mem_of_find?_eq_some hy) hx hsame.1]
  unfold takingRecord
  rw [hslot]
  exact (if_pos hwindow).trans hfind

/-- Settles O21: the last verdict completes the row, and the record of its frame takes it. -/
theorem completedWindowRowIsHandedOver : Obligations.CompletedWindowRowIsHandedOver := by
  intro s p w bits row htaken hup hkind hat hrow hp hothers hdistinct hheld r after
  obtain ⟨hd, -⟩ := hdistinct
  refine ⟨?completed, ?taken⟩
  case completed =>
    have hexec := exec_replyReceived_of_taken bits htaken (.inl hup)
    rw [applyVerdict_of_up bits hup hkind, conditionOf_eq_conditionAfter] at hexec
    let q := { upAfter s.ports[p] (GoodReply bits) with window := takenWindow w }
    have hdecide : (if w.atRow then decideCondition (setPort s p q) p (conditionAfter bits) else setPort s p q) =
        { setPort s p q with row := some r } :=
      (if_pos hat).trans (decideCondition_of_pending (s := setPort s p q) hrow hp _)
    refine hexec.trans (congrArg _ ((congrArg completeRowIfDone hdecide).trans ?_))
    rw [completeRowIfDone_of_done rfl (decidedRow_complete (conditionAfter_ne_pending bits) hothers)]
    exact completeRow_eq (s := { setPort s p q with row := some r }) rfl hd hheld
  case taken =>
    intro x hx hopen hslot hfirst hlast hstep y kept
    have htaking : takingRecord s.records r = some x :=
      takingRecord_of_slotHolds hd hx hopen hslot ⟨hfirst, hlast, hstep⟩
    have hindex : r.index = row.index := rfl
    have hmem {z : FrameRecord} : z ∈ s.records.map fun y => if y.ref = x.ref then z else y :=
      List.mem_map.2 ⟨x, hx, if_pos rfl⟩
    refine ⟨fun hnot => ?_, fun hend => ?_⟩
    · have hafter : after = (kept.1, s.records.map fun z => if z.ref = x.ref then kept.2 else z) := by
        simp only [after, rowTaken, htaking, hindex, if_neg hnot]
        rfl
      rw [hafter]
      exact ⟨rfl, hmem⟩
    · have hafter : after =
          let last := drained (nextTurn s.records) { kept.1 with openFrame := none } (closedRecord kept.2)
          (last.1, s.records.map fun z => if z.ref = x.ref then last.2 else z) := by
        simp only [after, rowTaken, htaking, hindex, if_pos hend]
        rfl
      rw [hafter]
      obtain ⟨href, hphase, hdamage, hwritten, hlost, hbytes, hdisp⟩ :=
        drained_keeps (nextTurn s.records) { kept.1 with openFrame := none } (x := closedRecord kept.2) rfl
      have hcaptured : kept.2.ref = x.ref := (captured_ref_turn s.coder y (handedOver r x.bound)).1
      exact ⟨drained_openFrame .., _, hmem, href.trans hcaptured, hphase, hdamage, hwritten, hlost, hbytes, hdisp⟩

end Sys2Proof.Laws
end

/-! ### PORT_ALIGN -/

section
set_option Elab.async false
namespace Sys2Proof.Laws

open Sys2Proof Sys2Proof.Machine Sys2Proof.Safety

/-- The port at the taking of its PORT_ALIGN (R78, R80). -/
theorem aligningPort_eq (q : Port) : changePort (abandonRowWindow q) .aligning .alignRequested =
    { changedPort q .aligning .alignRequested with window := windowAfterAlign q } := by
  have hwindow : abandonRowWindow q = { q with window := windowAfterAlign q } := by
    obtain ⟨state, bad, good, spent, cause, reported, changes, window, pulse⟩ := q
    cases state <;> cases window <;> simp [abandonRowWindow, windowAfterAlign, Option.filter]
    split <;> simp_all
  rw [changePort_eq_changedPort, hwindow]
  rfl

/-- In its turn a PORT_ALIGN with a fault is refused (R78). -/
theorem exec_portAlign_of_fault {s : State} {r : Record} {rest : List Record} {status : Status} {detail : Nat}
    (hturn : LongTurn s r rest) (hkind : HasKind r 0x08)
    (h : alignFault s (recordNat r 0x08 1) = some (status, detail)) :
    exec .portAlign s = .next (listed s r rest .refused (some ⟨status, BitVec.ofNat 8 detail, 0⟩)) := by
  refine runLong_of_refused hturn (longRecord_of_kind hkind (by decide) (by decide))
    ((ofKind_eq_true_iff kindPortAlign r).2 hkind) ?_
  have hsame : alignFault (advanceHead s rest) (recordNat r 0x08 1) = some (status, detail) := h
  simp only [portAlignOwner, hsame]

/-- The machine with port q ALIGNING (R78). -/
def portAligning (s : State) (q : Fin 4) : State :=
  { s with ports := s.ports.set q { changedPort s.ports[q] .aligning .alignRequested with
      window := windowAfterAlign s.ports[q] } }

/-- In its turn a PORT_ALIGN without a fault begins the alignment (R78, R88). -/
theorem exec_portAlign_of_no_fault {s : State} {r : Record} {rest : List Record} {q : Fin 4}
    (hturn : LongTurn s r rest) (hkind : HasKind r 0x08) (hq : q.val = recordNat r 0x08 1)
    (h : alignFault s (recordNat r 0x08 1) = none) :
    exec .portAlign s = .next (enterList r
      (completeRowIfDone (decideCondition (portAligning (advanceHead s rest) q) q .down)) (.align q) none) := by
  have hrun := runLong_of_turn portAlignOwner hturn (longRecord_of_kind hkind (by decide) (by decide))
    ((ofKind_eq_true_iff kindPortAlign r).2 hkind)
  have hsame : alignFault (advanceHead s rest) (recordNat r 0x08 1) = none := h
  simp only [portAlignOwner, hsame, ofNat_four_eq hq.symm, aligningPort_eq] at hrun
  exact hrun

/-- A statement about the port of a record's port number (R78). -/
theorem alignFault_eq_none_iff (s : State) {p : Nat} {q : Fin 4} (hq : q.val = p) :
    alignFault s p = none ↔ p < fitted s ∧ s.ports[q].state ≠ .aligning := by
  have hlt : p < 4 := hq ▸ q.isLt
  unfold alignFault
  simp only [if_neg (Nat.not_le.2 hlt), ite_none_iff, ofNat_four_eq hq.symm, not_le, and_true, ne_eq]

/-- Settles O36: the checks, and then the row as the DOWN condition leaves it. -/
theorem portAlignBeginsAlignment : Obligations.PortAlignBeginsAlignment := by
  intro s r rest hturn hkind p refused
  have hfault {status : Status} {detail : Nat} (h : alignFault s p = some (status, detail)) :
      refused status detail := exec_portAlign_of_fault hturn hkind h
  refine ⟨fun hp => ?_, fun hp hfit => ?_, fun q hq hfit hstate => ?_, ?begun⟩
  · exact hfault (if_pos hp)
  · exact hfault ((if_neg (Nat.not_le.2 hp)).trans (if_pos hfit))
  · refine hfault ?_
    have hlt : p < 4 := lt_of_eq_of_lt hq.symm q.isLt
    unfold alignFault
    simp only [if_neg (Nat.not_le.2 hlt), if_neg (Nat.not_le.2 hfit), ofNat_four_eq hq.symm, if_pos hstate]
  case begun =>
    intro q hq hfit hstate ports
    have hexec := exec_portAlign_of_no_fault hturn hkind hq ((alignFault_eq_none_iff s hq).2 ⟨hfit, hstate⟩)
    have hlisted {t : State} (h : completeRowIfDone (decideCondition (portAligning (advanceHead s rest) q) q .down) = t) :
        exec .portAlign s = .next (enterList r t (.align q) none) := by
      rw [hexec, h]
    refine ⟨fun hrow => ?_, fun x hx hp hothers => ?_, ?_⟩
    · refine hlisted (t := portAligning (advanceHead s rest) q) ?_
      rw [decideCondition_of_decided (s := portAligning (advanceHead s rest) q) fun x hx => (hrow x hx).1]
      refine completeRowIfDone_of_awaiting (s := portAligning (advanceHead s rest) q) fun x hx => ?_
      have hothers := (hrow x hx).2
      simp only [OthersDecided, not_forall, not_not] at hothers
      obtain ⟨p', -, hp'⟩ := hothers
      exact ⟨p', hp'⟩
    · refine hlisted (t := { portAligning (advanceHead s rest) q with row := some (decidedRow x q .down) }) ?_
      rw [decideCondition_of_pending (s := portAligning (advanceHead s rest) q) hx hp]
      refine completeRowIfDone_of_awaiting fun y hy => ?_
      obtain rfl := Option.some.inj hy
      exact (decidedRow_pending_iff (c := .down) nofun).2 hothers
    · intro x hx hp hothers hdistinct hheld after
      obtain ⟨hd, -⟩ := hdistinct
      refine hlisted (t := rowOver { portAligning (advanceHead s rest) q with row := some (decidedRow x q .down) }
        (decidedRow x q .down)) ?_
      rw [decideCondition_of_pending (s := portAligning (advanceHead s rest) q) hx hp,
        completeRowIfDone_of_done rfl (decidedRow_complete (c := .down) nofun hothers)]
      exact completeRow_eq (s := { portAligning (advanceHead s rest) q with row := some (decidedRow x q .down) }) rfl
        hd hheld

end Sys2Proof.Laws
end

/-! ### The closing of one reply window at a strobe instant -/

section
set_option Elab.async false
namespace Sys2Proof.Laws

open Sys2Proof Sys2Proof.Machine Sys2Proof.Safety

/-- The port misses the reply to its row strobe as its window closes (R73, R76). -/
def rowMissed (q : Port) : Bool := q.window.any fun w => w.atRow && decide (MissesReply false q w)

/-- A settled condition (R76, R88). -/
theorem settledRow_condition (ports : Vector Port 4) (r : IntakeRow) (p : Fin 4) :
    (settledRow ports r).conditions[p] =
      if r.conditions[p] = .pending ∧ rowMissed ports[p] = true then .bad else r.conditions[p] := by
  have hcondition : (settledRow ports r).conditions[p] = match ports[p].window with
      | some w => if r.conditions[p] = .pending ∧ w.atRow = true ∧ MissesReply false ports[p] w then .bad
          else r.conditions[p]
      | none => r.conditions[p] := Vector.getElem_ofFn p.isLt
  rw [hcondition]
  cases hw : ports[p].window with
  | none =>
    have hmissed : rowMissed ports[p] = false := by rw [rowMissed, hw]; rfl
    rw [if_neg fun h => absurd (hmissed.symm.trans h.2) (by decide)]
  | some w =>
    have hmissed : rowMissed ports[p] = true ↔ w.atRow = true ∧ MissesReply false ports[p] w := by
      rw [rowMissed, hw, Option.any_some, Bool.and_eq_true, decide_eq_true_iff]
    exact if_congr (and_congr_right fun _ => hmissed.symm) rfl rfl

/-- A PENDING condition is decided once (R88). -/
theorem decideCondition_eq (s : State) (p : Fin 4) (c : Condition) : decideCondition s p c =
    { s with row := s.row.map fun r => if r.conditions[p] = .pending then decidedRow r p c else r } := by
  cases hrow : s.row with
  | none => rw [decideCondition_of_decided (by simp [hrow]), Option.map_none, ← hrow]
  | some r =>
    by_cases hp : r.conditions[p] = .pending
    · rw [decideCondition_of_pending hrow hp, Option.map_some, if_pos hp]
    · rw [decideCondition_of_decided (by simpa [hrow] using hp), Option.map_some, if_neg hp, ← hrow]

/-- The machine after the window of port p has closed outside HALTED (R73 to R77). -/
def windowClosed (cut : Bool) (s : State) (p : Fin 4) : State :=
  { s with
    ports := s.ports.set p (portClosed cut s.ports[p])
    row := s.row.map fun r =>
      if r.conditions[p] = .pending ∧ rowMissed s.ports[p] = true then decidedRow r p .bad else r
    requests := { s.requests with
      entries := if alignmentFails s cut p then
          answeredWork s (.align p) (freeDetailAnswer s .alignFailed 512)
        else s.requests.entries }
    freeCount := if alignmentFails s cut p then s.freeCount + 1 else s.freeCount }

/-- A window that closes without a verdict changes its port's window only. -/
theorem windowClosed_of_no_verdict {cut : Bool} {s : State} {p : Fin 4}
    (hclosed : portClosed cut s.ports[p] = closeWindow s.ports[p]) (hrow : rowMissed s.ports[p] = false) :
    windowClosed cut s p = setPort s p (closeWindow s.ports[p]) := by
  have hfails : alignmentFails s cut p = false := by
    rw [alignmentFails, hclosed]
    change (s.ports[p].state == .aligning && s.ports[p].state == .lost) = false
    cases s.ports[p].state <;> rfl
  have hkept : (s.row.map fun r => if r.conditions[p] = .pending ∧ rowMissed s.ports[p] = true
      then decidedRow r p .bad else r) = s.row := by
    simp only [hrow, Bool.false_eq_true, and_false, if_false]
    exact Option.map_id'
  rw [windowClosed, hkept, hfails, hclosed]
  rfl

/-- An UP port's window that closes without a reply gives MISSING (R73, R76). -/
theorem closeAtStrobe_of_missing {cut : Bool} {s : State} {p : Fin 4} {w : ReplyWindow}
    (hdev : s.window.device ≠ .halted) (hw : s.ports[p].window = some w) (hmiss : MissesReply cut s.ports[p] w) :
    closeAtStrobe cut s p = windowClosed cut s p := by
  obtain ⟨hup, hkind, hanswered, hcut⟩ := hmiss
  have hclosed : portClosed cut s.ports[p] = upAfter (closeWindow s.ports[p]) False := by
    simp only [portClosed, hw]
    rw [if_pos ⟨hup, hkind, hanswered, hcut⟩]
    rfl
  have hjudged : judgeUp (closeWindow s.ports[p]) .missing = portClosed cut s.ports[p] := by
    rw [hclosed, judgeUp_eq_upAfter (good := False) _ (by simp [Verdict.isGood])]
  have hfails : alignmentFails s cut p = false := by rw [alignmentFails, hup]; rfl
  have hmissed : rowMissed s.ports[p] = w.atRow := by
    rw [rowMissed, hw, Option.any_some, decide_eq_true ⟨hup, hkind, hanswered, fun h => absurd h.1 (by decide)⟩, Bool.and_true]
  have hnotcut : (cut && !w.atRow) = false := by
    cases hc : cut <;> cases ha : w.atRow <;> simp_all
  have hport : (setPort s p (closeWindow s.ports[p])).ports[p] = closeWindow s.ports[p] := getElem_setPort_self ..
  have hstate : (closeWindow s.ports[p]).state = .up := hup
  simp only [closeAtStrobe, hw, hanswered, beq_eq_false_iff_ne.2 hdev, Bool.or_false, Bool.false_eq_true, if_false,
    hnotcut, applyVerdict, hport, hstate, hkind, hjudged, setPort_setPort, windowClosed, hfails, hmissed]
  by_cases hat : w.atRow = true
  · rw [if_pos hat, decideCondition_eq]
    simp only [hat, and_true]
    rfl
  · rw [if_neg hat]
    simp only [hat, and_false, Bool.false_eq_true, if_false]
    rw [Option.map_id']
    rfl

/-- An ALIGNING port's window that closes without a reply (R74, R77). -/
theorem closeAtStrobe_of_unaligned {cut : Bool} {s : State} {p : Fin 4} {w : ReplyWindow}
    (hdev : s.window.device ≠ .halted) (hw : s.ports[p].window = some w) (hawaits : AwaitsAlignment s.ports[p] w) :
    closeAtStrobe cut s p = windowClosed cut s p := by
  obtain ⟨hstate, hkind, hanswered⟩ := hawaits
  have hport : (setPort s p (closeWindow s.ports[p])).ports[p] = closeWindow s.ports[p] := getElem_setPort_self ..
  have haligning : (closeWindow s.ports[p]).state = .aligning := hstate
  have hmissed : rowMissed s.ports[p] = false := by
    rw [rowMissed, hw, Option.any_some, decide_eq_false (fun h => absurd (h.1.symm.trans hstate) nofun), Bool.and_false]
  have hrow : (s.row.map fun r => if r.conditions[p] = .pending ∧ rowMissed s.ports[p] = true
      then decidedRow r p .bad else r) = s.row := by
    simp only [hmissed, Bool.false_eq_true, and_false, if_false]
    exact Option.map_id'
  have hclosed : portClosed cut s.ports[p] =
      if cut = true ∧ w.atRow = false then
        if 512 ≤ s.ports[p].alignSpent then changedPort (closeWindow s.ports[p]) .lost .alignFailed
        else closeWindow s.ports[p]
      else aligningAfter (closeWindow s.ports[p]) False := by
    simp only [portClosed, hw]
    rw [if_neg (fun h => absurd (h.1.symm.trans hstate) nofun), if_pos ⟨hstate, hkind, hanswered⟩]
    rfl
  have hfinish (o : AlignOutcome) (q : Port) (hq : portClosed cut s.ports[p] = q)
      (ho : o = if q.state = .lost then .failed else .goesOn) :
      finishAlign (setPort s p q) p o = windowClosed cut s p := by
    have hfails : alignmentFails s cut p = decide (q.state = .lost) := by
      rw [alignmentFails, hstate, hq]
      cases q.state <;> rfl
    rw [windowClosed, hrow, hq, hfails, ho]
    by_cases hlost : q.state = .lost
    · simp only [hlost, decide_true, if_true]
      rfl
    · simp only [hlost, decide_false, if_false, Bool.false_eq_true]
      rfl
  by_cases hcut : cut = true ∧ w.atRow = false
  · have hcut' : (cut && !w.atRow) = true := by simp [hcut]
    simp only [closeAtStrobe, hw, hanswered, beq_eq_false_iff_ne.2 hdev, Bool.or_false, Bool.false_eq_true, if_false,
      hcut', if_true, cutShort, hkind, hport, haligning, and_self, setPort_setPort]
    rw [if_pos hcut] at hclosed
    refine hfinish _ _ ?_ ?_
    · rw [hclosed, spendCheck_fst]
      rfl
    · unfold spendCheck
      split
      · rfl
      · exact (if_neg (by rw [haligning]; decide)).symm
  · have hcut' : (cut && !w.atRow) = false := by
      cases hc : cut <;> cases ha : w.atRow <;> simp_all
    simp only [closeAtStrobe, hw, hanswered, beq_eq_false_iff_ne.2 hdev, Bool.or_false, Bool.false_eq_true, if_false,
      hcut', applyVerdict, hport, haligning, hkind, if_true, setPort_setPort]
    rw [if_neg hcut] at hclosed
    have hafter : (judgeAligning (closeWindow s.ports[p]) .missing).1 = aligningAfter (closeWindow s.ports[p]) False :=
      judgeAligning_eq_aligningAfter _ (by simp)
    refine hfinish _ _ (hclosed.trans hafter.symm) ?_
    rw [judgeAligning_outcome haligning, hafter]
    have hnotup : (aligningAfter (closeWindow s.ports[p]) False).state = .aligning ∨
        (aligningAfter (closeWindow s.ports[p]) False).state = .lost := by
      unfold aligningAfter
      rw [if_neg (fun h => h.1)]
      split
      · exact .inr rfl
      · exact .inl haligning
    rcases hnotup with h | h <;> rw [h] <;> rfl

/-- The closing of a window at a strobe instant outside HALTED (R73 to R77). -/
theorem closeAtStrobe_eq (cut : Bool) {s : State} (p : Fin 4) (hdev : s.window.device ≠ .halted) :
    closeAtStrobe cut s p = windowClosed cut s p := by
  cases hw : s.ports[p].window with
  | none =>
    have hclosed : portClosed cut s.ports[p] = closeWindow s.ports[p] := by
      simp only [portClosed, hw, closeWindow]
      rw [← hw]
    have hsame : setPort s p (closeWindow s.ports[p]) = s := by
      have hport : closeWindow s.ports[p] = s.ports[p] := by rw [closeWindow, ← hw]
      rw [hport, setPort]
      exact congrArg (fun ports => { s with ports := ports }) (Vector.set_getElem_self ..)
    rw [windowClosed_of_no_verdict hclosed (by rw [rowMissed, hw]; rfl), hsame]
    simp only [closeAtStrobe, hw]
  | some w =>
    by_cases hmiss : MissesReply cut s.ports[p] w
    · exact closeAtStrobe_of_missing hdev hw hmiss
    by_cases hawaits : AwaitsAlignment s.ports[p] w
    · exact closeAtStrobe_of_unaligned hdev hw hawaits
    have hclosed : portClosed cut s.ports[p] = closeWindow s.ports[p] := by
      simp only [portClosed, hw]
      rw [if_neg hmiss, if_neg hawaits]
      rfl
    have hmissed : rowMissed s.ports[p] = false := by
      rw [rowMissed, hw, Option.any_some, Bool.and_eq_false_iff]
      by_cases hat : w.atRow = false
      · exact .inl hat
      · exact .inr (decide_eq_false fun h => hmiss ⟨h.1, h.2.1, h.2.2.1, fun hc => hat hc.2⟩)
    rw [windowClosed_of_no_verdict hclosed hmissed]
    have hport : (setPort s p (closeWindow s.ports[p])).ports[p] = closeWindow s.ports[p] := getElem_setPort_self ..
    have hstate : (closeWindow s.ports[p]).state = s.ports[p].state := rfl
    cases hanswered : w.answered with
    | true => simp only [closeAtStrobe, hw, hanswered, Bool.true_or, if_true]
    | false =>
      by_cases hcut : cut = true ∧ w.atRow = false
      · have hnot : ¬ (w.alignment = true ∧ s.ports[p].state = .aligning) := fun h =>
          hawaits ⟨h.2, h.1, hanswered⟩
        have hcut' : (cut && !w.atRow) = true := by simp [hcut]
        simp only [closeAtStrobe, hw, hanswered, beq_eq_false_iff_ne.2 hdev, Bool.or_false, Bool.false_eq_true,
          if_false, hcut', if_true, cutShort, hport, hstate, if_neg hnot]
      · have hcut' : (cut && !w.atRow) = false := by
          cases hc : cut <;> cases ha : w.atRow <;> simp_all
        simp only [closeAtStrobe, hw, hanswered, beq_eq_false_iff_ne.2 hdev, Bool.or_false, Bool.false_eq_true,
          if_false, hcut', applyVerdict, hport, hstate]
        cases hq : s.ports[p].state with
        | up =>
          have hkind : w.alignment = true := by
            by_contra hk
            exact hmiss ⟨hq, by simpa using hk, hanswered, hcut⟩
          simp only [hkind, if_true]
        | aligning =>
          have hkind : w.alignment = false := by
            by_contra hk
            exact hawaits ⟨hq, by simpa using hk, hanswered⟩
          simp only [hkind, Bool.false_eq_true, if_false]
        | off => rfl
        | lost => rfl

end Sys2Proof.Laws
end

/-! ### Strobe instants -/

section
set_option Elab.async false
namespace Sys2Proof.Laws

open Sys2Proof Sys2Proof.Machine Sys2Proof.Safety

/-- A row after the windows of the listed ports have closed (R76, R88). -/
def settledFor (closing : List (Fin 4)) (ports : Vector Port 4) (r : IntakeRow) : IntakeRow :=
  { r with conditions := Vector.ofFn fun p : Fin 4 =>
      if p ∈ closing ∧ r.conditions[p] = .pending ∧ rowMissed ports[p] = true then .bad else r.conditions[p] }

/-- A pending entry before and after the windows of the listed ports have closed (R77; log 8). -/
def AlignAnswered (closing : List (Fin 4)) (s : State) (cut : Bool) (e after : PendingEntry) : Prop :=
  if e.answer = none ∧ ∃ p ∈ closing.filter (alignmentFails s cut), e.work = .align p then
    after = { e with answer := after.answer } ∧ after.answer.map Answer.status = some .alignFailed ∧
      after.answer.map Answer.aux = some 512
  else after = e

/-- The windows of the listed ports have closed from s to t (R73 to R77). -/
structure WindowsClosed (cut : Bool) (closing : List (Fin 4)) (s t : State) : Prop where
  ports : ∀ p : Fin 4, t.ports[p] = if p ∈ closing then portClosed cut s.ports[p] else s.ports[p]
  row : t.row = s.row.map (settledFor closing s.ports)
  entries : List.Forall₂ (AlignAnswered closing s cut) s.requests.entries t.requests.entries
  rest : t = { s with
    ports := t.ports, row := t.row, requests := { s.requests with entries := t.requests.entries }
    freeCount := s.freeCount + (closing.filter (alignmentFails s cut)).length }

/-- A condition of a settled row. -/
theorem settledFor_condition (closing : List (Fin 4)) (ports : Vector Port 4) (r : IntakeRow) (p : Fin 4) :
    (settledFor closing ports r).conditions[p] =
      if p ∈ closing ∧ r.conditions[p] = .pending ∧ rowMissed ports[p] = true then .bad else r.conditions[p] :=
  Vector.getElem_ofFn p.isLt

/-- Rows that agree but for their conditions are equal when these are. -/
theorem intakeRow_ext_conditions {r r' : IntakeRow} (h : ∀ p : Fin 4, r.conditions[p] = r'.conditions[p])
    (hrest : r = { r' with conditions := r.conditions }) : r = r' := by
  have hconditions : r.conditions = r'.conditions := Vector.ext fun i hi => h ⟨i, hi⟩
  rw [hrest, hconditions]

/-- With every port's window closed the row is settled (R88). -/
theorem settledFor_allPorts (ports : Vector Port 4) (r : IntakeRow) :
    settledFor allPorts ports r = settledRow ports r := by
  refine intakeRow_ext_conditions (fun p => ?_) rfl
  have hall : p ∈ allPorts := by rw [allPorts_eq_finRange]; exact List.mem_finRange p
  rw [settledFor_condition, settledRow_condition]
  exact if_congr (and_iff_right hall) rfl rfl

/-- One more window closes. -/
theorem settledFor_concat {closing : List (Fin 4)} {p : Fin 4} (hp : p ∉ closing) (ports : Vector Port 4)
    (r : IntakeRow) : settledFor (closing ++ [p]) ports r =
      if (settledFor closing ports r).conditions[p] = .pending ∧ rowMissed ports[p] = true
      then decidedRow (settledFor closing ports r) p .bad else settledFor closing ports r := by
  have hkept : (settledFor closing ports r).conditions[p] = r.conditions[p] := by
    rw [settledFor_condition, if_neg fun h => hp h.1]
  rw [hkept]
  have hother {q : Fin 4} (hq : q ≠ p) : (q ∈ closing ++ [p]) ↔ q ∈ closing := by simp [hq]
  by_cases hmissed : r.conditions[p] = .pending ∧ rowMissed ports[p] = true
  · rw [if_pos hmissed]
    refine intakeRow_ext_conditions (fun q => ?_) rfl
    by_cases hq : q = p
    · subst hq
      rw [settledFor_condition, if_pos ⟨by simp, hmissed⟩]
      simp [decidedRow]
    · have hset : (decidedRow (settledFor closing ports r) p .bad).conditions[q] =
          (settledFor closing ports r).conditions[q] := by
        have hne : p.val ≠ q.val := fun he => hq (Fin.ext he.symm)
        exact Vector.getElem_set_ne p.isLt q.isLt hne
      rw [hset, settledFor_condition, settledFor_condition]
      exact if_congr (and_congr_left fun _ => hother hq) rfl rfl
  · rw [if_neg hmissed]
    refine intakeRow_ext_conditions (fun q => ?_) rfl
    rw [settledFor_condition, settledFor_condition]
    by_cases hq : q = p
    · subst hq
      rw [if_neg fun h => hmissed h.2, if_neg fun h => hp h.1]
    · exact if_congr (and_congr_left fun _ => hother hq) rfl rfl

/-- One more failed alignment is answered. -/
theorem alignAnswered_concat {closing : List (Fin 4)} {p : Fin 4} {s : State} {cut : Bool}
    {e after : PendingEntry} (h : AlignAnswered closing s cut e after) {a : Answer} (hstatus : a.status = .alignFailed)
    (haux : a.aux = 512) : AlignAnswered (closing ++ [p]) s cut e
      (if alignmentFails s cut p then
        (if after.work = .align p ∧ after.answer = none then { after with answer := some a } else after)
      else after) := by
  unfold AlignAnswered at h ⊢
  by_cases hearlier : e.answer = none ∧ ∃ p ∈ closing.filter (alignmentFails s cut), e.work = .align p
  · obtain ⟨hnone, q, hq, hwork⟩ := hearlier
    rw [if_pos ⟨hnone, q, hq, hwork⟩] at h
    obtain ⟨hsame, hafter, hafteraux⟩ := h
    have hanswered : ¬ (after.work = .align p ∧ after.answer = none) := fun hc => by
      rw [hc.2] at hafter
      exact absurd hafter nofun
    rw [if_pos ⟨hnone, q, by rw [List.filter_append]; exact List.mem_append_left _ hq, hwork⟩, if_neg hanswered,
      ite_self]
    exact ⟨hsame, hafter, hafteraux⟩
  · rw [if_neg hearlier] at h
    subst h
    by_cases hnow : alignmentFails s cut p = true ∧ after.work = .align p ∧ after.answer = none
    · obtain ⟨hfails, hwork, hnone⟩ := hnow
      have hmem : p ∈ (closing ++ [p]).filter (alignmentFails s cut) := by simp [hfails]
      rw [if_pos hfails, if_pos (c := after.work = .align p ∧ after.answer = none) ⟨hwork, hnone⟩,
        if_pos ⟨hnone, p, hmem, hwork⟩]
      exact ⟨rfl, congrArg some hstatus, congrArg some haux⟩
    · have hnone : ¬ (after.answer = none ∧
          ∃ q ∈ (closing ++ [p]).filter (alignmentFails s cut), after.work = .align q) := by
        rintro ⟨hnone, q, hq, hwork⟩
        rw [List.filter_append, List.mem_append] at hq
        rcases hq with hq | hq
        · exact hearlier ⟨hnone, q, hq, hwork⟩
        · obtain ⟨hmem, hfails⟩ := List.mem_filter.1 hq
          obtain rfl := List.mem_singleton.1 hmem
          exact hnow ⟨hfails, hwork, hnone⟩
      rw [if_neg hnone]
      split
      · rename_i hfails
        exact if_neg fun hc => hnow ⟨hfails, hc⟩
      · rfl

/-- The windows of distinct ports close one after the other (R73). -/
theorem windowsClosed_foldl (cut : Bool) {s : State} (hdev : s.window.device ≠ .halted) {closing : List (Fin 4)}
    (hnodup : closing.Nodup) : WindowsClosed cut closing s (closing.foldl (closeAtStrobe cut) s) := by
  induction closing using List.reverseRecOn with
  | nil =>
    refine ⟨fun p => (if_neg List.not_mem_nil).symm, ?_, ?_, rfl⟩
    · have hkept (r : IntakeRow) : settledFor [] s.ports r = r :=
        intakeRow_ext_conditions (fun p => by rw [settledFor_condition, if_neg fun h => List.not_mem_nil h.1]) rfl
      rw [funext hkept]
      exact Option.map_id'.symm
    · refine List.forall₂_same.2 fun e _ => ?_
      have hnone : ¬ (e.answer = none ∧ ∃ p ∈ ([] : List (Fin 4)).filter (alignmentFails s cut), e.work = .align p) :=
        fun h => h.2.elim fun _ hp => List.not_mem_nil hp.1
      rw [AlignAnswered, if_neg hnone]
  | append_singleton closing p ih =>
    obtain ⟨hclosing, -, hdisjoint⟩ := List.nodup_append.1 hnodup
    have hp : p ∉ closing := fun h => hdisjoint p h p (List.mem_singleton_self p) rfl
    obtain ⟨hports, hrow, hentries, hrest⟩ := ih hclosing
    rw [List.foldl_append, List.foldl_cons, List.foldl_nil]
    generalize closing.foldl (closeAtStrobe cut) s = t at hports hrow hentries hrest ⊢
    have hdev' : t.window.device ≠ .halted := by rw [hrest]; exact hdev
    have hport : t.ports[p] = s.ports[p] := by rw [hports, if_neg hp]
    have hfails : alignmentFails t cut p = alignmentFails s cut p := by rw [alignmentFails, alignmentFails, hport]
    rw [closeAtStrobe_eq cut p hdev']
    refine ⟨fun q => ?_, ?_, ?_, ?_⟩
    · by_cases hq : q = p
      · subst hq
        rw [if_pos (by simp), ← hport]
        exact getElem_setPort_self t q _
      · have hne : p.val ≠ q.val := fun he => hq (Fin.ext he.symm)
        have hset : (windowClosed cut t p).ports[q] = t.ports[q] :=
          Vector.getElem_set_ne p.isLt q.isLt hne
        rw [hset, hports]
        exact if_congr (by simp [hq]) rfl rfl
    · change t.row.map _ = _
      rw [hrow, Option.map_map, hport]
      exact congrArg (fun f => s.row.map f) (funext fun r => (settledFor_concat hp s.ports r).symm)
    · have hmap : (windowClosed cut t p).requests.entries = t.requests.entries.map fun e =>
          if alignmentFails s cut p then
            (if e.work = .align p ∧ e.answer = none
              then { e with answer := some (freeDetailAnswer t .alignFailed 512) } else e)
          else e := by
        change (if alignmentFails t cut p then _ else _) = _
        rw [hfails]
        split
        · rfl
        · exact (List.map_id' _).symm
      rw [hmap, List.forall₂_map_right_iff]
      exact hentries.imp fun e after h => alignAnswered_concat h rfl rfl
    · have hcount : (windowClosed cut t p).freeCount =
          s.freeCount + ((closing ++ [p]).filter (alignmentFails s cut)).length := by
        change (if alignmentFails t cut p then t.freeCount + 1 else t.freeCount) = _
        rw [hfails, hrest, List.filter_append, List.length_append]
        by_cases h : alignmentFails s cut p = true
        · simp [h, Nat.add_assoc]
        · simp [h]
      rw [← hcount, windowClosed]
      rw [hrest]

end Sys2Proof.Laws
end

/-! ### What a completed row keeps -/

section
set_option Elab.async false
namespace Sys2Proof.Laws

open Sys2Proof Sys2Proof.Machine Sys2Proof.Safety

/-- A drain keeps the reference of its record. -/
theorem drained_ref (turn : Nat) (c : Coder) (x : FrameRecord) : (drained turn c x).2.ref = x.ref := by
  unfold drained
  split
  · split <;> rfl
  · rfl

/-- A drain keeps what the store holds (R122). -/
theorem drained_storeHeld (turn : Nat) (c : Coder) (x : FrameRecord) :
    storeHeld (drained turn c x).1 = storeHeld c := by
  unfold drained
  split
  · split <;> rfl
  · rfl

/-- The row coder stages a row only when it fits the store (R118). -/
theorem captured_storeHeld {c : Coder} (y : FrameRecord) (h : Handover) (hheld : storeHeld c ≤ 8192) :
    storeHeld (captured c y h).1 ≤ 8192 := by
  unfold captured
  dsimp only
  split
  · exact hheld
  · split
    · exact hheld
    · split
      · exact hheld
      · rename_i hfits
        simp only [storeHeld, List.length_append, List.length_mapIdx] at hfits ⊢
        omega

/-- The completion of a row keeps the references of the records. -/
theorem rowTaken_refs (c : Coder) (records : List FrameRecord) (r : IntakeRow) :
    (rowTaken c records r).2.map FrameRecord.ref = records.map FrameRecord.ref := by
  unfold rowTaken
  cases htaking : takingRecord records r with
  | none => rfl
  | some x =>
    dsimp only
    rw [List.map_map]
    refine List.map_congr_left fun z _ => ?_
    by_cases hsame : z.ref = x.ref
    · rw [Function.comp, if_pos hsame, hsame]
      obtain ⟨href, -⟩ := captured_ref_turn c
        { x with damage := x.damage ||| markedDamage r x.bound.channelMask } (handedOver r x.bound)
      split
      · exact (drained_ref ..).trans href
      · exact href
    · rw [Function.comp, if_neg hsame]

/-- The completion of a row keeps the store within its size (R118). -/
theorem rowTaken_storeHeld {c : Coder} (records : List FrameRecord) (r : IntakeRow) (hheld : storeHeld c ≤ 8192) :
    storeHeld (rowTaken c records r).1 ≤ 8192 := by
  unfold rowTaken
  cases takingRecord records r with
  | none => exact hheld
  | some x =>
    have hcaptured := captured_storeHeld { x with damage := x.damage ||| markedDamage r x.bound.channelMask }
      (handedOver r x.bound) hheld
    dsimp only
    split
    · rw [drained_storeHeld]
      exact hcaptured
    · exact hcaptured

/-- The row in progress settled keeps the references of the records. -/
theorem rowSettled_refs (s : State) (c : Coder) (records : List FrameRecord) :
    (rowSettled s c records).2.map FrameRecord.ref = records.map FrameRecord.ref := by
  unfold rowSettled
  split
  · rfl
  · exact rowTaken_refs ..

/-- The row in progress settled keeps the store within its size (R118). -/
theorem rowSettled_storeHeld (s : State) {c : Coder} (records : List FrameRecord) (hheld : storeHeld c ≤ 8192) :
    storeHeld (rowSettled s c records).1 ≤ 8192 := by
  unfold rowSettled
  split
  · exact hheld
  · exact rowTaken_storeHeld _ _ hheld

end Sys2Proof.Laws
end

/-! ### The strobe instant and the row strobe -/

section
set_option Elab.async false
namespace Sys2Proof.Laws

open Sys2Proof Sys2Proof.Machine Sys2Proof.Safety

/-- Each fitted port's strobe outside HALTED (R73, R77). -/
theorem strobePort_eq_portStruck (atRow : Bool) (q : Port) : strobePort false atRow q = portStruck atRow q := by
  unfold strobePort portStruck
  cases q.state <;> simp

/-- A strobe instant has taken the machine from s to t outside HALTED (R73 to R77, R88). -/
structure StrobeDone (s t : State) (atRow cut : Bool) : Prop where
  sent : StrobesSent s t atRow cut
  row : t.row = none
  coder : t.coder = (rowSettled s s.coder s.records).1
  records : t.records = (rowSettled s s.coder s.records).2
  rest : t = { s with
    ports := t.ports, row := none, coder := t.coder, records := t.records
    requests := { s.requests with entries := t.requests.entries }
    freeCount := s.freeCount + (failingPorts s cut).length }

/-- A strobe instant closes the windows, completes the row and sends the strobes (R73, R88). -/
theorem strobeInstant_done {s : State} (atRow cut : Bool) (hdev : s.window.device ≠ .halted)
    (hd : (s.records.map FrameRecord.ref).Nodup) (hheld : storeHeld s.coder ≤ 8192) :
    StrobeDone s (strobeInstant s atRow cut) atRow cut := by
  obtain ⟨hports, hrow, hentries, hrest⟩ :=
    windowsClosed_foldl cut hdev (closing := allPorts) (by decide)
  have hall (p : Fin 4) : p ∈ allPorts := by rw [allPorts_eq_finRange]; exact List.mem_finRange p
  have hcompleted : completeRow (allPorts.foldl (closeAtStrobe cut) s) =
      { allPorts.foldl (closeAtStrobe cut) s with
        row := none, coder := (rowSettled s s.coder s.records).1, records := (rowSettled s s.coder s.records).2 } := by
    generalize allPorts.foldl (closeAtStrobe cut) s = t at hports hrow hentries hrest ⊢
    have hcoder : t.coder = s.coder := by rw [hrest]
    have hrecords : t.records = s.records := by rw [hrest]
    cases hr : s.row with
    | none =>
      have hnone : t.row = none := by rw [hrow, hr]; rfl
      rw [completeRow, hnone]
      simp only [rowSettled, hr]
      rw [← hnone, ← hcoder, ← hrecords]
    | some r =>
      have hsome : t.row = some (settledRow s.ports r) := by
        rw [hrow, hr, Option.map_some, settledFor_allPorts]
      rw [completeRow_eq hsome (by rw [hrecords]; exact hd) (by rw [hcoder]; exact hheld), rowOver]
      simp only [rowSettled, hr, hcoder, hrecords]
  unfold strobeInstant
  rw [hcompleted]
  generalize allPorts.foldl (closeAtStrobe cut) s = t at hports hrow hentries hrest ⊢
  have hdevice : (t.window.device == .halted) = false := by rw [hrest]; exact beq_eq_false_iff_ne.2 hdev
  refine ⟨⟨?_, ?_⟩, rfl, rfl, rfl, ?_⟩
  · change (Vector.ofFn fun p : Fin 4 =>
      if portFitted t p then strobePort (t.window.device == .halted) atRow t.ports[p] else t.ports[p]) = _
    refine congrArg Vector.ofFn (funext fun p => ?_)
    have hfitted : portFitted t p = true ↔ p.val < s.window.straps.toNat + 1 := by
      rw [hrest]
      exact decide_eq_true_iff
    rw [hports, if_pos (hall p), hdevice, strobePort_eq_portStruck]
    exact if_congr hfitted rfl rfl
  · obtain ⟨hlength, hzip⟩ := List.forall₂_iff_zip.1 hentries
    exact ⟨hlength.symm, fun x hx => hzip hx⟩
  · rw [sendStrobes]
    rw [hrest]
    rfl

/-- The PRBS shifts, and its new stage 1 is 1 when stages 15 and 14 differ (R85). -/
theorem nextPrbs_eq (v : BitVec 15) : nextPrbs v =
    BitVec.ofNat 15 (2 * v.toNat + (if v.getLsbD 14 = v.getLsbD 13 then 0 else 1)) := by
  have hstage : bit (v.getLsbD 14 != v.getLsbD 13) = if v.getLsbD 14 = v.getLsbD 13 then 0 else 1 := by
    cases v.getLsbD 14 <;> cases v.getLsbD 13 <;> rfl
  unfold nextPrbs
  rw [hstage]
  generalize hb : (if v.getLsbD 14 = v.getLsbD 13 then 0 else 1) = b
  have hlt : b < 2 ^ 1 := by
    rw [← hb]
    split <;> decide
  refine BitVec.eq_of_toNat_eq ?_
  have hshift : (v <<< 1).toNat = 2 ^ 1 * (v.toNat % 2 ^ 14) := by
    rw [BitVec.toNat_shiftLeft, Nat.shiftLeft_eq]
    omega
  rw [BitVec.toNat_or, hshift, BitVec.toNat_ofNat, BitVec.toNat_ofNat, Nat.mod_eq_of_lt (by omega : b < 2 ^ 15),
    ← Nat.two_pow_add_eq_or_of_lt hlt]
  omega

/-- A channel's generators after a row strobe (R84, R85). -/
theorem advanceGenerator_stepped (c : Channel) : GeneratorStepped c (advanceGenerator c) := by
  unfold advanceGenerator GeneratorStepped
  cases hsource : c.source <;> simp [hsource, nextRamp, nextPrbs_eq]

/-- What a channel delivers, fixed at the row's strobe (R82). -/
theorem fixSample_eq_deliveredBy (c : Channel) : fixSample c = deliveredBy c := by
  unfold fixSample deliveredBy
  cases c.source <;> simp

/-- The row that begins at a row strobe (R82, R88, R98). -/
theorem rowAtStrobe_eq_strobedRow {s t : State} {f : SlotFrame} (index : Nat) (hcurrent : t.stream.current = some f)
    (hstraps : t.window.straps = s.window.straps) (hchannels : t.channels = s.channels)
    (htable : t.trim.table = s.trim.table) : rowAtStrobe t index = strobedRow s t.ports (some f) index := by
  have hconditions (p : Fin 4) : (if portFitted t p && t.ports[p].state == .up then Condition.pending else .down) =
      if p.val < s.window.straps.toNat + 1 ∧ t.ports[p].state = .up then .pending else .down := by
    refine if_congr ?_ rfl rfl
    rw [Bool.and_eq_true, beq_iff_eq, portFitted, decide_eq_true_iff, fitted, hstraps]
  simp only [rowAtStrobe, strobedRow, hconditions, fixSample_eq_deliveredBy, hcurrent, hchannels, htable]

/-- A new row with no port PENDING completes at once (R88). -/
theorem completeRowIfDone_eq {t : State} {row : IntakeRow} {settled : Coder × List FrameRecord}
    (hrow : t.row = some row) (hsettled : (t.coder, t.records) = settled)
    (hd : (settled.2.map FrameRecord.ref).Nodup) (hheld : storeHeld settled.1 ≤ 8192) :
    completeRowIfDone t = { t with
      row := if AwaitsPort row then some row else none
      coder := (if AwaitsPort row then settled else rowTaken settled.1 settled.2 row).1
      records := (if AwaitsPort row then settled else rowTaken settled.1 settled.2 row).2 } := by
  subst hsettled
  by_cases hawaits : AwaitsPort row
  · rw [completeRowIfDone_of_awaiting fun r hr => Option.some.inj (hrow.symm.trans hr) ▸ hawaits, if_pos hawaits,
      if_pos hawaits, ← hrow]
  · rw [completeRowIfDone_of_done hrow fun p hp => hawaits ⟨p, hp⟩, completeRow_eq hrow hd hheld, if_neg hawaits,
      if_neg hawaits]
    rfl

/-- A row strobe begins the row of index i of the current frame (R1, R73, R82 to R85, R88). -/
theorem rowStrobe_begun {s : State} {f : SlotFrame} (index : Nat) (cut : Bool) (hdev : s.window.device ≠ .halted)
    (hcurrent : s.stream.current = some f) (hd : (s.records.map FrameRecord.ref).Nodup)
    (hheld : storeHeld s.coder ≤ 8192) :
    RowBegun s (rowStrobe s index cut) cut f index s.coder s.records ∧
      (rowStrobe s index cut).stream = s.stream ∧ OnlyTheRow s (rowStrobe s index cut) cut := by
  obtain ⟨hsent, hrow, hcoder, hrecords, hrest⟩ := strobeInstant_done true cut hdev hd hheld
  unfold rowStrobe
  dsimp only
  generalize strobeInstant s true cut = t at hsent hrow hcoder hrecords hrest ⊢
  have hstrobed : rowAtStrobe t index = strobedRow s t.ports (some f) index :=
    rowAtStrobe_eq_strobedRow index (by rw [hrest]; exact hcurrent) (by rw [hrest]) (by rw [hrest]) (by rw [hrest])
  have hchannels (ch : Fin 16) : GeneratorStepped s.channels[ch]
      (Vector.ofFn fun c : Fin 16 => advanceGenerator t.channels[c])[ch] := by
    have hget : (Vector.ofFn fun c : Fin 16 => advanceGenerator t.channels[c])[ch] = advanceGenerator s.channels[ch] := by
      refine (Vector.getElem_ofFn ch.isLt).trans ?_
      rw [hrest]
    rw [hget]
    exact advanceGenerator_stepped _
  rw [completeRowIfDone_eq (t := { t with
      row := some (rowAtStrobe t index)
      channels := Vector.ofFn fun c : Fin 16 => advanceGenerator t.channels[c] }) (row := strobedRow s t.ports (some f) index) (settled := rowSettled s s.coder s.records)
    (congrArg some hstrobed) (Prod.ext hcoder hrecords)
    (by rw [rowSettled_refs]; exact hd) (rowSettled_storeHeld s s.records hheld)]
  exact ⟨⟨hsent, hchannels, rfl, rfl, rfl⟩, by rw [hrest], by rw [hrest]⟩

end Sys2Proof.Laws
end

/-! ### Frame setup -/

section
set_option Elab.async false
namespace Sys2Proof.Laws

open Sys2Proof Sys2Proof.Machine Sys2Proof.Safety

/-- The landing of a copy that has landed does nothing (R25). -/
theorem landCopy_landCopy (c : ProfileCopies) : landCopy (landCopy c) = landCopy c := by
  obtain ⟨staged, _ | p, active⟩ := c <;> rfl

/-- The landing of a schedule that has landed does nothing (R66). -/
theorem landSchedule_landSchedule (u : ScheduleUnit) : landSchedule (landSchedule u) = landSchedule u := by
  obtain ⟨staged, _ | e, active, entry, remaining⟩ := u <;> rfl

/-- The landing of several groups moves each pending copy that one of them names, and the pending schedule if one of
them carries it (R50, R66). -/
theorem foldl_landGroup (groups : List CommitGroup) (s : State) : groups.foldl landGroup s = { s with
    profiles := Vector.ofFn fun p : Fin 4 =>
      if ∃ g ∈ groups, g.profileSet.getLsbD p.val = true then landCopy s.profiles[p] else s.profiles[p]
    schedule := if ∃ g ∈ groups, g.scheduleFlag = true then landSchedule s.schedule else s.schedule } := by
  induction groups generalizing s with
  | nil =>
    have hprofiles : (Vector.ofFn fun p : Fin 4 => s.profiles[p]) = s.profiles :=
      Vector.ext fun i hi => Vector.getElem_ofFn hi
    simp only [List.foldl_nil, List.not_mem_nil, false_and, exists_false, if_false, hprofiles]
  | cons g groups ih =>
    rw [List.foldl_cons, ih]
    have hcopy (p : Fin 4) : (landGroup s g).profiles[p] =
        if g.profileSet.getLsbD p.val = true then landCopy s.profiles[p] else s.profiles[p] :=
      Vector.getElem_ofFn p.isLt
    have hcopies (p : Fin 4) :
        (if ∃ g ∈ groups, g.profileSet.getLsbD p.val = true then landCopy (landGroup s g).profiles[p]
          else (landGroup s g).profiles[p]) =
        if ∃ h ∈ g :: groups, h.profileSet.getLsbD p.val = true then landCopy s.profiles[p] else s.profiles[p] := by
      rw [hcopy]
      by_cases hg : g.profileSet.getLsbD p.val = true
      · simp only [hg, if_true, landCopy_landCopy, ite_self, List.exists_mem_cons_iff, true_or]
      · simp only [hg, Bool.false_eq_true, if_false, List.exists_mem_cons_iff, false_or]
    have hschedule : (if ∃ g ∈ groups, g.scheduleFlag = true then landSchedule (landGroup s g).schedule
          else (landGroup s g).schedule) =
        if ∃ h ∈ g :: groups, h.scheduleFlag = true then landSchedule s.schedule else s.schedule := by
      rw [landGroup_schedule]
      by_cases hg : g.scheduleFlag = true
      · simp only [hg, if_true, landSchedule_landSchedule, ite_self, List.exists_mem_cons_iff, true_or]
      · simp only [hg, Bool.false_eq_true, if_false, List.exists_mem_cons_iff, false_or]
    simp only [hcopies, hschedule]
    rfl

/-- The repeat of an entry (R67). -/
theorem scheduleEntryAt_repeats (entries : List ScheduleEntry) (i : Nat) :
    (scheduleEntryAt entries i).repeats = repeatAt entries i := by
  unfold scheduleEntryAt repeatAt
  cases entries[i]? <;> rfl

/-- The landing of the pending copy (R25). -/
theorem landCopy_eq (c : ProfileCopies) : landCopy c = { c with active := c.pend.getD c.active, pend := none } := by
  obtain ⟨staged, _ | p, active⟩ := c <;> rfl

/-- The landing of the pending schedule (R66). -/
theorem landSchedule_eq (u : ScheduleUnit) : landSchedule u = match u.pend with
    | some e => { u with active := e, pend := none, entry := 0, remaining := repeatAt e 0 }
    | none => u := by
  obtain ⟨staged, _ | e, active, entry, remaining⟩ := u
  · rfl
  · simp only [landSchedule, activateSchedule, restartPosition, scheduleEntryAt_repeats]

/-- The position one frame further (R67). -/
theorem advancePosition_eq (u : ScheduleUnit) : advancePosition u = steppedSchedule u := by
  unfold advancePosition steppedSchedule
  simp only [scheduleEntryAt_repeats]
  exact if_congr (by omega) rfl rfl

/-- The profile that the position gives (R67). -/
theorem chosenProfile_eq (u : ScheduleUnit) : chosenProfile u = scheduledProfile u := by
  unfold chosenProfile scheduledProfile scheduleEntryAt
  cases u.active[u.entry]? <;> rfl

/-- A group is due at the next frame (R50). -/
theorem groupDue_iff (s : State) (g : CommitGroup) : groupDue s.stream.next g = true ↔ DueNext s g := by
  rw [groupDue, Bool.and_eq_true, beq_iff_eq, beq_iff_eq]

/-- The bound copy of the frame that stage 4 makes (R26). -/
theorem stageFour_bound (s : State) (p : Fin 4) (copy : Profile) : (stageFour s p copy).bound = copy := by
  unfold stageFour
  split
  · rfl
  · split
    · rfl
    · split <;> rfl

/-- Stage 4 binds the frame of the number, profile and active copy (R134). -/
theorem bindFrame_eq {s : State} (next : Word) (p : Fin 4) :
    bindFrame { s with stream := { s.stream with next := next } } s.stream.next p =
      let f := stageFour s p s.profiles[p].active
      { s with
        stream := { s.stream with next := next, setUp := some f }
        buffers := { s.buffers with list := if isBuffered f then s.buffers.list.tail else s.buffers.list }
        records := s.records ++ (if isBuffered f then
          s.buffers.list.head?.toList.map fun d => newRecord s.nextRef s.stream.next p s.profiles[p].active d else [])
        nextRef := if isBuffered f then s.nextRef + 1 else s.nextRef } := by
  unfold bindFrame dropReason stageFour
  by_cases hsummary : s.completions.summary.isSome = true
  · simp [hsummary, isBuffered, recordOf, fillSetUp]
  by_cases hlength : 4 ≤ s.records.length
  · simp [hsummary, hlength, isBuffered, recordOf, fillSetUp]
  cases hlist : s.buffers.list with
  | nil =>
    have hkept : s.buffers = { s.buffers with list := [] } := by rw [← hlist]
    simpa [hsummary, hlength, isBuffered, recordOf, fillSetUp] using hkept
  | cons d rest => simp [hsummary, hlength, isBuffered, recordOf, fillSetUp]

/-- Frame setup (R8): numbering (R7), landing (R50, R25, R66), choice (R67) and binding (R134). -/
theorem frameSetup_eq (s : State) : frameSetup s = { s with
    stream := { s.stream with next := s.stream.next + 1, setUp := some (frameOf s s.schedule) }
    commits := s.commits.map (landedGroup s)
    profiles := Vector.ofFn (landedCopies s)
    schedule := steppedSchedule (landedSchedule s s.schedule)
    buffers := { s.buffers with
      list := if isBuffered (frameOf s s.schedule) then s.buffers.list.tail else s.buffers.list }
    records := s.records ++ recordsMade s s.schedule
    nextRef := if isBuffered (frameOf s s.schedule) then s.nextRef + 1 else s.nextRef } := by
  have hcopies (p : Fin 4) :
      (if ∃ g ∈ s.commits.filter (groupDue s.stream.next), g.profileSet.getLsbD p.val = true
        then landCopy s.profiles[p] else s.profiles[p]) = landedCopies s p := by
    rw [landedCopies, landCopy_eq]
    refine if_congr ?_ rfl rfl
    simp only [List.mem_filter, groupDue_iff, and_assoc]
  have hschedule : (if ∃ g ∈ s.commits.filter (groupDue s.stream.next), g.scheduleFlag = true
      then landSchedule s.schedule else s.schedule) = landedSchedule s s.schedule := by
    rw [landedSchedule, landSchedule_eq]
    refine if_congr ?_ rfl rfl
    simp only [List.mem_filter, groupDue_iff, and_assoc]
  have hmarked (g : CommitGroup) : markLanded s.stream.next g = landedGroup s g :=
    if_congr (groupDue_iff s g) rfl rfl
  have hlanded : landDue { s with stream := { s.stream with next := s.stream.next + 1#32 } } s.stream.next = { s with
      stream := { s.stream with next := s.stream.next + 1#32 }
      profiles := Vector.ofFn (landedCopies s)
      schedule := landedSchedule s s.schedule
      commits := s.commits.map (landedGroup s) } := by
    unfold landDue
    rw [foldl_landGroup]
    simp only [hcopies, hschedule, funext hmarked]
  unfold frameSetup
  dsimp only
  rw [hlanded, chosenProfile_eq, advancePosition_eq]
  have hcopy (p : Fin 4) : (Vector.ofFn (landedCopies s))[p] = landedCopies s p := Vector.getElem_ofFn p.isLt
  refine (bindFrame_eq (s := { s with
    profiles := Vector.ofFn (landedCopies s)
    schedule := steppedSchedule (landedSchedule s s.schedule)
    commits := s.commits.map (landedGroup s) }) (s.stream.next + 1#32) _).trans ?_
  simp only [hcopy]
  have hmade : recordsMade s s.schedule = if isBuffered (frameOf s s.schedule) then
      s.buffers.list.head?.toList.map fun d => newRecord s.nextRef s.stream.next
        (scheduledProfile (landedSchedule s s.schedule))
        (landedCopies s (scheduledProfile (landedSchedule s s.schedule))).active d else [] := by
    have hbound : (frameOf s s.schedule).bound =
        (landedCopies s (scheduledProfile (landedSchedule s s.schedule))).active := stageFour_bound ..
    simp only [recordsMade, hbound]
    rfl
  rw [hmade]
  rfl

end Sys2Proof.Laws
end

/-! ### The maintenance strobe -/

section
set_option Elab.async false
namespace Sys2Proof.Laws

open Sys2Proof Sys2Proof.Machine Sys2Proof.Safety

/-- The maintenance strobe is due by R4. -/
theorem maintenanceDue_iff (s : State) : maintenanceDue s = true ↔
    (∃ m ∈ s.stream.maintenance, 400 ≤ m) ∧ rowsRun s = false ∧ s.window.device ≠ .init := by
  unfold maintenanceDue
  cases hm : s.stream.maintenance with
  | none => exact ⟨nofun, fun h => h.1.elim fun _ hx => absurd hx.1 nofun⟩
  | some m =>
    simp only [Bool.and_eq_true, Bool.not_eq_true', bne_iff_ne, Option.mem_def,
      Option.some.injEq, exists_eq_left', maintenancePeriod]
    exact ⟨fun h => ⟨of_decide_eq_true h.1.2, h.1.1, h.2⟩, fun h => ⟨⟨h.2.1, decide_eq_true h.1⟩, h.2.2⟩⟩

/-- In HALTED the windows of the listed ports close without a verdict (R94). -/
theorem foldl_closeAtStrobe_of_halted (cut : Bool) (closing : List (Fin 4)) {s : State}
    (h : s.window.device = .halted) : ∃ ports : Vector Port 4,
      closing.foldl (closeAtStrobe cut) s = { s with ports := ports } ∧
        ∀ p : Fin 4, ports[p] = if p ∈ closing then closeWindow s.ports[p] else s.ports[p] := by
  induction closing generalizing s with
  | nil => exact ⟨s.ports, rfl, fun p => (if_neg List.not_mem_nil).symm⟩
  | cons q closing ih =>
    obtain ⟨ports, hfold, hports⟩ := ih (s := setPort s q (closeWindow s.ports[q])) h
    refine ⟨ports, by rw [List.foldl_cons, closeAtStrobe_of_halted h, hfold]; rfl, fun p => ?_⟩
    rw [hports]
    by_cases hp : p = q
    · subst hp
      rw [getElem_setPort_self, if_pos List.mem_cons_self]
      exact ite_self _
    · have hne : q.val ≠ p.val := fun he => hp (Fin.ext he.symm)
      have hset : (setPort s q (closeWindow s.ports[q])).ports[p] = s.ports[p] :=
        Vector.getElem_set_ne q.isLt p.isLt hne
      rw [hset]
      exact if_congr (by simp [hp]) rfl rfl

/-- A maintenance strobe in HALTED reaches every fitted port and judges nothing (R73, R94). -/
theorem strobeInstant_of_halted {s : State} (h : s.window.device = .halted) (hrow : s.row = none) :
    strobeInstant s false false = { s with ports := Vector.ofFn fun p : Fin 4 =>
      if p.val < s.window.straps.toNat + 1 then { s.ports[p] with pulse := 2, window := some maintenanceWindow }
      else { s.ports[p] with window := none } } := by
  obtain ⟨ports, hfold, hports⟩ := foldl_closeAtStrobe_of_halted false allPorts h
  have hcompleted : completeRow { s with ports := ports } = { s with ports := ports } := by
    rw [completeRow, hrow]
  have hdevice : (s.window.device == .halted) = true := beq_iff_eq.2 h
  unfold strobeInstant
  rw [hfold, hcompleted, sendStrobes]
  refine congrArg (fun v => { s with ports := v }) (congrArg Vector.ofFn (funext fun p => ?_))
  have hclosed : ports[p] = closeWindow s.ports[p] := by
    rw [hports, if_pos (by rw [allPorts_eq_finRange]; exact List.mem_finRange p)]
  rw [hclosed]
  refine if_congr decide_eq_true_iff ?_ rfl
  rw [hdevice]
  rfl

/-- Settles O17: not due, outside HALTED, and in HALTED. -/
theorem maintenanceStrobeGoesToEveryFittedPort : Obligations.MaintenanceStrobeGoesToEveryFittedPort := by
  intro s
  have hexec (hdue : maintenanceDue s = true) : exec .maintenanceStrobe s =
      .next (strobeInstant { s with stream := { s.stream with maintenance := some 0 } } false false) := if_pos hdue
  refine ⟨fun hnot => ?_, fun htimer hrows hdev => ⟨fun hhalted hdistinct hheld => ?_, fun hhalted hrow => ?_⟩⟩
  · refine if_neg fun hdue => ?_
    obtain ⟨⟨m, hm, htimer⟩, hrows, hdev⟩ := (maintenanceDue_iff s).1 hdue
    rcases hnot with h | ⟨m', hm', h⟩ | h | h
    · exact absurd (hm.symm.trans h) nofun
    · have hsame : m = m' := Option.some.inj (hm.symm.trans hm')
      omega
    · exact absurd (hrows.symm.trans h) (by decide)
    · exact hdev h
  · obtain ⟨hd, -⟩ := hdistinct
    obtain ⟨hsent, hrow, hcoder, hrecords, hrest⟩ := strobeInstant_done
      (s := { s with stream := { s.stream with maintenance := some 0 } }) false false hhalted hd hheld
    refine ⟨_, hexec ((maintenanceDue_iff s).2 ⟨htimer, hrows, hdev⟩), ?_⟩
    generalize strobeInstant _ false false = t at hsent hrow hcoder hrecords hrest
    have hstream : t.stream = { s.stream with maintenance := some 0 } := by rw [hrest]
    have hchannels : t.channels = s.channels := by rw [hrest]
    refine ⟨hstream, hsent, hchannels, hrow, hcoder, hrecords, ?_⟩
    rw [OnlyTheRow, hstream, hchannels, hrow]
    exact hrest
  · refine (hexec ((maintenanceDue_iff s).2 ⟨htimer, hrows, hdev⟩)).trans (congrArg _ ?_)
    exact strobeInstant_of_halted (s := { s with stream := { s.stream with maintenance := some 0 } }) hhalted hrow

end Sys2Proof.Laws
end

/-! ### The end of a row -/

section
set_option Elab.async false
namespace Sys2Proof.Laws

open Sys2Proof Sys2Proof.Machine Sys2Proof.Safety

/-- Rows run in RUNNING and DRAINING (R1). -/
theorem rowsRun_iff (s : State) : rowsRun s = true ↔ s.stream.state = .running ∨ s.stream.state = .draining := by
  rw [rowsRun, Bool.or_eq_true, beq_iff_eq, beq_iff_eq]

/-- A row ends when its row_period ticks have passed (R1). -/
theorem rowDue_eq_some {s : State} {f : SlotFrame} : rowDue s = some f ↔ RowEnds s f := by
  unfold rowDue RowEnds
  cases hcurrent : s.stream.current with
  | none => exact ⟨nofun, fun h => absurd h.2.2.1 nofun⟩
  | some g =>
    simp only [Option.ite_none_right_eq_some, Bool.and_eq_true, decide_eq_true_iff, isEnabled_iff, rowsRun_iff,
      Option.some.injEq]
    constructor
    · rintro ⟨⟨⟨hdev, hrows⟩, htimer⟩, rfl⟩
      exact ⟨hdev, hrows, rfl, htimer⟩
    · rintro ⟨hdev, hrows, rfl, htimer⟩
      exact ⟨⟨⟨hdev, hrows⟩, htimer⟩, rfl⟩

/-- The end of a row that is not the frame's last begins the next one (R1). -/
theorem exec_rowEnd_of_row {s : State} {f : SlotFrame} (h : RowEnds s f)
    (hnext : s.stream.rowIndex + 1 < f.bound.frameRows) :
    exec .rowEnd s = .next (beginRow s f (s.stream.rowIndex + 1)) := by
  simp only [exec, execRowEnd, rowDue_eq_some.2 h, if_pos hnext]

/-- The end of the last row is the frame end (R2). -/
theorem exec_rowEnd_of_frame {s : State} {f : SlotFrame} (h : RowEnds s f)
    (hlast : f.bound.frameRows ≤ s.stream.rowIndex + 1) : exec .rowEnd s = .next (frameEnd s f) := by
  simp only [exec, execRowEnd, rowDue_eq_some.2 h, if_neg (Nat.not_lt.2 hlast)]

/-- A row after row 0 begins with its strobe (R1). -/
theorem rowStrobe_begun_of_row {s : State} {f : SlotFrame} (h : RowEnds s f)
    (hd : (s.records.map FrameRecord.ref).Nodup) (hheld : storeHeld s.coder ≤ 8192) (index : Nat) :
    let t := rowStrobe
      { s with stream := { s.stream with rowIndex := index, rowTimer := 0, frameMark := false } } index false
    RowBegun s t false f index s.coder s.records ∧
      t.stream = { s.stream with rowIndex := index, rowTimer := 0, frameMark := false } ∧ OnlyTheRow s t false := by
  obtain ⟨hdev, -, hcurrent, -⟩ := h
  obtain ⟨hbegun, hstream, honly⟩ := rowStrobe_begun
    (s := { s with stream := { s.stream with rowIndex := index, rowTimer := 0, frameMark := false } })
    index false (by rw [hdev]; decide) hcurrent hd hheld
  exact ⟨hbegun, hstream, honly⟩

/-- Settles O14: no end before its time, and the next row. -/
theorem rowEndBeginsTheNextRow : Obligations.RowEndBeginsTheNextRow := by
  refine ⟨fun s hnot => ?_, ?_⟩
  · have hnone : rowDue s = none := by
      cases hdue : rowDue s with
      | none => rfl
      | some f =>
        obtain ⟨hdev, hrows, hcurrent, htimer⟩ := rowDue_eq_some.1 hdue
        rcases hnot with h | h | h
        · exact absurd hdev h
        · exact absurd ((rowsRun_iff s).2 hrows) (by rw [h]; decide)
        · exact absurd (h f hcurrent) (Nat.not_lt.2 htimer)
    simp only [exec, execRowEnd, hnone]
  · intro s f hends hnext hnosetup hdistinct hheld
    obtain ⟨hd, -⟩ := hdistinct
    obtain ⟨hbegun, hstream, honly⟩ := rowStrobe_begun_of_row hends hd hheld (s.stream.rowIndex + 1)
    have hnot : ¬ (isSetupRow f.bound (s.stream.rowIndex + 1) && s.stream.state == .running) = true := by
      rw [Bool.and_eq_true, isSetupRow, beq_iff_eq, beq_iff_eq]
      exact fun h => hnosetup ⟨h.2, h.1⟩
    refine ⟨_, (exec_rowEnd_of_row hends hnext).trans (congrArg _ (if_neg hnot)), hstream, hbegun, honly⟩

/-- A row's beginning changes nothing that a frame setup reads but the records, whose number it keeps (R8). -/
theorem frameSetup_reads_of_row {s u : State} {cut : Bool} (hu : OnlyTheRow s u cut)
    (hnext : u.stream.next = s.stream.next) (hlength : u.records.length = s.records.length) :
    frameOf u u.schedule = frameOf s s.schedule ∧ recordsMade u u.schedule = recordsMade s s.schedule ∧
      landedGroup u = landedGroup s ∧ landedCopies u = landedCopies s ∧
      landedSchedule u u.schedule = landedSchedule s s.schedule := by
  have hcommits : u.commits = s.commits := by rw [hu]
  have hprofiles : u.profiles = s.profiles := by rw [hu]
  have hschedule : u.schedule = s.schedule := by rw [hu]
  have hcompletions : u.completions = s.completions := by rw [hu]
  have hbuffers : u.buffers = s.buffers := by rw [hu]
  have hnextRef : u.nextRef = s.nextRef := by rw [hu]
  have hgroup : landedGroup u = landedGroup s := funext fun g => by simp only [landedGroup, DueNext, hnext]
  have hcopies : landedCopies u = landedCopies s := funext fun p => by
    simp only [landedCopies, DueNext, hnext, hcommits, hprofiles]
  have hlanded : landedSchedule u u.schedule = landedSchedule s s.schedule := by
    simp only [landedSchedule, DueNext, hnext, hcommits, hschedule]
  have hframe : frameOf u u.schedule = frameOf s s.schedule := by
    simp only [frameOf, stageFour, hlanded, hcopies, hcompletions, hlength, hbuffers, hnext, hnextRef]
  refine ⟨hframe, ?_, hgroup, hcopies, hlanded⟩
  simp only [recordsMade, hframe, hlanded, hbuffers, hnext, hnextRef]

/-- A row's beginning keeps the references of the records. -/
theorem rowBegun_refs {s t : State} {cut : Bool} {f : SlotFrame} {i : Nat} {c : Coder} {records : List FrameRecord}
    (h : RowBegun s t cut f i c records) : t.records.map FrameRecord.ref = records.map FrameRecord.ref := by
  obtain ⟨-, -, -, -, hrecords⟩ := h
  rw [hrecords]
  split
  · exact rowSettled_refs ..
  · exact (rowTaken_refs ..).trans (rowSettled_refs ..)

/-- Settles O15: the row begins as any other, and the setup follows. -/
theorem setupRowSetsUpTheNextFrame : Obligations.SetupRowSetsUpTheNextFrame := by
  intro s f hends hrunning hindex hdistinct hheld
  obtain ⟨hd, -⟩ := hdistinct
  obtain ⟨hbegun, hstream, honly⟩ := rowStrobe_begun_of_row hends hd hheld (s.stream.rowIndex + 1)
  have hsetup : (isSetupRow f.bound (s.stream.rowIndex + 1) && s.stream.state == .running) = true := by
    rw [Bool.and_eq_true, isSetupRow, beq_iff_eq, beq_iff_eq]
    exact ⟨hindex, hrunning⟩
  obtain ⟨u, hu⟩ : ∃ u, rowStrobe { s with stream := { s.stream with
    rowIndex := s.stream.rowIndex + 1, rowTimer := 0, frameMark := false } } (s.stream.rowIndex + 1) false = u := ⟨_, rfl⟩
  have hexec : exec .rowEnd s = .next (frameSetup u) :=
    (exec_rowEnd_of_row hends (by omega)).trans (congrArg _ (by rw [← hu]; exact if_pos hsetup))
  rw [hu] at hbegun hstream honly
  refine ⟨frameSetup u, u.records, hexec, ?_⟩
  have hlength : u.records.length = s.records.length := by
    rw [← List.length_map FrameRecord.ref, rowBegun_refs hbegun, List.length_map]
  obtain ⟨hframe, hmade, hgroup, hcopies, hlanded⟩ :=
    frameSetup_reads_of_row honly (by rw [hstream]) hlength
  rw [frameSetup_eq, hframe, hmade, hgroup, hcopies, hlanded]
  have hcommits : u.commits = s.commits := by rw [honly]
  have hbuffers : u.buffers = s.buffers := by rw [honly]
  have hnextRef : u.nextRef = s.nextRef := by rw [honly]
  rw [hcommits, hbuffers, hnextRef, hstream]
  refine ⟨rfl, hbegun, rfl, ⟨rfl, rfl, fun p => Vector.getElem_ofFn p.isLt, rfl, rfl, rfl⟩, rfl, ?_⟩
  rw [OnlyTheRow]
  conv_lhs => rw [honly]
  rfl

end Sys2Proof.Laws
end

/-! ### The beginning of row 0 -/

section
set_option Elab.async false
namespace Sys2Proof.Laws

open Sys2Proof Sys2Proof.Machine Sys2Proof.Safety

/-- The record and the row coder of the frame whose row 0 begins (R110, R135). -/
theorem openFrame_eq (s : State) (g : SlotFrame) : openFrame s g =
    { s with coder := openedCoder s.coder g, records := openedRecords s s.records g } := by
  cases g with
  | dropped q p b reason =>
    have hkept : openedRecords s s.records (.dropped q p b reason) = s.records := by
      simp [openedRecords, recordOf]
    rw [hkept]
    rfl
  | buffered q ref b =>
    have hrecords : (s.records.map fun r => if r.ref == ref then openRecord s.stream.timeCounter s.stream.missed r
        else r) = openedRecords s s.records (.buffered q ref b) := by
      refine List.map_congr_left fun r _ => ?_
      refine if_congr ?_ rfl rfl
      rw [beq_iff_eq, recordOf, Option.some.injEq]
      exact eq_comm
    simp only [openFrame, updateRecord, hrecords]
    rfl

/-- The beginning of row 0 cuts a maintenance window short (R74; log 24). -/
theorem cutsShort_eq_cutsWindows (s : State) : cutsShort s.stream = cutsWindows s := by
  unfold cutsShort cutsWindows
  cases s.stream.maintenance <;> rfl

/-- The beginning of row 0 keeps the references of the records. -/
theorem openedRecords_refs (s : State) (records : List FrameRecord) (g : SlotFrame) :
    (openedRecords s records g).map FrameRecord.ref = records.map FrameRecord.ref := by
  rw [openedRecords, List.map_map]
  refine List.map_congr_left fun r _ => ?_
  by_cases h : recordOf g = some r.ref <;> simp [h]

/-- The beginning of row 0 keeps what the store holds (R118). -/
theorem openedCoder_storeHeld (c : Coder) (g : SlotFrame) : storeHeld (openedCoder c g) = storeHeld c := by
  unfold openedCoder
  split <;> rfl

/-- Row 0 of the set-up frame begins (R10). -/
theorem beginRow0_begun {s : State} {g : SlotFrame} (hdev : s.window.device ≠ .halted)
    (hsetUp : s.stream.setUp = some g) (hd : (s.records.map FrameRecord.ref).Nodup)
    (hheld : storeHeld s.coder ≤ 8192) :
    RowZeroBegun s (beginRow0 s) g s.records ∧ (beginRow0 s).stream.mode = s.stream.mode ∧
      (beginRow0 s).stream.next = s.stream.next ∧ OnlyTheRow s (beginRow0 s) (cutsWindows s) := by
  obtain ⟨hbegun, hstream, honly⟩ := rowStrobe_begun (s := { s with
    stream := beginStream s.stream g, coder := openedCoder s.coder g, records := openedRecords s s.records g })
    0 (cutsWindows s) hdev rfl (by rw [openedRecords_refs]; exact hd) (by rw [openedCoder_storeHeld]; exact hheld)
  have hrow : beginRow0 s = rowStrobe { s with
      stream := beginStream s.stream g, coder := openedCoder s.coder g, records := openedRecords s s.records g }
      0 (cutsWindows s) := by
    simp only [beginRow0, hsetUp, openFrame_eq, cutsShort_eq_cutsWindows]
  rw [hrow]
  generalize rowStrobe _ 0 (cutsWindows s) = t at hbegun hstream honly ⊢
  have hmode : t.stream.mode = s.stream.mode := by rw [hstream]; rfl
  have hnext : t.stream.next = s.stream.next := by rw [hstream]; rfl
  refine ⟨⟨?_, hbegun⟩, hmode, hnext, honly⟩
  rw [hmode, hnext, hstream]
  rfl

/-- Settles O18: the edge in each state of the stream. -/
theorem triggerEdgeBeginsOrCounts : Obligations.TriggerEdgeBeginsOrCounts := by
  intro s
  refine ⟨fun hdev hwaiting hdistinct hheld g hg => ?_, fun hrunning hmode => ?_, fun hnot => ?_⟩
  · obtain ⟨hbegun, hmode, hnext, honly⟩ := beginRow0_begun (by rw [hdev]; decide) hg hdistinct.1 hheld
    refine ⟨beginRow0 s, ?_, hbegun, hmode, hnext, honly⟩
    simp only [exec, execTriggerEdge, hwaiting]
  · have hcount : min 255 (s.stream.missed + 1) = if s.stream.missed < 255 then s.stream.missed + 1 else 255 := by
      split <;> omega
    simp only [exec, execTriggerEdge, hrunning, hmode, hcount]
  · rcases hnot with h | h | ⟨h, hmode⟩
    · simp only [exec, execTriggerEdge, h]
    · simp only [exec, execTriggerEdge, h]
    · simp only [exec, execTriggerEdge, h, hmode]

end Sys2Proof.Laws
end

/-! ### The frame end -/

section
set_option Elab.async false
namespace Sys2Proof.Laws

open Sys2Proof Sys2Proof.Machine Sys2Proof.Safety

/-- A drop report finds an entry by R142. -/
theorem entryFound_iff (s : State) :
    entryFound s = true ↔ s.completions.holding.length + waitingProducers s < 8 := by
  rw [entryFound, decide_eq_true_iff, waiterCount_eq_waitingProducers]

/-- The bit of a drop reason (TABLE 8-3). -/
theorem bit_eq_reasonBit (reason : DropReason) : reason.bit = reasonBit reason := by cases reason <;> rfl

/-- The report of a dropped frame, or the halt (R142, R169, R170). -/
theorem dropReport_eq (s : State) (q : Word) (reason : DropReason) : dropReport s q reason =
    if (∃ d ∈ s.completions.summary, 2 ^ 31 ≤ (q - d.first).toNat) then haltedAt s .dropOverflow 0
    else { s with completions := dropReported s q reason } := by
  cases hsummary : s.completions.summary with
  | none =>
    rw [if_neg (by simp)]
    by_cases hentry : entryFound s = true
    · have hfree := (entryFound_iff s).1 hentry
      simp only [dropReport, hsummary, hentry, and_self, if_true, dropReported, if_pos hfree, ← bit_eq_reasonBit,
        place]
    · have hfull := mt (entryFound_iff s).2 hentry
      simp only [dropReport, hsummary, hentry, and_false, if_false, dropOverflows, mergeDrop, dropReported,
        if_neg hfull, ← bit_eq_reasonBit, Bool.false_eq_true]
  | some d =>
    have hpow : (2 : Nat) ^ 31 = 2147483648 := by norm_num
    by_cases hover : 2147483648 ≤ (q - d.first).toNat
    · rw [if_pos ⟨d, rfl, by rw [hpow]; exact hover⟩]
      simp only [dropReport, hsummary, reduceCtorEq, false_and, if_false, dropOverflows, hover, decide_true, if_true,
        enterHalted_eq_haltedAt]
    · rw [if_neg (by rintro ⟨x, ⟨⟩, hx⟩; rw [hpow] at hx; exact hover hx)]
      simp only [dropReport, hsummary, reduceCtorEq, false_and, if_false, dropOverflows, hover, decide_false,
        Bool.false_eq_true, mergeDrop, dropReported, ← bit_eq_reasonBit]

/-- The release of the current frame: a dropped one is reported, or halts the device (R2, R142, R170). -/
theorem reportDropped_eq (s : State) (f : SlotFrame) : reportDropped s f =
    if releaseOverflows s f = true then haltedAt s .dropOverflow 0
    else { s with completions := releasedCompletions s f } := by
  cases f with
  | buffered q ref b => rfl
  | dropped q p b reason =>
    rw [reportDropped, dropReport_eq]
    refine if_congr ?_ rfl rfl
    simp only [releaseOverflows]
    cases s.completions.summary with
    | none => simp
    | some d => simp

/-- The pending STOP END is answered OK (R15, R16). -/
theorem stopEndAnswered_answeredWork (s : State) {a : Answer} (h : a.status = .ok) :
    StopEndAnswered s.requests.entries (answeredWork s .stopEnd a) := by
  refine ⟨List.length_map _, fun x hx => ?_⟩
  obtain ⟨e, -, rfl⟩ : ∃ e ∈ s.requests.entries,
      (e, if e.work = .stopEnd ∧ e.answer = none then { e with answer := some a } else e) = x := by
    rw [answeredWork, List.zip_map_right, List.mem_map] at hx
    obtain ⟨⟨e, e'⟩, hmem, rfl⟩ := hx
    obtain rfl : e = e' := by
      rw [List.zip_eq_zipWith, List.zipWith_self, List.mem_map] at hmem
      obtain ⟨e'', -, hsame⟩ := hmem
      exact (Prod.ext_iff.1 hsame).1.symm.trans (Prod.ext_iff.1 hsame).2
    exact ⟨e, (List.of_mem_zip hmem).1, rfl⟩
  by_cases hpending : e.work = .stopEnd ∧ e.answer = none
  · simp only [if_pos hpending]
    exact ⟨trivial, congrArg some h⟩
  · simp only [if_neg hpending]

/-- Settles O16: the halt of the drop report, and the three ways on. -/
theorem frameEndFollowsTheStreamState : Obligations.FrameEndFollowsTheStreamState := by
  intro s f hends hlast
  have hexec := exec_rowEnd_of_frame hends hlast
  obtain ⟨hdev, -, -, -⟩ := hends
  have hreleased := reportDropped_eq { s with stream := { s.stream with current := none } } f
  refine ⟨fun hover => ?_, fun hfits => ?_⟩
  · have hhalted : reportDropped { s with stream := { s.stream with current := none } } f =
        haltedAt s .dropOverflow 0 := hreleased.trans (if_pos (by cases f <;> exact hover))
    refine hexec.trans (congrArg _ ?_)
    simp only [frameEnd, hhalted]
    rfl
  · have hreport : reportDropped { s with stream := { s.stream with current := none } } f =
        { s with stream := { s.stream with current := none }, completions := releasedCompletions s f } := by
      refine hreleased.trans ((if_neg (by cases f <;> exact fun h => absurd (hfits.symm.trans h) (by decide))).trans ?_)
      cases f <;> rfl
    have henabled : isEnabled
        { s with stream := { s.stream with current := none }, completions := releasedCompletions s f } = true :=
      isEnabled_of hdev
    refine ⟨fun hrunning hmode hdistinct hheld g hg => ?_, fun hrunning hmode => ?_, fun hdraining => ?_⟩
    · obtain ⟨hbegun, hmode', hnext, honly⟩ := beginRow0_begun (s := { s with
        stream := { s.stream with current := none }, completions := releasedCompletions s f })
        (by rw [hdev]; decide) hg hdistinct.1 hheld
      refine ⟨_, ?_, hbegun, hmode'.trans hmode, hnext, honly⟩
      refine hexec.trans (congrArg _ ?_)
      simp only [frameEnd, hreport, if_pos henabled]
      simp only [hrunning, hmode]
    · refine hexec.trans (congrArg _ ?_)
      simp only [frameEnd, hreport, if_pos henabled]
      simp only [hrunning, hmode, ceaseRows]
    · refine ⟨_, hexec, ?_⟩
      have hend : frameEnd s f = endRun
          { s with stream := { s.stream with current := none }, completions := releasedCompletions s f } := by
        simp only [frameEnd, hreport, if_pos henabled]
        simp only [hdraining]
      rw [hend]
      exact ⟨rfl, rfl, rfl, stopEndAnswered_answeredWork s rfl, rfl⟩

end Sys2Proof.Laws
end

/-! ### START -/

section
set_option Elab.async false
namespace Sys2Proof.Laws

open Sys2Proof Sys2Proof.Machine Sys2Proof.Safety

/-- In its turn a START is taken and answered (R13, R151). -/
theorem exec_start_of_turn {s : State} {r : Record} {rest : List Record} (hturn : ImmediateTurn s r rest)
    (hkind : HasKind r 0x05) : exec .start s = .next (answerImmediate r (startOwner r (advanceHead s rest)).1
      (startOwner r (advanceHead s rest)).2) :=
  runImmediate_of_turn startOwner hturn (not_longRecord_of_kind_lt hkind (by decide))
    ((ofKind_eq_true_iff kindStart r).2 hkind)

/-- A START with a refusal (R13; log 8). -/
theorem exec_start_of_refused {s : State} {r : Record} {rest : List Record} {status : Status}
    (hturn : ImmediateTurn s r rest) (hkind : HasKind r 0x05)
    (howner : startOwner r (advanceHead s rest) = (useFree (advanceHead s rest), freeAnswer (advanceHead s rest) status)) :
    ∃ d a, exec .start s =
      .next (answered { s with freeCount := s.freeCount + 1 } r rest ⟨status, d, a⟩) := by
  refine ⟨Config.freeDetail s.freeCount, Config.freeAux s.freeCount, ?_⟩
  rw [exec_start_of_turn hturn hkind, howner]
  rfl

/-- The machine whose run's first frame has been set up (R8, R13, R69). -/
def readied (s : State) (rest : List Record) (mode : StartMode) : State :=
  let u := { s.schedule with entry := 0, remaining := repeatAt s.schedule.active 0 }
  { advanceHead s rest with
    stream := { s.stream with mode := mode, next := s.stream.next + 1, setUp := some (frameOf s u) }
    commits := s.commits.map (landedGroup s)
    profiles := Vector.ofFn (landedCopies s)
    schedule := steppedSchedule (landedSchedule s u)
    buffers := { s.buffers with list := if isBuffered (frameOf s u) then s.buffers.list.tail else s.buffers.list }
    records := s.records ++ recordsMade s u
    nextRef := if isBuffered (frameOf s u) then s.nextRef + 1 else s.nextRef }

/-- The setup of a run's first frame (R8, R13, R69). -/
theorem frameSetup_eq_readied (s : State) (rest : List Record) (mode : StartMode) :
    frameSetup { advanceHead s rest with
      stream := { (advanceHead s rest).stream with mode := mode }
      schedule := restartPosition (advanceHead s rest).schedule } = readied s rest mode := by
  have hposition : restartPosition s.schedule =
      { s.schedule with entry := 0, remaining := repeatAt s.schedule.active 0 } := by
    rw [restartPosition, scheduleEntryAt_repeats]
  rw [advanceHead_schedule, hposition, frameSetup_eq]
  rfl

/-- The beginning of a run whose first frame has been set up (R13, R145). -/
def runBegun (ready : State) (mode : StartMode) : State :=
  let begun := match mode with
    | .free => beginRow0 ready
    | .triggered => { ready with stream := { ready.stream with state := .waiting } }
  { begun with buffers := { begun.buffers with paused := false } }

/-- A run begins once its first frame has been set up (R13). -/
theorem startRun_eq (s : State) (rest : List Record) (mode : StartMode) :
    startRun (advanceHead s rest) mode = runBegun (readied s rest mode) mode := by
  unfold startRun
  dsimp only
  rw [frameSetup_eq_readied]
  rfl

/-- An accepted START answers OK once the run has begun (R13; log 8). -/
theorem exec_start_of_accepted {s : State} {r : Record} {rest : List Record} {mode : StartMode}
    (hturn : ImmediateTurn s r rest) (hkind : HasKind r 0x05) (hmode : recordNat r 0x08 1 ≤ 1)
    (hmodeOf : startModeOf (recordNat r 0x08 1) = mode) (hstopped : s.stream.state = .stopped)
    (hreclaim : s.buffers.reclaim = none) :
    exec .start s = .next (answerImmediate r (useFree (runBegun (readied s rest mode) mode))
      (freeAnswer (runBegun (readied s rest mode) mode) .ok)) := by
  have hready : ¬ ((advanceHead s rest).stream.state ≠ .stopped ∨
      (advanceHead s rest).buffers.reclaim.isSome = true) := by
    rw [advanceHead_stream, advanceHead_buffers, hstopped, hreclaim]
    simp
  have howner : startOwner r (advanceHead s rest) =
      (useFree (startRun (advanceHead s rest) mode), freeAnswer (startRun (advanceHead s rest) mode) .ok) := by
    unfold startOwner
    dsimp only
    rw [if_neg (Nat.not_lt.2 hmode), if_neg hready, hmodeOf]
  rw [exec_start_of_turn hturn hkind, howner, startRun_eq]

/-- A setup makes no record, or one of the next reference (R134). -/
theorem recordsMade_cases (s : State) (u : ScheduleUnit) :
    recordsMade s u = [] ∨ ∃ x, recordsMade s u = [x] ∧ x.ref = s.nextRef ∧ x.phase = .setUp := by
  unfold recordsMade
  dsimp only
  split
  · cases s.buffers.list with
    | nil => exact .inl rfl
    | cons d rest => exact .inr ⟨_, rfl, rfl, rfl⟩
  · exact .inl rfl

/-- The records of a readied machine keep distinct references (R127). -/
theorem readied_nodup {s : State} (rest : List Record) (mode : StartMode) (h : RecordsDistinct s) :
    ((readied s rest mode).records.map FrameRecord.ref).Nodup := by
  obtain ⟨hd, hfresh, -⟩ := h
  let u := { s.schedule with entry := 0, remaining := repeatAt s.schedule.active 0 }
  change ((s.records ++ recordsMade s u).map FrameRecord.ref).Nodup
  rcases recordsMade_cases s u with hnone | ⟨x, hone, href, -⟩
  · rw [hnone, List.append_nil]
    exact hd
  · rw [hone, List.map_append, List.nodup_append]
    refine ⟨hd, List.nodup_singleton _, fun a ha b hb hab => ?_⟩
    obtain ⟨y, hy, rfl⟩ := List.mem_map.1 ha
    have hlt := hfresh y hy
    rw [hab, List.mem_singleton.1 hb, href] at hlt
    exact Nat.lt_irrefl _ hlt

/-- Nothing changes but what a row's beginning writes (R10). -/
theorem onlyTheRow_of {s t : State} {cut : Bool} (h : t = { s with
      stream := t.stream, ports := t.ports, channels := t.channels, row := t.row, coder := t.coder
      records := t.records, requests := { s.requests with entries := t.requests.entries }
      freeCount := t.freeCount })
    (hcount : t.freeCount = s.freeCount + (failingPorts s cut).length) : OnlyTheRow s t cut := by
  rw [OnlyTheRow, ← hcount]
  exact h

/-- Settles O32: the run begins with row 0 or in WAITING, and the two refusals. -/
theorem startBeginsARun : Obligations.StartBeginsARun := by
  intro s r rest hturn hkind mode u g
  refine ⟨fun hmode hstopped hreclaim hdistinct hheld => ?accepted, fun hmode => ?badField, fun hmode hbusy => ?busy⟩
  case badField =>
    refine exec_start_of_refused hturn hkind ?_
    unfold startOwner
    exact if_pos hmode
  case busy =>
    refine exec_start_of_refused hturn hkind ?_
    have hnot : (advanceHead s rest).stream.state ≠ .stopped ∨ (advanceHead s rest).buffers.reclaim.isSome = true := by
      refine hbusy.imp id fun h => ?_
      exact Option.isSome_iff_ne_none.2 h
    unfold startOwner
    dsimp only
    rw [if_neg (Nat.not_lt.2 hmode), if_pos hnot]
  case accepted =>
    intro records
    obtain ⟨⟨hdev, -⟩, -⟩ := id hturn
    rcases (by omega : mode = 0 ∨ mode = 1) with hzero | hone
    · have hmodeOf : startModeOf (recordNat r 0x08 1) = .free := by
        change startModeOf mode = _
        rw [hzero]
        rfl
      have hexec := exec_start_of_accepted hturn hkind hmode hmodeOf hstopped hreclaim
      obtain ⟨hbegun, hmode', hnext, honly⟩ := beginRow0_begun (s := readied s rest .free) (by
        change s.window.device ≠ .halted
        rw [hdev]
        decide) rfl (readied_nodup rest .free hdistinct) hheld
      rw [runBegun] at hexec
      dsimp only at hexec
      generalize beginRow0 (readied s rest .free) = z at hbegun hmode' hnext honly hexec
      have hcommits : z.commits = s.commits.map (landedGroup s) := by rw [honly]; rfl
      have hprofiles : z.profiles = Vector.ofFn (landedCopies s) := by rw [honly]; rfl
      have hschedule : z.schedule = steppedSchedule (landedSchedule s u) := by rw [honly]; rfl
      have hbuffers : z.buffers = (readied s rest .free).buffers := by rw [honly]
      have hnextRef : z.nextRef = (readied s rest .free).nextRef := by rw [honly]
      have hhead : z.requests.head = headAfter s := by rw [honly]; rfl
      have hholding : z.completions = s.completions := by rw [honly]; rfl
      let done := Completion.requestDone (recordField r 0x02 2) (recordField r 0x00 1)
        ⟨.ok, Config.freeDetail z.freeCount, Config.freeAux z.freeCount⟩ z.requests.head
      refine ⟨_, hexec, ⟨hnext, hcommits, fun p => ?_, hschedule, ?_, hnextRef⟩, rfl,
        ⟨Config.freeDetail z.freeCount, Config.freeAux z.freeCount, ?_⟩,
        fun _ => ⟨hmode', hbegun, ?_⟩, fun hone => absurd (hzero.symm.trans hone) (by decide)⟩
      · change z.profiles[p] = _
        rw [hprofiles]
        exact Vector.getElem_ofFn p.isLt
      · change { z.buffers with paused := false } = _
        rw [hbuffers]
        rfl
      · change { z.completions with holding := z.completions.holding ++ [done] } = _
        simp only [done]
        rw [hholding, hhead]
        rfl
      · have hcount : z.freeCount = s.freeCount + (failingPorts s (cutsWindows s)).length := by rw [honly]; rfl
        have hrest : z = { readied s rest .free with
            stream := z.stream, ports := z.ports, channels := z.channels, row := z.row, coder := z.coder
            records := z.records, commits := z.commits, profiles := z.profiles, schedule := z.schedule
            buffers := z.buffers, nextRef := z.nextRef, completions := z.completions, freeCount := z.freeCount
            requests := { s.requests with intake := rest, head := headAfter s, entries := z.requests.entries } } := by
          rw [hcommits, hprofiles, hschedule, hbuffers, hnextRef, hholding, hcount]
          exact honly
        refine onlyTheRow_of (Eq.trans (congrArg (fun y : State => { y with
          buffers := { z.buffers with paused := false }
          completions := { z.completions with holding := z.completions.holding ++ [done] }
          freeCount := z.freeCount + 1 }) hrest) rfl) ?_
        change z.freeCount + 1 = s.freeCount + 1 + (failingPorts s (cutsWindows s)).length
        omega
    · have hmodeOf : startModeOf (recordNat r 0x08 1) = .triggered := by
        change startModeOf mode = _
        rw [hone]
        rfl
      refine ⟨_, exec_start_of_accepted hturn hkind hmode hmodeOf hstopped hreclaim,
        ⟨rfl, rfl, fun p => Vector.getElem_ofFn p.isLt, rfl, rfl, rfl⟩, rfl, ⟨_, _, rfl⟩,
        fun hzero => absurd (hone.symm.trans hzero) (by decide), fun _ => rfl⟩

end Sys2Proof.Laws
end

/-! ### STOP ABORT -/

section
set_option Elab.async false
namespace Sys2Proof.Laws

open Sys2Proof Sys2Proof.Machine Sys2Proof.Safety

/-- The current frame's record is OPEN (R138). -/
def currentOpen (s : State) (x : FrameRecord) : Bool :=
  x.phase == .opened && s.stream.current.bind recordOf == some x.ref

/-- The row coder and the records after a STOP ABORT has closed the current frame's OPEN record (R122, R138). -/
def abortedParts (s : State) : Coder × List FrameRecord :=
  match s.records.find? (currentOpen s) with
  | some x => ((drained (nextTurn s.records) { s.coder with openFrame := none } (abortedRecord x)).1,
      s.records.map fun z => if z.ref = x.ref then abortedRecord x else z)
  | none => (s.coder, s.records)

/-- A listed OPEN record of the current frame is the one that a STOP ABORT closes. -/
theorem abortedParts_of_open {s : State} {x : FrameRecord} (hd : (s.records.map FrameRecord.ref).Nodup)
    (hx : x ∈ s.records) (hopen : x.phase = .opened) (hcurrent : s.stream.current.bind recordOf = some x.ref) :
    abortedParts s = ((drained (nextTurn s.records) { s.coder with openFrame := none } (abortedRecord x)).1,
      s.records.map fun z => if z.ref = x.ref then abortedRecord x else z) := by
  have hmatch : currentOpen s x = true := by rw [currentOpen, hopen, hcurrent]; simp
  obtain ⟨y, hy⟩ := Option.isSome_iff_exists.1 ((List.find?_isSome (p := currentOpen s)).2 ⟨x, hx, hmatch⟩)
  have hycurrent : currentOpen s y = true := List.find?_some hy
  obtain ⟨-, hyref⟩ := Bool.and_eq_true_iff.1 hycurrent
  have href : y.ref = x.ref := (Option.some.inj (hcurrent.symm.trans (beq_iff_eq.1 hyref))).symm
  obtain rfl := List.inj_on_of_nodup_map hd (List.mem_of_find?_eq_some hy) hx href
  rw [abortedParts, hy]

/-- Without an OPEN record of the current frame a STOP ABORT closes none. -/
theorem abortedParts_of_none {s : State}
    (h : ∀ x ∈ s.records, x.phase = .opened → s.stream.current.bind recordOf ≠ some x.ref) :
    abortedParts s = (s.coder, s.records) := by
  have hnone : s.records.find? (currentOpen s) = none := List.find?_eq_none.2 fun x hx hmatch => by
    obtain ⟨hopen, hcurrent⟩ := Bool.and_eq_true_iff.1 hmatch
    exact h x hx (beq_iff_eq.1 hopen) (beq_iff_eq.1 hcurrent)
  rw [abortedParts, hnone]

/-- The record of an aborted current frame is delivered with ABORTED damage (R137, R138). -/
theorem closedRecord_aborted (x : FrameRecord) :
    closedRecord { x with damage := x.damage ||| damageAborted } = abortedRecord x := by
  have hkept : (x.damage ||| damageAborted) &&& 0xF8#8 ≠ 0 := by
    intro h
    have hbit := congrArg (fun v : BitVec 8 => v.getLsbD 6) h
    simp [damageAborted] at hbit
  have hdisposition : ¬ (x.bound.damagePolicy = .discard ∧ x.damage ||| damageAborted ≠ 0 ∧
      (x.damage ||| damageAborted) &&& 0xF8#8 = 0) := fun h => hkept h.2.2
  have hdeliver : (closedRecord { x with damage := x.damage ||| damageAborted }).disposition = some .deliver :=
    congrArg some (if_neg hdisposition)
  calc closedRecord { x with damage := x.damage ||| damageAborted }
      = { closedRecord { x with damage := x.damage ||| damageAborted } with disposition := some .deliver } := by
        rw [← hdeliver]
    _ = abortedRecord x := rfl

/-- A frame to be delivered issues its header write as it drains, and its record stays (R123). -/
theorem drained_abortedRecord (turn : Nat) (c : Coder) (x : FrameRecord) :
    (drained turn c (abortedRecord x)).2 = abortedRecord x := by
  have hdeliver : ¬ (abortedRecord x).disposition = some .discard := nofun
  unfold drained
  rw [if_neg hdeliver]
  split <;> rfl

/-- The abort of the current frame while no drop summary waits (R138, R142). -/
theorem abortCurrent_eq {s : State} (hd : (s.records.map FrameRecord.ref).Nodup)
    (hsummary : s.completions.summary = none) : abortCurrent s = { s with
      coder := (abortedParts s).1, records := (abortedParts s).2
      completions := (s.stream.current.map (releasedCompletions s)).getD s.completions } := by
  unfold abortCurrent
  cases hcurrent : s.stream.current with
  | none =>
    rw [abortedParts_of_none fun x _ _ h => absurd ((congrArg (·.bind recordOf) hcurrent).symm.trans h) nofun]
    rfl
  | some f =>
    cases f with
    | dropped q p b reason =>
      rw [abortedParts_of_none fun x _ _ h => absurd ((congrArg (·.bind recordOf) hcurrent).symm.trans h) nofun]
      dsimp only
      rw [dropReport_eq, if_neg (by simp [hsummary])]
      rfl
    | buffered q ref b =>
      have hbind : s.stream.current.bind recordOf = some ref := congrArg (·.bind recordOf) hcurrent
      dsimp only
      by_cases hopen : recordOpen s ref = true
      · obtain ⟨x, hx, rfl, hphase⟩ := (recordOpen_iff hd ref).1 hopen
        rw [abortRecord, if_pos hopen, abortedParts_of_open hd hx hphase hbind, addDamage,
          updateRecord_eq_replaceRecord hd hx, endCapture_replaceRecord (v := { x with damage := x.damage ||| damageAborted }) hd hx rfl rfl]
        dsimp only
        rw [closedRecord_aborted, drained_abortedRecord]
        rfl
      · rw [abortRecord, if_neg hopen, abortedParts_of_none fun x hx hphase h => ?_]
        · rfl
        · have href : x.ref = ref := (Option.some.inj (hbind.symm.trans h)).symm
          exact hopen ((recordOpen_iff hd ref).2 ⟨x, hx, href, hphase⟩)

/-- The closing of an OPEN record and the cancellation of a set-up frame change different records (R17, R138). -/
theorem recordsAfterCancel_aborted {s v : State} {x : FrameRecord} (hd : (s.records.map FrameRecord.ref).Nodup)
    (hsetUp : SetUpHasRecord s) (hx : x ∈ s.records) (hopen : x.phase = .opened)
    (hslot : v.stream.setUp = s.stream.setUp)
    (hrecords : v.records = s.records.map fun z => if z.ref = x.ref then abortedRecord x else z) :
    recordsAfterCancel v =
      (recordsAfterCancel s).map fun z => if z.ref = x.ref then abortedRecord x else z := by
  unfold recordsAfterCancel
  rw [hslot]
  cases hg : s.stream.setUp with
  | none => exact hrecords
  | some g =>
    have hturn : nextTurn v.records = nextTurn s.records := by
      rw [hrecords]
      exact nextTurn_replaceRecord (v := abortedRecord x) hd hx rfl
    dsimp only [cancelledRecords]
    rw [hturn, hrecords, List.map_map, List.map_map]
    refine List.map_congr_left fun z hz => ?_
    have hother : recordOf g ≠ some x.ref := fun href => by
      obtain ⟨y, hy, hyref, hyphase⟩ := hsetUp g hg x.ref href
      rw [List.inj_on_of_nodup_map hd hy hx hyref, hopen] at hyphase
      exact absurd hyphase nofun
    by_cases hsame : z.ref = x.ref
    · have hz' : recordOf g ≠ some z.ref := hsame ▸ hother
      have ha : recordOf g ≠ some (abortedRecord x).ref := hother
      simp only [Function.comp, if_pos hsame, if_neg hz', if_neg ha]
    · by_cases hcancelled : recordOf g = some z.ref
      · simp only [Function.comp, if_neg hsame, if_pos hcancelled]
      · simp only [Function.comp, if_neg hsame, if_neg hcancelled]

/-- In its turn a STOP ABORT is answered, and then ends the run (R16; log 20). -/
theorem exec_stopAbort_of_turn {s : State} {r : Record} {rest : List Record} (hturn : ImmediateTurn s r rest)
    (hkind : HasKind r 0x06) (hmanner : recordNat r 0x08 1 = 1) : exec .stopAbort s = .next (abortRun
      (answered { s with freeCount := s.freeCount + 1 } r rest
        ⟨.ok, Config.freeDetail s.freeCount, Config.freeAux s.freeCount⟩)) := by
  have himm : ¬ LongRecord s r := fun hlong => by
    have hzero := ((longRecord_of_stop hkind).1 hlong).1
    omega
  have htest : (ofKind kindStop r && stopMannerAbort r) = true := by
    rw [Bool.and_eq_true]
    exact ⟨(ofKind_eq_true_iff kindStop r).2 hkind, (stopMannerAbort_iff r).2 hmanner⟩
  have htake : takeImmediate s (fun r => ofKind kindStop r && stopMannerAbort r) = some (r, advanceHead s rest) :=
    (takeImmediate_eq_some_iff ..).2 ⟨rest, hturn.2.2.2, htest, grant_of_immediateTurn hturn himm, rfl⟩
  simp only [exec, execStopAbort, htake]
  rfl

/-- The machine as a STOP ABORT in DRAINING marks the pending STOP END complete (R16). -/
theorem completeStopEnd_answered (s : State) : ∃ entries freeCount,
    completeStopEnd s = { s with requests := { s.requests with entries := entries }, freeCount := freeCount } ∧
      if s.stream.state = .draining then StopEndAnswered s.requests.entries entries
      else entries = s.requests.entries := by
  unfold completeStopEnd
  by_cases hdraining : s.stream.state = .draining
  · rw [if_pos hdraining]
    exact ⟨_, _, rfl, by rw [if_pos hdraining]; exact stopEndAnswered_answeredWork s rfl⟩
  · rw [if_neg hdraining]
    exact ⟨_, _, rfl, by rw [if_neg hdraining]⟩

/-- A STOP ABORT of a run, with the current frame aborted as w (R16). -/
theorem abortRun_of_running {u w : State} (hrun : u.stream.state ≠ .stopped)
    (hw : abortCurrent { completeStopEnd u with
      stream := { (completeStopEnd u).stream with frameMark := false }, row := none } = w)
    (hdev : w.window.device = .enabled) : abortRun u =
      let cancelled := cancelSetUp { w with stream := { w.stream with current := none } }
      { cancelled with stream := { cancelled.stream with
          state := .stopped, missed := 0
          maintenance := if rowsRun u then some 0 else cancelled.stream.maintenance } } := by
  unfold abortRun
  rw [if_neg hrun]
  dsimp only
  rw [hw, if_pos (isEnabled_of hdev)]

/-- Settles O34: the answer first, then the row, the current frame, the set-up frame and the run. -/
theorem stopAbortEndsTheRun : Obligations.StopAbortEndsTheRun := by
  intro s r rest hturn hkind hmanner hdistinct hsetUp
  have hexec := exec_stopAbort_of_turn hturn hkind hmanner
  obtain ⟨⟨hdev, -⟩, ⟨-, -, -, -, hsummary⟩, -⟩ := hturn
  obtain ⟨hd, -⟩ := hdistinct
  let done : Answer := ⟨.ok, Config.freeDetail s.freeCount, Config.freeAux s.freeCount⟩
  let u := answered { s with freeCount := s.freeCount + 1 } r rest done
  refine ⟨fun hstopped => ⟨_, _, hexec.trans (congrArg _ (if_pos hstopped))⟩, fun hrun => ?_⟩
  obtain ⟨entries, count, hmarked, hentries⟩ := completeStopEnd_answered u
  let v : State := { u with
    requests := { u.requests with entries := entries }, freeCount := count
    stream := { s.stream with frameMark := false }, row := none }
  have hcurrent : abortCurrent v = { v with
      coder := (abortedParts s).1, records := (abortedParts s).2
      completions := (s.stream.current.map (releasedCompletions v)).getD v.completions } :=
    abortCurrent_eq (s := v) hd hsummary
  have habort : abortRun u = { v with
      stream := { cancelledStream s.stream with
        state := .stopped, current := none, frameMark := false, missed := 0
        maintenance := if rowsRun s then some 0 else s.stream.maintenance }
      coder := (abortedParts s).1
      records := recordsAfterCancel { s with records := (abortedParts s).2 }
      completions := (s.stream.current.map (releasedCompletions v)).getD v.completions } := by
    have hstopped : abortCurrent { completeStopEnd u with
        stream := { (completeStopEnd u).stream with frameMark := false }, row := none } = abortCurrent v := by
      rw [hmarked]
      rfl
    rw [abortRun_of_running (u := u) hrun (hstopped.trans hcurrent) hdev, cancelSetUp_eq]
    rfl
  refine ⟨_, hexec.trans (congrArg _ habort), rfl, rfl, rfl, hentries, 
    ⟨Config.freeDetail s.freeCount, Config.freeAux s.freeCount, ?_⟩, fun x hx hopen hbound => ?_, fun hnone => ?_, rfl⟩
  · have hreleased : releasedCompletions v = releasedCompletions
        { answered s r rest done with requests := { u.requests with entries := entries } } :=
      funext fun f => by cases f <;> rfl
    exact congrArg (fun g => (s.stream.current.map g).getD v.completions) hreleased
  · have hparts := abortedParts_of_open hd hx hopen hbound
    refine ⟨congrArg Prod.fst hparts, ?_⟩
    exact recordsAfterCancel_aborted (v := { s with records := (abortedParts s).2 }) hd hsetUp hx hopen rfl
      (congrArg Prod.snd hparts)
  · have hparts := abortedParts_of_none hnone
    exact ⟨congrArg Prod.fst hparts,
      congrArg (fun records => recordsAfterCancel { s with records := records }) (congrArg Prod.snd hparts)⟩

end Sys2Proof.Laws
end

/-! ### A step that breaks the staging order -/

section
set_option Elab.async false
namespace Sys2Proof.Laws

open Sys2Proof Sys2Proof.Machine Sys2Proof.Safety

/-- Four rows of two channels, every second row from row 2. -/
def fourRows : Profile :=
  { defaultProfile with rowPeriod := 90, frameRows := 16, rowFirst := 2, rowLast := 8, rowStep := 2, channelMask := 3#16 }

/-- A CLOSING record whose one row is still in the staging store, with the greater reference. -/
def olderRecord : FrameRecord :=
  { ref := 1, sequence := 0, profile := 0, bound := fourRows, descriptor := ⟨0x100000#64, 4096#32, 7#32⟩
    phase := .closing, rowsPlanned := 4, rowsWritten := 1, rowsLost := 0, payloadBytes := 4, damage := 0
    disposition := some .deliver, missed := 0, startTime := some 0, reportKind := none, turn := 0 }

/-- The SET_UP record of the next frame, with the lesser reference. -/
def newerRecord : FrameRecord :=
  { ref := 0, sequence := 1, profile := 0, bound := fourRows, descriptor := ⟨0x200000#64, 4096#32, 8#32⟩
    phase := .setUp, rowsPlanned := 4, rowsWritten := 0, rowsLost := 0, payloadBytes := 0, damage := 0
    disposition := none, missed := 0, startTime := none, reportKind := none, turn := 0 }

/-- The device WAITING for a trigger edge, the frame of the lesser reference in the set-up slot and a byte of the
greater one unissued. No part of the invariant orders the references of two records, while the staging order of R118 is
told by them. -/
def againstTheOrder : State :=
  { State.reset with
    pending := [.triggerEdge]
    window := { State.reset.window with
      device := .enabled, straps := 3#2
      setup := ⟨⟨0x10000#64, 16⟩, ⟨0x20000#64, 16⟩, ⟨0x30000#64, 16⟩, 4, 100⟩ }
    stream := { State.reset.stream with
      state := .waiting, mode := .triggered, next := 2, setUp := some (.buffered 1 0 fourRows), maintenance := some 0 }
    records := [olderRecord, newerRecord]
    coder := { resetCoder with unissued := [⟨1, 64, 0⟩] }
    nextRef := 2 }

/-- The state meets every invariant. -/
theorem inv_againstTheOrder : Inv againstTheOrder := by
  refine ⟨?capacity, ⟨?copies, ?slots, ?bound⟩, ?stream, ?commit, ?schedule, ?port, ?source,
    ⟨?distinct, ?turns, ?shape, fun _ => ⟨?setUp, ?setUpSlot, ?opened, ?openFrame⟩, ?row, ?rowHalted⟩,
    ⟨?consecutive, ?cursor, ?bytes, ?bursts, ?headers, ?headersOnce, ?closing⟩,
    ?trim, ?entries, ⟨fun _ => ⟨?requestRing, ?bufferRing, ?completionRing⟩, ?held, ?setupRead⟩, ?cause, ?notice⟩
  case held => exact fun h => h.elim (absurd · (by decide)) fun h => h.elim (absurd · (by decide)) (absurd · (by decide))
  all_goals decide +kernel

/-- The trigger edge opens the frame of the lesser reference behind the byte of the greater one. -/
theorem step_againstTheOrder : ∃ t, step againstTheOrder = .next t ∧ ¬ EndsAtCursor t.coder := by
  obtain ⟨t, ht⟩ := step_next againstTheOrder
  have hbroken : Tests.gives (step againstTheOrder) (fun u => !decide (EndsAtCursor u.coder)) = true := by decide +kernel
  rw [ht] at hbroken
  exact ⟨t, ht, of_decide_eq_false (Bool.not_eq_true' _ ▸ hbroken)⟩

/-- Refutes O55: from a state that meets the invariant, a trigger edge opens a frame whose reference is less than that
of the newest unissued byte, so that the staging order is broken. -/
theorem not_stepsKeepFramesAndPayloadInside : ¬ Obligations.StepsKeepFramesAndPayloadInside := by
  intro h
  obtain ⟨t, hstep, hbroken⟩ := step_againstTheOrder
  obtain ⟨-, -, -, hcursor, -⟩ := h againstTheOrder t inv_againstTheOrder hstep
  exact hbroken hcursor

end Sys2Proof.Laws
end

/-! ### The due event -/

section
set_option Elab.async false
namespace Sys2Proof.Laws

open Sys2Proof Sys2Proof.Machine Sys2Proof.Safety

/-- A record of a known kind with zero flags is taken by the command of its kind (R151). -/
theorem takingCommand_of_hasKind {r : Record} {k : Nat} (h : HasKind r k) (hlow : 1 ≤ k) (hhigh : k ≤ 12) :
    takingCommand r = commandOf r := by
  have hkind : requestKind r = BitVec.ofNat 8 k := by
    obtain ⟨hk, -⟩ := h
    exact BitVec.eq_of_toNat_eq (hk.trans (by rw [BitVec.toNat_ofNat]; omega))
  have hflags : requestFlags r = 0 := BitVec.eq_of_toNat_eq h.2
  by_cases hstop : k = 6
  · subst hstop
    by_cases hmanner : recordNat r 0x08 1 = 1
    · rw [commandOf_of_abort h hmanner, takingCommand, hkind, hflags]
      exact if_pos ((stopMannerAbort_iff r).2 hmanner)
    · rw [commandOf_of_hasKind h hlow hhigh fun hand => hmanner hand.2, takingCommand, hkind, hflags]
      exact if_neg (mt (stopMannerAbort_iff r).1 hmanner)
  · rw [commandOf_of_hasKind h hlow hhigh fun hand => hstop hand.1, takingCommand, hkind, hflags]
    rcases (by omega : k ≤ 5 ∨ 7 ≤ k) with hle | hge <;> interval_cases k <;> rfl

/-- The command that takes a record is told by its kind, flags and manner (R151, R155). -/
theorem takingCommand_eq_commandOf (r : Record) : takingCommand r = commandOf r := by
  by_cases hknown : kindKnown (requestKind r) = true
  · by_cases hflags : requestFlags r = 0
    · obtain ⟨hlow, hhigh⟩ := (kindKnown_iff r).1 hknown
      exact takingCommand_of_hasKind ⟨rfl, congrArg BitVec.toNat hflags⟩ hlow hhigh
    · rw [commandOf_of_flags hknown hflags]
      unfold takingCommand
      simp only [hknown, Bool.not_true, Bool.false_eq_true, if_false]
      exact if_pos (bne_iff_ne.2 hflags)
  · have hunknown : kindKnown (requestKind r) = false := Bool.eq_false_iff.2 hknown
    rw [commandOf_of_unknown hunknown]
    unfold takingCommand
    exact if_pos (congrArg not hunknown)

/-- The command that serves a granted waiter (TABLE 10-3). -/
theorem grantCommand_eq_servedBy {s : State} {w : Waiter} (h : grant s = some w) :
    grantCommand s w = servedBy s w := by
  cases w with
  | long i =>
    have hready : grantsReclaim s i = true ↔ ∃ e ∈ s.requests.entries[i]?, e.answer = none := by
      unfold grantsReclaim
      cases s.requests.entries[i]? with
      | none => simp
      | some e => simp [PendingEntry.ready]
    exact if_congr hready rfl rfl
  | immediate =>
    unfold grantCommand servedBy
    exact congrArg (Option.map · s.requests.intake.head?) (funext takingCommand_eq_commandOf)
  | _ => rfl

/-- The maintenance strobe is due by R4. -/
theorem maintenanceDue_iff_strobeDue (s : State) : maintenanceDue s = true ↔ StrobeDue s := by
  rw [maintenanceDue_iff]
  have hrows : rowsRun s = false ↔ s.stream.state ≠ .running ∧ s.stream.state ≠ .draining := by
    rw [← Bool.not_eq_true, rowsRun_iff, not_or]
  rw [hrows]
  exact ⟨fun ⟨h1, ⟨h2, h3⟩, h4⟩ => ⟨h1, h2, h3, h4⟩, fun ⟨h1, h2, h3, h4⟩ => ⟨h1, ⟨h2, h3⟩, h4⟩⟩

/-- A row is due to end by R1. -/
theorem rowDue_isSome_iff (s : State) : (rowDue s).isSome = true ↔ ∃ f ∈ s.stream.current, RowEnds s f := by
  rw [Option.isSome_iff_exists]
  constructor
  · rintro ⟨f, hf⟩
    have hends := rowDue_eq_some.1 hf
    exact ⟨f, hends.2.2.1, hends⟩
  · rintro ⟨f, -, hends⟩
    exact ⟨f, rowDue_eq_some.2 hends⟩

/-- The taking of a long request that is due (R153). -/
theorem dueLong_eq (s : State) : dueLong s =
    if s.window.device = .enabled ∧ s.requests.entries.length < 4 then
      (s.requests.intake.head?.filter fun r => decide (LongRecord s r)).map commandOf
    else none := by
  unfold dueLong takeLong
  cases s.requests.intake with
  | nil => exact (ite_self none).symm
  | cons r rest =>
    have himm : isImmediate s r = !decide (LongRecord s r) := by
      by_cases hlong : LongRecord s r
      · rw [decide_eq_true hlong]
        exact Bool.eq_false_iff.2 fun hi => (isImmediate_iff s r).1 hi hlong
      · rw [decide_eq_false hlong]
        exact (isImmediate_iff s r).2 hlong
    by_cases hdue : s.window.device = .enabled ∧ s.requests.entries.length < 4
    · obtain ⟨hdev, hroom⟩ := hdue
      by_cases hlong : LongRecord s r <;>
        simp [hdev, hroom, himm, hlong, isEnabled, takingCommand_eq_commandOf, Option.filter]
    · rw [if_neg hdue]
      by_cases hdev : s.window.device = .enabled
      · have hfull : ¬ s.requests.entries.length < 4 := fun h => hdue ⟨hdev, h⟩
        simp [hfull]
      · simp [isEnabled, hdev]

/-- The timed events that are due, in their order (log 2). -/
theorem dueTimed_eq (s : State) : dueTimed s =
    if s.window.device = .init ∧ 2000 ≤ s.window.initTicks then some .endOfInit
    else if ∃ f ∈ s.stream.current, RowEnds s f then some .rowEnd
    else if StrobeDue s then some .maintenanceStrobe
    else if slotReadOver s.trim.load then some .trimSlotReadDone
    else if s.completions.timer = some 0 then some .noticeTimerExpiry
    else none := by
  have hread : slotReadDue s = true ↔ slotReadOver s.trim.load = true := by
    unfold slotReadDue slotReadOver
    cases s.trim.load with
    | idle | waiting slot | slotRead slot elapsed | hostRead address => exact Iff.rfl
  exact if_congr Iff.rfl rfl (if_congr (rowDue_isSome_iff s) rfl
    (if_congr (maintenanceDue_iff_strobeDue s) rfl (if_congr hread rfl rfl)))

/-- The device's own due event is that of the statements (log 2). -/
theorem dueCommand_eq_dueEvent (s : State) : dueCommand s = dueEvent s := by
  have hlate : (match dueTimed s with
      | some c => some c
      | none => dueLong s) =
      if s.window.device = .init ∧ 2000 ≤ s.window.initTicks then some .endOfInit
      else if ∃ f ∈ s.stream.current, RowEnds s f then some .rowEnd
      else if StrobeDue s then some .maintenanceStrobe
      else if slotReadOver s.trim.load then some .trimSlotReadDone
      else if s.completions.timer = some 0 then some .noticeTimerExpiry
      else if s.window.device = .enabled ∧ s.requests.entries.length < 4 then
        (s.requests.intake.head?.filter fun r => decide (LongRecord s r)).map commandOf
      else none := by
    rw [dueTimed_eq, dueLong_eq]
    split_ifs <;> rfl
  unfold dueCommand dueEvent
  cases hgrant : grant s with
  | none =>
    rw [if_neg (by simp)]
    exact hlate
  | some w =>
    rw [Option.bind_some, Option.bind_some, grantCommand_eq_servedBy hgrant]
    cases hserved : servedBy s w with
    | none =>
      rw [if_neg (by simp [hserved])]
      exact hlate
    | some c => rw [if_pos ⟨w, rfl, by rw [hserved]; rfl⟩]

/-- A programming after one tick (R104; log 10). -/
theorem tickProgram_ticked (t : TrimUnit) : TrimTicked t (tickLoad (tickProgram t)) := by
  have hload (u : TrimUnit) : tickLoad u = { u with load := loadTicked u.load } := by
    obtain ⟨table, origin, slots, states, program, load⟩ := u
    cases load <;> rfl
  rw [hload]
  unfold tickProgram
  cases hprogram : t.program with
  | programming k image elapsed =>
    dsimp only
    by_cases htime : elapsed < programDuration
    · have htime' : elapsed < 100000 := htime
      rw [if_pos htime]
      unfold tickImage
      by_cases hwrite : Config.imageWriteTick ≤ elapsed + 1
      · rw [if_pos hwrite]
        refine ⟨by simp [programTicked, hprogram, htime', setSlot], rfl, rfl, rfl, rfl, fun j => ?_⟩
        by_cases hj : j = k
        · subst hj
          refine .inr ⟨by simp [imageWritable, hprogram, htime'], ?_⟩
          simp [imageWritable, hprogram, htime', setSlot]
        · have hne : k.val ≠ j.val := fun he => hj (Fin.ext he.symm)
          exact .inl (Vector.getElem_set_ne k.isLt j.isLt hne)
      · rw [if_neg hwrite]
        exact ⟨by simp [programTicked, hprogram, htime'], rfl, rfl, rfl, rfl, fun _ => .inl rfl⟩
    · have htime' : ¬ elapsed < 100000 := htime
      rw [if_neg htime]
      exact ⟨by simp [programTicked, htime', hprogram], rfl, rfl, rfl, rfl, fun _ => .inl rfl⟩
  | idle => exact ⟨by simp [programTicked, hprogram], rfl, rfl, rfl, rfl, fun _ => .inl rfl⟩
  | reading k address => exact ⟨by simp [programTicked, hprogram], rfl, rfl, rfl, rfl, fun _ => .inl rfl⟩
  | held k image => exact ⟨by simp [programTicked, hprogram], rfl, rfl, rfl, rfl, fun _ => .inl rfl⟩

/-- Settles O2: the due event, and the tick. -/
theorem idleStepTakesDueEventOrTicks : Obligations.IdleStepTakesDueEventOrTicks := by
  intro s hidle
  have hstep : step s = idle s := by rw [step, hidle]
  refine ⟨dueCommand_eq_dueEvent s, fun c hc => ?_, fun hnone => ⟨tick s, ?_, ?_⟩⟩
  · rw [hstep, idle, dueCommand_eq_dueEvent, hc]
  · rw [hstep, idle, dueCommand_eq_dueEvent, hnone]
  · have htime : s.stream.timeCounter + 1#48 = BitVec.ofNat 48 (s.stream.timeCounter.toNat + 1) :=
      BitVec.eq_of_toNat_eq (by simp)
    have hrows : (if s.stream.state = .running ∨ s.stream.state = .draining then s.stream.rowTimer + 1
        else s.stream.rowTimer) = if rowsRun s then s.stream.rowTimer + 1 else s.stream.rowTimer :=
      if_congr (rowsRun_iff s).symm rfl rfl
    have hinit : (if s.window.device = .init then s.window.initTicks + 1 else s.window.initTicks) =
        s.window.initTicks + if s.window.device = .init then 1 else 0 := by
      split <;> rfl
    refine ⟨?_, ?_, fun p => Vector.getElem_ofFn p.isLt, rfl, tickProgram_ticked s.trim, rfl⟩
    · rw [tick_stream, tickStream, htime, hrows]
    · rw [tick_window, hinit]

end Sys2Proof.Laws
end

/-! ### What an operation changes

The state is divided into parts, some of which overlap: a list of records and its keys, the list of entries and the
number under way of each work. An operation is described by the parts it may change; what a statement asks of the other
parts then carries over at once. -/

section
set_option Elab.async false
namespace Sys2Proof.Laws

open Sys2Proof Sys2Proof.Machine Sys2Proof.Safety

/-- A part of the state that the statements speak of. -/
inductive Part where
  | inputs
  | device
  | setup
  | setupRead
  | setupRegisters
  | rqTail
  | bfTail
  | cpHead
  | streamState
  | next
  | current
  | setUp
  | profiles
  | active
  | pend
  | commits
  | schedule
  | ports
  | portStates
  | channels
  | row
  | slots
  | table
  | trimWork
  | coder
  | records
  | recordKeys
  | descriptors
  | fetching
  | requests
  | entries
  | entryCount
  | stopWork
  | alignWork
  | programWork
  | loadWork
  | reclaimWork
  | refusals
  | holding
  | returnTags
  | posting
  | notice
deriving DecidableEq

/-- What a frame record keeps from its binding to its report (R134). -/
def recordKey (r : FrameRecord) : Nat × Profile × Descriptor := (r.ref, r.bound, r.descriptor)

/-- The part is the same in both states. -/
def SamePart : Part → State → State → Prop
  | .inputs, s, t => (t.pending, t.stream.timeCounter, t.window.straps) =
      (s.pending, s.stream.timeCounter, s.window.straps)
  | .device, s, t => (t.window.device, t.window.cause, t.window.detail) =
      (s.window.device, s.window.cause, s.window.detail)
  | .setup, s, t => t.window.setup = s.window.setup
  | .setupRead, s, t => t.window.setupRead = s.window.setupRead
  | .setupRegisters, s, t => (t.window.setupLo, t.window.setupHi) = (s.window.setupLo, s.window.setupHi)
  | .rqTail, s, t => t.window.rqTail = s.window.rqTail
  | .bfTail, s, t => t.window.bfTail = s.window.bfTail
  | .cpHead, s, t => t.window.cpHead = s.window.cpHead
  | .streamState, s, t => t.stream.state = s.stream.state
  | .next, s, t => t.stream.next = s.stream.next
  | .current, s, t => t.stream.current = s.stream.current
  | .setUp, s, t => t.stream.setUp = s.stream.setUp
  | .profiles, s, t => t.profiles = s.profiles
  | .active, s, t => (fun p : Fin 4 => t.profiles[p].active) = fun p : Fin 4 => s.profiles[p].active
  | .pend, s, t => 
    ((fun p : Fin 4 => t.profiles[p].pend), t.schedule.pend) =
      ((fun p : Fin 4 => s.profiles[p].pend), s.schedule.pend)
  | .commits, s, t => t.commits = s.commits
  | .schedule, s, t => t.schedule = s.schedule
  | .ports, s, t => t.ports = s.ports
  | .portStates, s, t => (fun p : Fin 4 => t.ports[p].state) = fun p : Fin 4 => s.ports[p].state
  | .channels, s, t => t.channels = s.channels
  | .row, s, t => t.row = s.row
  | .slots, s, t => t.trim.slots = s.trim.slots
  | .table, s, t => t.trim.table = s.trim.table
  | .trimWork, s, t => (t.trim.slotStates, t.trim.program, t.trim.load) =
      (s.trim.slotStates, s.trim.program, s.trim.load)
  | .coder, s, t => t.coder = s.coder
  | .records, s, t => t.records = s.records
  | .recordKeys, s, t => t.records.map recordKey = s.records.map recordKey
  | .descriptors, s, t => (t.buffers.list, t.buffers.latch) = (s.buffers.list, s.buffers.latch)
  | .fetching, s, t => (t.buffers.ringHead, t.buffers.fetch, t.buffers.paused, t.buffers.reclaim) =
      (s.buffers.ringHead, s.buffers.fetch, s.buffers.paused, s.buffers.reclaim)
  | .requests, s, t => (t.requests.head, t.requests.fetchIndex, t.requests.fetch, t.requests.intake) =
      (s.requests.head, s.requests.fetchIndex, s.requests.fetch, s.requests.intake)
  | .entries, s, t => t.requests.entries = s.requests.entries
  | .entryCount, s, t => t.requests.entries.length = s.requests.entries.length
  | .stopWork, s, t => underWay t .stopEnd = underWay s .stopEnd
  | .alignWork, s, t => (fun p : Fin 4 => underWay t (.align p)) = fun p : Fin 4 => underWay s (.align p)
  | .programWork, s, t => underWay t .trimProgram = underWay s .trimProgram
  | .loadWork, s, t => underWay t .trimLoad = underWay s .trimLoad
  | .reclaimWork, s, t => underWay t .reclaim = underWay s .reclaim
  | .refusals, s, t => underWay t .refused = underWay s .refused
  | .holding, s, t => t.completions.holding = s.completions.holding
  | .returnTags, s, t => t.completions.holding.flatMap returnedTag = s.completions.holding.flatMap returnedTag
  | .posting, s, t => (t.completions.tail, t.completions.phase, t.completions.write) =
      (s.completions.tail, s.completions.phase, s.completions.write)
  | .notice, s, t => (t.completions.notice, t.completions.timer) = (s.completions.notice, s.completions.timer)

theorem SamePart.refl (p : Part) (s : State) : SamePart p s s := by
  cases p <;> rfl

theorem SamePart.trans {p : Part} {s t u : State} (h : SamePart p s t) (h' : SamePart p t u) :
    SamePart p s u := by
  cases p <;> exact Eq.trans h' h

/-- Only the named parts of s differ in t. -/
def ChangesOnly (w : List Part) (s t : State) : Prop := ∀ p, p ∉ w → SamePart p s t

theorem ChangesOnly.refl (w : List Part) (s : State) : ChangesOnly w s s := fun p _ => .refl p s

theorem ChangesOnly.mono {w w' : List Part} {s t : State} (h : ChangesOnly w s t)
    (hw : ∀ p ∈ w, p ∈ w' := by decide) : ChangesOnly w' s t :=
  fun p hp => h p fun hmem => hp (hw p hmem)

theorem ChangesOnly.trans {w : List Part} {s t u : State} (h : ChangesOnly w s t) (h' : ChangesOnly w t u) :
    ChangesOnly w s u :=
  fun p hp => (h p hp).trans (h' p hp)

/-- Two operations one after the other. -/
theorem ChangesOnly.then {w w' w'' : List Part} {s t u : State} (h : ChangesOnly w s t)
    (h' : ChangesOnly w' t u) (hw : ∀ p ∈ w, p ∈ w'' := by decide) (hw' : ∀ p ∈ w', p ∈ w'' := by decide) :
    ChangesOnly w'' s u :=
  (h.mono hw).trans (h'.mono hw')

/-- A description by the parts: each is named or the same. -/
theorem ChangesOnly.of_parts {w : List Part} {s t : State} (h : ∀ p, p ∈ w ∨ SamePart p s t) :
    ChangesOnly w s t :=
  fun p hp => (h p).resolve_left hp

/-- Both branches change no other part. -/
theorem ChangesOnly.ite {w : List Part} {s t u : State} {c : Prop} [Decidable c] (ht : ChangesOnly w s t)
    (hu : ChangesOnly w s u) : ChangesOnly w s (if c then t else u) := by
  split
  · exact ht
  · exact hu

/-! #### Named changes of the state -/

theorem useFree_changes (s : State) : ChangesOnly [] s (useFree s) :=
  fun p _ => by cases p <;> rfl

theorem place_changes (s : State) (c : Completion) : ChangesOnly [.holding, .returnTags] s (place s c) :=
  .of_parts fun p => by
    cases p with
    | holding | returnTags => exact .inl (by decide)
    | _ => exact .inr rfl

/-- A completion that returns no buffer enters the queue. -/
theorem place_changes_of_no_tag {c : Completion} (s : State) (h : returnedTag c = []) :
    ChangesOnly [.holding] s (place s c) :=
  .of_parts fun p => by
    cases p with
    | holding => exact .inl (by decide)
    | returnTags => exact .inr (by
        change (s.completions.holding ++ [c]).flatMap returnedTag = _
        rw [List.flatMap_append, List.flatMap_singleton, h, List.append_nil])
    | _ => exact .inr rfl

theorem updateRecord_changes {f : FrameRecord → FrameRecord} (s : State) (ref : Nat)
    (hkey : ∀ r, recordKey (f r) = recordKey r) : ChangesOnly [.records] s (updateRecord s ref f) :=
  .of_parts fun p => by
    cases p with
    | records => exact .inl (by decide)
    | recordKeys => exact .inr (by
        change (s.records.map _).map recordKey = _
        rw [List.map_map]
        refine List.map_congr_left fun r _ => ?_
        change recordKey (if _ then f r else r) = _
        split
        · exact hkey r
        · rfl)
    | _ => exact .inr rfl

theorem addDamage_changes (s : State) (ref : Nat) (d : BitVec 8) :
    ChangesOnly [.records] s (addDamage s ref d) :=
  updateRecord_changes s ref fun _ => rfl

theorem enterReportWait_changes (s : State) (ref : Nat) (k : ReportKind) :
    ChangesOnly [.records] s (enterReportWait s ref k) :=
  updateRecord_changes s ref fun _ => rfl

theorem setCoder_changes (s : State) (c : Coder) : ChangesOnly [.coder] s { s with coder := c } :=
  .of_parts fun p => by
    cases p with
    | coder => exact .inl (by decide)
    | _ => exact .inr rfl

theorem setRow_changes (s : State) (r : Option IntakeRow) : ChangesOnly [.row] s { s with row := r } :=
  .of_parts fun p => by
    cases p with
    | row => exact .inl (by decide)
    | _ => exact .inr rfl

theorem setPort_changes (s : State) (q : Fin 4) (x : Port) :
    ChangesOnly [.ports, .portStates] s (setPort s q x) :=
  .of_parts fun p => by
    cases p with
    | ports | portStates => exact .inl (by decide)
    | _ => exact .inr rfl

/-- A change of a port that leaves its state. -/
theorem setPort_changes_of_state (s : State) {q : Fin 4} {x : Port} (h : x.state = s.ports[q].state) :
    ChangesOnly [.ports] s (setPort s q x) :=
  .of_parts fun p => by
    cases p with
    | ports => exact .inl (by decide)
    | portStates => exact .inr (funext fun k => by
        by_cases hk : k = q
        · subst hk
          change (setPort s k x).ports[k].state = _
          rw [getElem_setPort_self, h]
        · exact congrArg Port.state (Vector.getElem_set_ne q.isLt k.isLt fun he => hk (Fin.ext he.symm)))
    | _ => exact .inr rfl

/-- The part of the state that counts the entries of a work. -/
def partOfWork : LongWork → Part
  | .refused => .refusals
  | .stopEnd => .stopWork
  | .align _ => .alignWork
  | .trimProgram => .programWork
  | .trimLoad => .loadWork
  | .image .. => .entries
  | .reclaim => .reclaimWork

/-- An answer to one work leaves the count of every other. -/
theorem underWay_completeWork_ne {w v : LongWork} (s : State) (a : Answer) (h : v ≠ w) :
    underWay (completeWork s w a) v = underWay s v := by
  change List.countP _ (s.requests.entries.map _) = _
  rw [List.countP_map]
  refine List.countP_congr fun e _ => ?_
  rw [Function.comp_apply]
  by_cases he : e.work = w ∧ e.answer = none
  · rw [if_pos he]
    have hne : (e.work == v) = false := beq_false_of_ne fun hv => h (hv.symm.trans he.1)
    simp [hne]
  · rw [if_neg he]

/-- An answer to a work leaves none of it under way. -/
theorem underWay_completeWork_self (s : State) (w : LongWork) (a : Answer) :
    underWay (completeWork s w a) w = 0 := by
  refine List.countP_eq_zero.2 fun e he => ?_
  obtain ⟨x, -, rfl⟩ := List.mem_map.1 he
  by_cases hx : x.work = w ∧ x.answer = none
  · simp [hx]
  · rw [if_neg hx]
    by_cases hw : x.work = w
    · have ha : x.answer ≠ none := fun ha => hx ⟨hw, ha⟩
      simp [ha]
    · simp [hw]

/-- A change of the pending list that leaves the count of every work but one. -/
theorem setEntries_changes {l : List PendingEntry} {w : LongWork} (s : State)
    (hcount : ∀ v, v ≠ w → (l.countP fun e => e.work == v && e.answer.isNone) = underWay s v) :
    ChangesOnly [.entries, .entryCount, partOfWork w] s
      { s with requests := { s.requests with entries := l } } := by
  have hwork (v : LongWork) : v = w ∨ underWay { s with requests := { s.requests with entries := l } } v =
      underWay s v :=
    (em (v = w)).imp_right (hcount v)
  refine .of_parts fun p => ?_
  cases p with
  | entries | entryCount => exact .inl (by simp)
  | alignWork =>
    by_cases h : ∃ p, .align p = w
    · obtain ⟨p, rfl⟩ := h
      exact .inl (by simp [partOfWork])
    · exact .inr (funext fun p => (hwork (.align p)).resolve_left fun he => h ⟨p, he⟩)
  | stopWork => exact (hwork .stopEnd).imp_left fun h => by simp [← h, partOfWork]
  | programWork => exact (hwork .trimProgram).imp_left fun h => by simp [← h, partOfWork]
  | loadWork => exact (hwork .trimLoad).imp_left fun h => by simp [← h, partOfWork]
  | reclaimWork => exact (hwork .reclaim).imp_left fun h => by simp [← h, partOfWork]
  | refusals => exact (hwork .refused).imp_left fun h => by simp [← h, partOfWork]
  | _ => exact .inr rfl

/-- A change that keeps the number of entries too. -/
theorem ChangesOnly.of_length {w : List Part} {s t : State} (h : ChangesOnly (.entryCount :: w) s t)
    (hlen : t.requests.entries.length = s.requests.entries.length) : ChangesOnly w s t := fun p hp => by
  by_cases hcount : p = .entryCount
  · subst hcount
    exact hlen
  · exact h p fun hmem => (List.mem_cons.1 hmem).elim hcount hp

theorem completeWork_changes (w : LongWork) (s : State) (a : Answer) :
    ChangesOnly [.entries, partOfWork w] s (completeWork s w a) :=
  ((setEntries_changes s fun _ hv => underWay_completeWork_ne s a hv).mono (by simp)).of_length (List.length_map ..)

/-- A long request that is answered at its taking leaves every count of work under way. -/
theorem enterList_changes_of_answered (r : Record) (s : State) (w : LongWork) (a : Answer) :
    ChangesOnly [.entries, .entryCount] s (enterList r s w (some a)) :=
  (setEntries_changes (w := .image 0 []) s fun v _ => by
    rw [List.countP_append, List.countP_singleton]
    simp [longEntry]).mono (by simp [partOfWork])

theorem enterList_changes (r : Record) (s : State) (w : LongWork) :
    ChangesOnly [.entries, .entryCount, partOfWork w] s (enterList r s w none) :=
  setEntries_changes s fun v hv => by
    rw [List.countP_append, List.countP_singleton]
    simp [longEntry, Ne.symm hv]

/-! #### The intake -/

theorem completeAlign_changes (s : State) (p : Fin 4) (a : Answer) :
    ChangesOnly [.entries, .alignWork] s (completeWork s (.align p) a) :=
  completeWork_changes (.align p) s a

theorem finishAlign_changes (s : State) (p : Fin 4) (o : AlignOutcome) :
    ChangesOnly [.entries, .alignWork] s (finishAlign s p o) := by
  cases o with
  | goesOn => exact .refl _ s
  | aligned spent => exact (completeAlign_changes s p _).then (useFree_changes _)
  | failed => exact (completeAlign_changes s p _).then (useFree_changes _)

theorem decideCondition_changes (s : State) (p : Fin 4) (c : Condition) :
    ChangesOnly [.row] s (decideCondition s p c) := by
  rcases decideCondition_cases s p c with h | ⟨r, -, -, h⟩ <;> rw [h]
  · exact .refl _ s
  · exact setRow_changes s _

/-- What a verdict on a reply may change. -/
abbrev verdictParts : List Part := [.ports, .portStates, .entries, .alignWork, .row]

theorem applyVerdict_changes (s : State) (p : Fin 4) (w : ReplyWindow) (v : Verdict) (c : Condition) :
    ChangesOnly verdictParts s (applyVerdict s p w v c) := by
  unfold applyVerdict
  dsimp only
  cases s.ports[p].state with
  | up =>
    exact .ite (.refl _ s) (.ite ((setPort_changes s p _).then (decideCondition_changes _ p c))
      ((setPort_changes s p _).mono))
  | aligning => exact .ite ((setPort_changes s p _).then (finishAlign_changes _ p _)) (.refl _ s)
  | off => exact .refl _ s
  | lost => exact .refl _ s

theorem cutShort_changes (s : State) (p : Fin 4) (w : ReplyWindow) :
    ChangesOnly verdictParts s (cutShort s p w) :=
  .ite ((setPort_changes s p _).then (finishAlign_changes _ p _)) (.refl _ s)

theorem closeAtStrobe_changes (cut : Bool) (s : State) (p : Fin 4) :
    ChangesOnly verdictParts s (closeAtStrobe cut s p) := by
  unfold closeAtStrobe
  cases s.ports[p].window with
  | none => exact .refl _ s
  | some w =>
    have hclosed : ChangesOnly verdictParts s (setPort s p (closeWindow s.ports[p])) := (setPort_changes s p _).mono
    exact .ite hclosed (.ite (hclosed.trans (cutShort_changes _ p w)) (hclosed.trans (applyVerdict_changes _ p w _ _)))

theorem foldl_closeAtStrobe_changes (cut : Bool) (l : List (Fin 4)) (s : State) :
    ChangesOnly verdictParts s (l.foldl (closeAtStrobe cut) s) := by
  induction l generalizing s with
  | nil => exact .refl _ s
  | cons p l ih => exact (closeAtStrobe_changes cut s p).trans (ih _)

theorem takeRow_changes (s : State) (r : FrameRecord) (h : Handover) :
    ChangesOnly [.coder, .records] s (takeRow s r h) := by
  rcases takeRow_cases s r h with ⟨-, he⟩ | ⟨-, -, he⟩ | ⟨-, -, -, he⟩ | ⟨-, -, -, he⟩ <;> rw [he]
  · exact .refl _ s
  · exact (setCoder_changes s _).then (addDamage_changes _ _ _)
  · exact .mono (updateRecord_changes s r.ref fun _ => rfl)
  · exact (setCoder_changes s _).then (updateRecord_changes _ _ fun _ => rfl)

theorem drainIfDone_changes (s : State) (ref : Nat) :
    ChangesOnly [.coder, .records] s (drainIfDone s ref) := by
  rcases drainIfDone_cases s ref with h | ⟨r, -, -, -, h | h⟩ <;> rw [h]
  · exact .refl _ s
  · exact (enterReportWait_changes s _ _).mono
  · exact (setCoder_changes s _).mono

theorem endCapture_changes (s : State) (ref : Nat) : ChangesOnly [.coder, .records] s (endCapture s ref) :=
  ((updateRecord_changes (f := closeRecord) s ref fun _ => rfl).then (w'' := [.coder, .records])
    (setCoder_changes _ _)).trans (drainIfDone_changes _ ref)

/-- What the completion of a row may change. -/
abbrev completionParts : List Part := [.row, .coder, .records]

theorem handOver_changes (s : State) (r : IntakeRow) (x : FrameRecord) :
    ChangesOnly [.coder, .records] s (handOver s r x) := by
  have hcoded : ChangesOnly [.coder, .records] s
      (takeRow (addDamage s x.ref (rowDamage r x.bound.channelMask)) x (handoverOf r x.bound)) :=
    (addDamage_changes s _ _).then (takeRow_changes _ x _)
  exact .ite (hcoded.trans (endCapture_changes _ _)) hcoded

theorem completeRow_changes (s : State) : ChangesOnly completionParts s (completeRow s) := by
  rcases completeRow_cases s with ⟨-, h⟩ | ⟨r, -, ⟨-, h⟩ | ⟨x, -, h⟩⟩ <;> rw [h]
  · exact .refl _ s
  · exact (setRow_changes s _).mono
  · exact (setRow_changes s _).then (handOver_changes _ r x)

theorem completeRowIfDone_changes (s : State) : ChangesOnly completionParts s (completeRowIfDone s) := by
  unfold completeRowIfDone
  cases s.row with
  | none => exact .refl _ s
  | some r => exact .ite (completeRow_changes s) (.refl _ s)

/-- A strobe leaves a port's state (R73). -/
theorem strobePort_state (halted atRow : Bool) (q : Port) : (strobePort halted atRow q).state = q.state := by
  unfold strobePort
  split <;> rfl

theorem sendStrobes_changes (s : State) (atRow : Bool) : ChangesOnly [.ports] s (sendStrobes s atRow) :=
  .of_parts fun p => by
    cases p with
    | ports => exact .inl (by decide)
    | portStates => exact .inr (funext fun q => by
        have hsent : (sendStrobes s atRow).ports[q] =
            if portFitted s q then strobePort (s.window.device == .halted) atRow s.ports[q] else s.ports[q] :=
          Vector.getElem_ofFn q.isLt
        change (sendStrobes s atRow).ports[q].state = _
        rw [hsent]
        split
        · exact strobePort_state ..
        · rfl)
    | _ => exact .inr rfl

/-- What a strobe instant may change. -/
abbrev strobeParts : List Part :=
  [.ports, .portStates, .entries, .alignWork, .row, .coder, .records]

theorem strobeInstant_changes (s : State) (atRow cut : Bool) :
    ChangesOnly strobeParts s (strobeInstant s atRow cut) :=
  ((foldl_closeAtStrobe_changes cut allPorts s).then (w'' := strobeParts) (completeRow_changes _)).then
    (sendStrobes_changes _ atRow)

/-- What a row strobe may change. -/
abbrev rowParts : List Part := .channels :: strobeParts

theorem beginRowAt_changes (s : State) (r : Option IntakeRow) (v : Vector Channel 16) :
    ChangesOnly [.row, .channels] s { s with row := r, channels := v } :=
  .of_parts fun p => by
    cases p with
    | row | channels => exact .inl (by decide)
    | _ => exact .inr rfl

theorem rowStrobe_changes (s : State) (index : Nat) (cut : Bool) :
    ChangesOnly rowParts s (rowStrobe s index cut) := by
  have hsent := strobeInstant_changes s true cut
  unfold rowStrobe
  generalize strobeInstant s true cut = u at hsent ⊢
  exact (hsent.then (w'' := rowParts) (beginRowAt_changes u _ _)).then (completeRowIfDone_changes _)

theorem liveEdit_changes (s : State) (affects : Fin 16 → Bool) :
    ChangesOnly [.records] s (liveEdit s affects) := by
  rcases liveEdit_cases s affects with h | ⟨ref, -, h⟩ <;> rw [h]
  · exact .refl _ s
  · exact addDamage_changes s _ _

/-! #### Frames -/

/-- What frame setup may change. -/
abbrev setupParts : List Part :=
  [.next, .setUp, .profiles, .active, .pend, .commits, .schedule, .descriptors, .records, .recordKeys]

theorem foldl_landGroup_changes (l : List CommitGroup) (s : State) :
    ChangesOnly [.profiles, .active, .pend, .schedule] s (l.foldl landGroup s) := by
  induction l generalizing s with
  | nil => exact .refl _ s
  | cons g l ih =>
    refine .trans (.of_parts fun p => ?_) (ih (landGroup s g))
    cases p with
    | profiles | active | pend | schedule => exact .inl (by decide)
    | _ => exact .inr rfl

theorem landDue_changes (s : State) (frame : Word) :
    ChangesOnly [.profiles, .active, .pend, .schedule, .commits] s (landDue s frame) := by
  refine .then (foldl_landGroup_changes (s.commits.filter (groupDue frame)) s) (w' := [.commits]) ?_
  exact .of_parts fun p => by
    cases p with
    | commits => exact .inl (by decide)
    | _ => exact .inr rfl

theorem fillSetUp_changes (s : State) (f : SlotFrame) : ChangesOnly [.setUp] s (fillSetUp s f) :=
  .of_parts fun p => by
    cases p with
    | setUp => exact .inl (by decide)
    | _ => exact .inr rfl

theorem bindFrame_changes (s : State) (q : Word) (p : Fin 4) :
    ChangesOnly [.setUp, .descriptors, .records, .recordKeys] s (bindFrame s q p) := by
  unfold bindFrame
  dsimp only
  split
  · refine .then (w := [.descriptors, .records, .recordKeys]) ?_ (fillSetUp_changes _ _)
    exact .of_parts fun x => by
      cases x with
      | descriptors | records | recordKeys => exact .inl (by decide)
      | _ => exact .inr rfl
  · exact (fillSetUp_changes s _).mono
  · exact (fillSetUp_changes s _).mono

theorem frameSetup_changes (s : State) : ChangesOnly setupParts s (frameSetup s) := by
  have hnumbered : ChangesOnly [.next] s
      { s with stream := { s.stream with next := s.stream.next + 1#32 } } :=
    .of_parts fun x => by
      cases x with
      | next => exact .inl (by decide)
      | _ => exact .inr rfl
  have hadvanced (u : State) : ChangesOnly [.schedule, .pend] u
      { u with schedule := advancePosition u.schedule } :=
    .of_parts fun x => by
      cases x with
      | schedule | pend => exact .inl (by decide)
      | _ => exact .inr rfl
  have hlanded : ChangesOnly setupParts s _ := hnumbered.then (landDue_changes _ s.stream.next)
  exact (hlanded.then (w'' := setupParts) (hadvanced _)).then (bindFrame_changes _ _ _)

theorem cancelSetUp_changes (s : State) : ChangesOnly [.next, .setUp, .records] s (cancelSetUp s) := by
  have hundone (f : SlotFrame) : ChangesOnly [.next, .setUp] s
      { s with stream := { s.stream with next := f.sequence, setUp := none } } :=
    .of_parts fun x => by
      cases x with
      | next | setUp => exact .inl (by decide)
      | _ => exact .inr rfl
  rcases cancelSetUp_cases s with ⟨-, h⟩ | ⟨f, -, ⟨-, h⟩ | ⟨ref, -, h⟩⟩ <;> rw [h]
  · exact .refl _ s
  · exact (hundone f).mono
  · exact (hundone f).then (enterReportWait_changes _ _ _)

/-- What the entry into HALTED changes (R181). -/
abbrev haltParts : List Part := [.device, .streamState, .current, .setUp, .ports, .row, .trimWork, .notice]

theorem enterHalted_changes (s : State) (c : Cause) (d : BitVec 4) :
    ChangesOnly haltParts s (enterHalted s c d) :=
  .of_parts fun x => by
    cases x with
    | device | streamState | current | setUp | ports | row | trimWork | notice => exact .inl (by decide)
    | portStates => exact .inr (funext fun q => by
        have hclosed : (enterHalted s c d).ports[q] = closeWindow s.ports[q] := Vector.getElem_ofFn q.isLt
        change (enterHalted s c d).ports[q].state = _
        rw [hclosed]
        rfl)
    | _ => exact .inr rfl

/-- A drop report: a completion, the summary, or HALTED (R142, R170). -/
theorem dropReport_changes (s : State) (q : Word) (reason : DropReason) :
    ChangesOnly [.holding] s (dropReport s q reason) ∨
      dropReport s q reason = enterHalted s .dropOverflow 0 := by
  rcases dropReport_cases s q reason with ⟨-, -, h⟩ | ⟨-, h⟩ | ⟨-, h⟩
  · exact .inl (h ▸ place_changes_of_no_tag s rfl)
  · exact .inr h
  · refine .inl (h ▸ .of_parts fun x => ?_)
    cases x <;> exact .inr rfl

/-- What the beginning of row 0 may change. -/
abbrev beginParts : List Part := [.streamState, .current, .setUp] ++ rowParts

theorem openFrame_changes (s : State) (f : SlotFrame) :
    ChangesOnly [.coder, .records] s (openFrame s f) := by
  cases f with
  | buffered q ref b =>
    have hopened : ChangesOnly [.records] s _ :=
      updateRecord_changes (f := openRecord s.stream.timeCounter s.stream.missed) s ref fun _ => rfl
    exact hopened.then (setCoder_changes _ _)
  | dropped q p b reason => exact .refl _ s

theorem beginRow0_changes (s : State) : ChangesOnly beginParts s (beginRow0 s) := by
  have hstream (u : State) (f : SlotFrame) : ChangesOnly [.streamState, .current, .setUp] u
      { u with stream := beginStream u.stream f } :=
    .of_parts fun x => by
      cases x with
      | streamState | current | setUp => exact .inl (by decide)
      | _ => exact .inr rfl
  unfold beginRow0
  cases s.stream.setUp with
  | none => exact .refl _ s
  | some f =>
    have hopened : ChangesOnly beginParts s _ := (openFrame_changes s f).then (hstream _ f)
    exact hopened.then (rowStrobe_changes _ 0 _)

theorem beginRow_changes (s : State) (f : SlotFrame) (index : Nat) :
    ChangesOnly (setupParts ++ rowParts) s (beginRow s f index) := by
  have hstream : ChangesOnly [] s
      { s with stream := { s.stream with rowIndex := index, rowTimer := 0, frameMark := false } } :=
    fun x _ => by cases x <;> rfl
  have hstrobed : ChangesOnly (setupParts ++ rowParts) s _ := hstream.then (rowStrobe_changes _ index false)
  exact .ite (hstrobed.then (frameSetup_changes _)) hstrobed

/-! #### The request unit, the buffer unit and the notice line -/

theorem advanceHead_changes (s : State) (rest : List Record) : ChangesOnly [.requests] s (advanceHead s rest) :=
  .of_parts fun x => by
    cases x with
    | requests => exact .inl (by decide)
    | _ => exact .inr rfl

theorem setReclaim_changes (s : State) (r : Option Reclaim) :
    ChangesOnly [.fetching] s { s with buffers := { s.buffers with reclaim := r } } :=
  .of_parts fun x => by
    cases x with
    | fetching => exact .inl (by decide)
    | _ => exact .inr rfl

theorem finishReclaim_changes (s : State) :
    ChangesOnly [.fetching, .entries, .reclaimWork] s (finishReclaim s) := by
  rcases finishReclaim_cases s with h | ⟨r, -, -, h⟩ <;> rw [h]
  · exact .refl _ s
  · exact (setReclaim_changes s none).then (completeWork_changes .reclaim _ _)

theorem setNotice_changes (s : State) (level : Bool) (timer : Option Nat) :
    ChangesOnly [.notice] s { s with completions := { s.completions with notice := level, timer := timer } } :=
  .of_parts fun x => by
    cases x with
    | notice => exact .inl (by decide)
    | _ => exact .inr rfl

theorem noticeAtPosting_changes (s : State) (n : Nat) : ChangesOnly [.notice] s (noticeAtPosting s n) := by
  refine .ite (.refl _ s) (.ite (setNotice_changes s _ _) ?_)
  split
  · exact .refl _ s
  · exact setNotice_changes s s.completions.notice _

theorem noticeAtConsumption_changes (s : State) (n : Nat) : ChangesOnly [.notice] s (noticeAtConsumption s n) :=
  .ite (setNotice_changes s _ _) (.ite (setNotice_changes s _ _) (setNotice_changes s _ _))

end Sys2Proof.Laws
end

/-! ### What each command changes -/

section
set_option Elab.async false
namespace Sys2Proof.Laws

open Sys2Proof Sys2Proof.Machine Sys2Proof.Safety

/-! #### The taking of requests -/

/-- An immediate request has been taken and answered, its owner changing only the named parts (R152). -/
def ImmediateTaken (w : List Part) (s t : State) : Prop :=
  ∃ r rest u a, s.requests.intake = r :: rest ∧ grant s = some .immediate ∧
    ChangesOnly w (advanceHead s rest) u ∧ t = answerImmediate r u a

theorem runImmediate_taken {w : List Part} {s t : State} {test : Record → Bool}
    {owner : Record → State → State × Answer} (howner : ∀ r u, ChangesOnly w u (owner r u).1)
    (h : runImmediate s test owner = .next t) : t = s ∨ ImmediateTaken w s t := by
  rcases runImmediate_cases s test owner with ⟨-, he⟩ | ⟨r, rest, hintake, -, hgrant, he⟩ <;>
    obtain rfl := Host.Outcome.next.inj (he.symm.trans h)
  · exact .inl rfl
  · exact .inr ⟨r, rest, _, _, hintake, hgrant, howner r _, rfl⟩

theorem ImmediateTaken.changes {w : List Part} {s t : State} (h : ImmediateTaken w s t) :
    ChangesOnly (.requests :: .holding :: w) s t := by
  obtain ⟨r, rest, u, a, -, -, hu, rfl⟩ := h
  exact (((advanceHead_changes s rest).mono (by simp)).trans (hu.mono (by simp +contextual))).trans
    ((place_changes_of_no_tag u rfl).mono (by simp))

/-- The taking of an immediate request changes the intake, the queue and what its owner changes. -/
theorem runImmediate_changes {w w' : List Part} {s t : State} {test : Record → Bool}
    {owner : Record → State → State × Answer} (howner : ∀ r u, ChangesOnly w u (owner r u).1)
    (h : runImmediate s test owner = .next t)
    (hw : ∀ p ∈ Part.requests :: Part.holding :: w, p ∈ w' := by decide) : ChangesOnly w' s t := by
  rcases runImmediate_taken howner h with rfl | htaken
  · exact .refl _ t
  · exact htaken.changes.mono hw

/-- What an owner of a long request may do: answer it at once, or take it up as the given work. -/
def LongOwner (w : List Part) (work : LongWork) (s : State) (d : Taken) : Prop :=
  ChangesOnly w s d.state ∧ ((∃ a, d.answer = some a) ∨ d.work = work ∧ d.answer = none)

theorem LongOwner.refuse (w : List Part) (work : LongWork) (s : State) (status : Status) (detail : Nat) :
    LongOwner w work s (refuseLong s status detail) :=
  ⟨.refl w s, .inl ⟨_, rfl⟩⟩

/-- A long request has been taken into the pending list, answered or as the given work, its owner changing only the
named parts (R153). -/
def LongTaken (w : List Part) (work : LongWork) (s t : State) : Prop :=
  ∃ r rest u, LongTurn s r rest ∧ ChangesOnly w (advanceHead s rest) u ∧
    ((∃ x a, t = enterList r u x (some a)) ∨ t = enterList r u work none)

theorem runLong_taken {w : List Part} {work : LongWork} {s t : State} {test : Record → Bool}
    {owner : Record → State → Taken} (howner : ∀ r u, LongOwner w work u (owner r u))
    (h : runLong s test owner = .next t) : t = s ∨ LongTaken w work s t := by
  rcases runLong_cases s test owner with ⟨-, he⟩ | ⟨r, rest, hturn, -, -, he⟩ <;>
    obtain rfl := Host.Outcome.next.inj (he.symm.trans h)
  · exact .inl rfl
  · obtain ⟨hu, ⟨a, ha⟩ | ⟨hwork, ha⟩⟩ := howner r (advanceHead s rest)
    · exact .inr ⟨r, rest, _, hturn, hu, .inl ⟨_, a, by rw [ha]⟩⟩
    · exact .inr ⟨r, rest, _, hturn, hu, .inr (by rw [hwork, ha])⟩

theorem LongTaken.changes {w : List Part} {work : LongWork} {s t : State} (h : LongTaken w work s t) :
    ChangesOnly (.requests :: .entries :: .entryCount :: partOfWork work :: w) s t := by
  obtain ⟨r, rest, u, -, hu, hentered⟩ := h
  have htaken : ChangesOnly (.requests :: .entries :: .entryCount :: partOfWork work :: w) s u :=
    ((advanceHead_changes s rest).mono (by simp)).trans (hu.mono (by simp +contextual))
  rcases hentered with ⟨x, a, rfl⟩ | rfl
  · exact htaken.trans ((enterList_changes_of_answered r u x a).mono (by simp))
  · exact htaken.trans ((enterList_changes r u work).mono (by simp))

theorem runLong_changes {w w' : List Part} {work : LongWork} {s t : State} {test : Record → Bool}
    {owner : Record → State → Taken} (howner : ∀ r u, LongOwner w work u (owner r u))
    (h : runLong s test owner = .next t)
    (hw : ∀ p ∈ Part.requests :: Part.entries :: Part.entryCount :: partOfWork work :: w, p ∈ w') :
    ChangesOnly w' s t := by
  rcases runLong_taken howner h with rfl | htaken
  · exact .refl _ t
  · exact htaken.changes.mono hw

/-! #### The owners -/

/-- A change of a profile's staged copy leaves its other copies. -/
theorem setCopies_changes {copies : ProfileCopies} {q : Fin 4} (s : State)
    (hactive : copies.active = s.profiles[q].active) (hpend : copies.pend = s.profiles[q].pend) :
    ChangesOnly [.profiles] s (setCopies s q copies) := by
  have hset (x : Fin 4) : (setCopies s q copies).profiles[x].active = s.profiles[x].active ∧
      (setCopies s q copies).profiles[x].pend = s.profiles[x].pend := by
    by_cases hx : x = q
    · subst hx
      have hself : (setCopies s x copies).profiles[x] = copies := Vector.getElem_set_self x.isLt
      rw [hself]
      exact ⟨hactive, hpend⟩
    · have hne : (setCopies s q copies).profiles[x] = s.profiles[x] :=
        Vector.getElem_set_ne q.isLt x.isLt fun he => hx (Fin.ext he.symm)
      rw [hne]
      exact ⟨rfl, rfl⟩
  refine .of_parts fun p => ?_
  cases p with
  | profiles => exact .inl (by decide)
  | active => exact .inr (funext fun x => (hset x).1)
  | pend => exact .inr (congrArg (·, s.schedule.pend) (funext fun x => (hset x).2))
  | _ => exact .inr rfl

theorem stageOwner_changes (r : Record) (s : State) : ChangesOnly [.profiles] s (stageOwner r s).1 := by
  unfold stageOwner
  dsimp only
  split
  · exact .refl _ s
  · exact setCopies_changes s rfl rfl

theorem stageScheduleOwner_changes (r : Record) (s : State) :
    ChangesOnly [.schedule] s (stageScheduleOwner r s).1 := by
  unfold stageScheduleOwner
  dsimp only
  split
  · exact .refl _ s
  · exact .of_parts fun p => by
      cases p with
      | schedule => exact .inl (by decide)
      | _ => exact .inr rfl

/-- What a COMMIT may change. -/
abbrev commitParts : List Part := [.profiles, .active, .pend, .commits, .schedule]

theorem commitOwner_changes (r : Record) (s : State) : ChangesOnly commitParts s (commitOwner r s).1 := by
  unfold commitOwner
  dsimp only
  split
  · exact .refl _ s
  · split
    · exact .of_parts fun p => by
        cases p with
        | profiles | active | pend | schedule => exact .inl (by decide)
        | _ => exact .inr rfl
    · exact .of_parts fun p => by
        cases p with
        | profiles | active | pend | schedule | commits => exact .inl (by decide)
        | _ => exact .inr rfl

theorem mapSet_discardCopy_active (copies : Vector ProfileCopies 4) (set : BitVec 4) (p : Fin 4) :
    (mapSet copies set discardCopy)[p].active = copies[p].active := by
  have hmap : (mapSet copies set discardCopy)[p] = if inSet set p then discardCopy copies[p] else copies[p] :=
    Vector.getElem_ofFn p.isLt
  rw [hmap]
  split <;> rfl

theorem withdrawOwner_changes (r : Record) (s : State) :
    ChangesOnly [.profiles, .pend, .commits, .schedule] s (withdrawOwner r s).1 := by
  unfold withdrawOwner
  split
  · exact .refl _ s
  · exact .of_parts fun p => by
      cases p with
      | profiles | pend | schedule | commits => exact .inl (by decide)
      | active => exact .inr (funext fun p => mapSet_discardCopy_active ..)
      | _ => exact .inr rfl

/-- What a START may change. -/
abbrev startParts : List Part := .fetching :: setupParts ++ beginParts

theorem setPaused_changes (s : State) (b : Bool) :
    ChangesOnly [.fetching] s { s with buffers := { s.buffers with paused := b } } :=
  .of_parts fun p => by
    cases p with
    | fetching => exact .inl (by decide)
    | _ => exact .inr rfl

/-- A run that begins sets up its first frame and begins it or waits, and then lets fetching go on (R13, R145). -/
theorem startRun_begun (s : State) (mode : StartMode) : ∃ u, ChangesOnly (setupParts ++ beginParts) s u ∧
    startRun s mode = { u with buffers := { u.buffers with paused := false } } := by
  have hready : ChangesOnly [.schedule] s
      { s with stream := { s.stream with mode := mode }, schedule := restartPosition s.schedule } :=
    .of_parts fun p => by
      cases p with
      | schedule => exact .inl (by decide)
      | _ => exact .inr rfl
  have hsetup : ChangesOnly (setupParts ++ beginParts) s _ := hready.then (frameSetup_changes _)
  have hwaiting (u : State) : ChangesOnly [.streamState] u
      { u with stream := { u.stream with state := .waiting } } :=
    .of_parts fun p => by
      cases p with
      | streamState => exact .inl (by decide)
      | _ => exact .inr rfl
  cases mode with
  | free => exact ⟨_, hsetup.then (beginRow0_changes _), rfl⟩
  | triggered => exact ⟨_, hsetup.then (hwaiting _), rfl⟩

theorem startRun_changes (s : State) (mode : StartMode) : ChangesOnly startParts s (startRun s mode) := by
  obtain ⟨u, hu, he⟩ := startRun_begun s mode
  rw [he]
  exact hu.then (setPaused_changes u false)

theorem startOwner_changes (r : Record) (s : State) : ChangesOnly startParts s (startOwner r s).1 := by
  unfold startOwner
  dsimp only
  split
  · exact (useFree_changes s).mono
  · split
    · exact (useFree_changes s).mono
    · exact (startRun_changes s _).then (useFree_changes _)

/-- What a STOP END may change beside the pending list. -/
abbrev stopParts : List Part := [.streamState, .next, .setUp, .records]

theorem stopWaiting_changes (s : State) : ChangesOnly stopParts s (stopWaiting s) := by
  refine (cancelSetUp_changes s).then (w' := [.streamState]) ?_
  exact .of_parts fun p => by
    cases p with
    | streamState => exact .inl (by decide)
    | _ => exact .inr rfl

theorem beginDraining_changes (s : State) : ChangesOnly stopParts s (beginDraining s) := by
  refine (cancelSetUp_changes s).then (w' := [.streamState]) ?_
  exact .of_parts fun p => by
    cases p with
    | streamState => exact .inl (by decide)
    | _ => exact .inr rfl

theorem stopEndImmediateOwner_changes (r : Record) (s : State) :
    ChangesOnly stopParts s (stopEndImmediateOwner r s).1 := by
  unfold stopEndImmediateOwner
  split
  · exact (useFree_changes s).mono
  · split
    · exact (stopWaiting_changes s).then (useFree_changes _)
    · exact (useFree_changes s).mono
    · exact (useFree_changes s).mono

theorem setChannelOwner_changes (r : Record) (s : State) :
    ChangesOnly [.channels, .records] s (setChannelOwner r s).1 := by
  have hset (u : State) (v : Vector Channel 16) : ChangesOnly [.channels] u { u with channels := v } :=
    .of_parts fun p => by
      cases p with
      | channels => exact .inl (by decide)
      | _ => exact .inr rfl
  unfold setChannelOwner
  dsimp only
  split
  · exact .refl _ s
  · have hdamaged {c : Prop} [Decidable c] (affects : Fin 16 → Bool) :
        ChangesOnly [.records] s (if c then liveEdit s affects else s) :=
      .ite (liveEdit_changes s _) (.refl _ s)
    exact (hdamaged _).then (hset _ _)

/-- What the beginning of an alignment may change beside the pending list. -/
abbrev alignParts : List Part := [.ports, .portStates, .row, .coder, .records]

theorem setTrimWork_changes (s : State) (program : TrimProgramming) (load : TrimLoading) :
    ChangesOnly [.trimWork] s { s with trim := { s.trim with program := program, load := load } } :=
  .of_parts fun p => by
    cases p with
    | trimWork => exact .inl (by decide)
    | _ => exact .inr rfl

theorem trimProgramOwner_long (r : Record) (s : State) :
    LongOwner [.trimWork] .trimProgram s (trimProgramOwner r s) := by
  unfold trimProgramOwner
  dsimp only
  split
  · exact .refuse ..
  · split
    · exact .refuse ..
    · split
      · exact .refuse ..
      · exact ⟨setTrimWork_changes s _ s.trim.load, .inr ⟨rfl, rfl⟩⟩

theorem trimLoadOwner_long (r : Record) (s : State) :
    LongOwner [.trimWork] .trimLoad s (trimLoadOwner r s) := by
  unfold trimLoadOwner
  dsimp only
  split
  · exact .refuse ..
  · exact ⟨setTrimWork_changes s s.trim.program _, .inr ⟨rfl, rfl⟩⟩

theorem stopEndLongOwner_long (r : Record) (s : State) :
    LongOwner stopParts .stopEnd s (stopEndLongOwner r s) :=
  ⟨beginDraining_changes s, .inr ⟨rfl, rfl⟩⟩

theorem reclaimOwner_long (r : Record) (s : State) : LongOwner [.fetching] .reclaim s (reclaimOwner r s) := by
  have hbegun (x : Option Reclaim) : ChangesOnly [.fetching] s
      { s with buffers := { s.buffers with paused := true, reclaim := x } } :=
    .of_parts fun p => by
      cases p with
      | fetching => exact .inl (by decide)
      | _ => exact .inr rfl
  unfold reclaimOwner
  dsimp only
  split
  · exact .refuse ..
  · split
    · exact .refuse ..
    · split
      · exact ⟨hbegun none, .inl ⟨_, rfl⟩⟩
      · exact ⟨hbegun _, .inr ⟨rfl, rfl⟩⟩

/-- A READ_OUT's owner changes nothing; the work it takes up is of no kind that is counted (R158, R161). -/
theorem readOutOwner_changes (r : Record) (s : State) :
    (readOutOwner r s).state = s ∧
      ((∃ a, (readOutOwner r s).answer = some a) ∨ ∃ n b, (readOutOwner r s).work = .image n b) := by
  unfold readOutOwner
  dsimp only
  split
  · exact ⟨rfl, .inl ⟨_, rfl⟩⟩
  · exact ⟨rfl, .inr ⟨_, _, rfl⟩⟩

theorem portAlignOwner_changes (r : Record) (s : State) : ChangesOnly alignParts s (portAlignOwner r s).state := by
  unfold portAlignOwner
  dsimp only
  split
  · exact .refl _ s
  · exact ((setPort_changes s _ _).then (w'' := alignParts) (decideCondition_changes _ _ _)).then
      (completeRowIfDone_changes _)

theorem portAlignOwner_long (r : Record) (s : State) :
    (∃ a, (portAlignOwner r s).answer = some a) ∨
      (portAlignOwner r s).answer = none ∧ ∃ p, (portAlignOwner r s).work = .align p := by
  unfold portAlignOwner
  dsimp only
  split
  · exact .inl ⟨_, rfl⟩
  · exact .inr ⟨rfl, _, rfl⟩

/-! #### The commands -/

theorem execReadOut_changes {s t : State} (h : execReadOut s = .next t) :
    ChangesOnly [.requests, .entries, .entryCount] s t := by
  rcases runLong_cases s (ofKind kindReadOut) readOutOwner with ⟨-, he⟩ | ⟨r, rest, -, -, -, he⟩ <;>
    obtain rfl := Host.Outcome.next.inj (he.symm.trans h)
  · exact .refl _ _
  · obtain ⟨hstate, ⟨a, ha⟩ | ⟨n, b, hwork⟩⟩ := readOutOwner_changes r (advanceHead s rest)
    · rw [hstate, ha]
      exact (advanceHead_changes s rest).then (enterList_changes_of_answered r _ _ a)
    · rw [hstate, hwork]
      cases (readOutOwner r (advanceHead s rest)).answer with
      | some a => exact (advanceHead_changes s rest).then (enterList_changes_of_answered r _ _ a)
      | none =>
        exact ((advanceHead_changes s rest).mono).trans
          ((enterList_changes r _ (.image n b)).mono (by simp [partOfWork]))

theorem execPortAlign_changes {s t : State} (h : execPortAlign s = .next t) :
    ChangesOnly ([.requests, .entries, .entryCount, .alignWork] ++ alignParts) s t := by
  rcases runLong_cases s (ofKind kindPortAlign) portAlignOwner with ⟨-, he⟩ | ⟨r, rest, -, -, -, he⟩ <;>
    obtain rfl := Host.Outcome.next.inj (he.symm.trans h)
  · exact .refl _ _
  · have htaken : ChangesOnly ([.requests, .entries, .entryCount, .alignWork] ++ alignParts) s
        (portAlignOwner r (advanceHead s rest)).state :=
      (advanceHead_changes s rest).then (portAlignOwner_changes r _)
    refine htaken.trans ?_
    rcases portAlignOwner_long r (advanceHead s rest) with ⟨a, ha⟩ | ⟨ha, p, hwork⟩
    · rw [ha]
      exact (enterList_changes_of_answered r _ _ a).mono
    · rw [ha, hwork]
      exact (enterList_changes r _ (.align p)).mono (by simp [partOfWork])

theorem execStopEnd_changes {s t : State} (h : execStopEnd s = .next t) :
    ChangesOnly ([.requests, .holding, .entries, .entryCount, .stopWork] ++ stopParts) s t := by
  unfold execStopEnd at h
  split at h
  · exact runLong_changes stopEndLongOwner_long h (by decide)
  · exact runImmediate_changes stopEndImmediateOwner_changes h

end Sys2Proof.Laws
end

/-! ### The parts that each command may change -/

section
set_option Elab.async false
namespace Sys2Proof.Laws

open Sys2Proof Sys2Proof.Machine Sys2Proof.Safety

theorem setWindow_changes (s : State) (device : DeviceState) (cause : Cause) (detail : BitVec 4)
    (read : Option Addr) : ChangesOnly [.device, .setupRead] s
      { s with window := { s.window with device := device, cause := cause, detail := detail, setupRead := read } } :=
  .of_parts fun p => by
    cases p with
    | device | setupRead => exact .inl (by decide)
    | _ => exact .inr rfl

theorem enableAction_changes (s : State) : ChangesOnly [.device, .setupRead] s (enableAction s) :=
  .ite (.ite (setWindow_changes s _ _ _ _) (setWindow_changes s _ _ _ _)) (.refl _ s)

theorem execSetupBlockReadDone_changes {a : ReadAnswer 512} {s t : State}
    (h : execSetupBlockReadDone a s = .next t) :
    ChangesOnly [.device, .setup, .setupRead, .rqTail, .bfTail, .cpHead, .requests, .fetching, .posting] s t := by
  unfold execSetupBlockReadDone at h
  split at h
  · split at h
    · obtain rfl := Host.Outcome.next.inj h
      exact (setWindow_changes s _ _ _ _).mono
    · split at h <;> obtain rfl := Host.Outcome.next.inj h
      · exact (setWindow_changes s _ _ _ _).mono
      · exact .of_parts fun p => by
          cases p with
          | device | setup | setupRead | rqTail | bfTail | cpHead | requests | fetching | posting =>
            exact .inl (by decide)
          | _ => exact .inr rfl
  · obtain rfl := Host.Outcome.next.inj h
    exact .refl _ _

/-- The scan leaves the store itself (R101). -/
theorem scanStore_kept (t : TrimUnit) :
    (scanStore t).slots = t.slots ∧ (scanStore t).program = t.program ∧ (scanStore t).load = t.load := by
  unfold scanStore
  dsimp only
  split <;> exact ⟨rfl, rfl, rfl⟩

theorem execEndOfInit_changes {s t : State} (h : execEndOfInit s = .next t) :
    ChangesOnly [.device, .trimWork, .table] s t := by
  unfold execEndOfInit at h
  split at h <;> obtain rfl := Host.Outcome.next.inj h
  · exact .of_parts fun p => by
      cases p with
      | device | trimWork | table => exact .inl (by decide)
      | slots => exact .inr (scanStore_kept s.trim).1
      | _ => exact .inr rfl
  · exact .refl _ _

theorem writeRqTail_changes (s : State) (v : Word) : ChangesOnly (.rqTail :: haltParts) s (writeRqTail s v) := by
  refine .ite (.refl _ s) (.ite (enterHalted_changes s _ _).mono (.of_parts fun p => ?_))
  cases p with
  | rqTail => exact .inl (by decide)
  | _ => exact .inr rfl

theorem writeBfTail_changes (s : State) (v : Word) : ChangesOnly (.bfTail :: haltParts) s (writeBfTail s v) := by
  refine .ite (.refl _ s) (.ite (enterHalted_changes s _ _).mono (.of_parts fun p => ?_))
  cases p with
  | bfTail => exact .inl (by decide)
  | _ => exact .inr rfl

theorem writeCpHead_changes (s : State) (v : Word) : ChangesOnly (.cpHead :: haltParts) s (writeCpHead s v) := by
  have hconsumed : ChangesOnly [.cpHead] s { s with window := { s.window with cpHead := v } } :=
    .of_parts fun p => by
      cases p with
      | cpHead => exact .inl (by decide)
      | _ => exact .inr rfl
  exact .ite (.refl _ s) (.ite (enterHalted_changes s _ _).mono (hconsumed.then (noticeAtConsumption_changes _ _)))

/-- What a write of the register window may change, but for a reset. -/
abbrev windowParts : List Part := [.setupRead, .setupRegisters, .rqTail, .bfTail, .cpHead] ++ haltParts

theorem execRegisterWrite_changes {offset size : Nat} {value : Word} {s t : State}
    (hreset : isReset (.registerWrite offset size value) = false)
    (h : execRegisterWrite offset size value s = .next t) : ChangesOnly windowParts s t := by
  have hregisters (lo hi : Word) : ChangesOnly windowParts s
      { s with window := { s.window with setupLo := lo, setupHi := hi } } :=
    .of_parts fun p => by
      cases p with
      | setupRegisters => exact .inl (by decide)
      | _ => exact .inr rfl
  unfold execRegisterWrite at h
  split at h
  · obtain rfl := Host.Outcome.next.inj h
    exact .refl _ _
  · rename_i hsize
    split at h <;> obtain rfl := Host.Outcome.next.inj h
    · have hbit : ¬ value.getLsbD 1 = true := by
        have hsize' : size = 4 := by simpa using hsize
        simpa [isReset, hsize'] using hreset
      unfold writeControl
      rw [if_neg hbit]
      exact .ite (enableAction_changes s).mono (.refl _ s)
    · exact hregisters value s.window.setupHi
    · exact hregisters s.window.setupLo value
    · exact (writeRqTail_changes s value).mono
    · exact (writeBfTail_changes s value).mono
    · exact (writeCpHead_changes s value).mono
    · exact .refl _ s

/-- What the end of a frame may change. -/
abbrev frameEndParts : List Part := [.holding, .stopWork] ++ beginParts ++ haltParts

/-- What the end of a row or of a frame may change. -/
abbrev rowEndParts : List Part := setupParts ++ frameEndParts

theorem endRun_changes (s : State) : ChangesOnly [.streamState, .entries, .stopWork] s (endRun s) := by
  have hceased : ChangesOnly [.streamState] s
      { s with stream := { ceaseRows s.stream .stopped with missed := 0 } } :=
    .of_parts fun p => by
      cases p with
      | streamState => exact .inl (by decide)
      | _ => exact .inr rfl
  exact (hceased.then (w'' := [.streamState, .entries, .stopWork]) (completeWork_changes .stopEnd _ _)).then
    (useFree_changes _)

theorem reportDropped_changes (s : State) (f : SlotFrame) :
    ChangesOnly (.holding :: haltParts) s (reportDropped s f) := by
  cases f with
  | buffered q ref b => exact .refl _ s
  | dropped q p b reason =>
    rcases dropReport_changes s q reason with h | h
    · exact h.mono
    · change ChangesOnly _ s (dropReport s q reason)
      rw [h]
      exact (enterHalted_changes s _ _).mono

theorem frameEnd_changes (s : State) (f : SlotFrame) : ChangesOnly frameEndParts s (frameEnd s f) := by
  have hfreed : ChangesOnly [.current] s { s with stream := { s.stream with current := none } } :=
    .of_parts fun p => by
      cases p with
      | current => exact .inl (by decide)
      | _ => exact .inr rfl
  have hreleased : ChangesOnly frameEndParts s
      (reportDropped { s with stream := { s.stream with current := none } } f) :=
    hfreed.then (reportDropped_changes _ f)
  unfold frameEnd
  dsimp only
  generalize reportDropped { s with stream := { s.stream with current := none } } f = u at hreleased
  have hwaiting : ChangesOnly [.streamState] u { u with stream := ceaseRows u.stream .waiting } :=
    .of_parts fun p => by
      cases p with
      | streamState => exact .inl (by decide)
      | _ => exact .inr rfl
  split
  · split
    · exact hreleased.then (beginRow0_changes u)
    · exact hreleased.then hwaiting
    · exact hreleased.then (endRun_changes u)
    · exact hreleased
  · exact hreleased

theorem execRowEnd_changes {s t : State} (h : execRowEnd s = .next t) : ChangesOnly rowEndParts s t := by
  unfold execRowEnd at h
  split at h
  · obtain rfl := Host.Outcome.next.inj h
    exact .refl _ _
  · split at h <;> obtain rfl := Host.Outcome.next.inj h
    · exact (beginRow_changes s _ _).mono
    · exact (frameEnd_changes s _).mono

theorem execMaintenanceStrobe_changes {s t : State} (h : execMaintenanceStrobe s = .next t) :
    ChangesOnly strobeParts s t := by
  have htimer : ChangesOnly [] s { s with stream := { s.stream with maintenance := some 0 } } :=
    fun p _ => by cases p <;> rfl
  unfold execMaintenanceStrobe at h
  split at h <;> obtain rfl := Host.Outcome.next.inj h
  · exact htimer.then (strobeInstant_changes _ _ _)
  · exact .refl _ _

theorem execTriggerEdge_changes {s t : State} (h : execTriggerEdge s = .next t) : ChangesOnly beginParts s t := by
  unfold execTriggerEdge at h
  split at h <;> obtain rfl := Host.Outcome.next.inj h
  · exact beginRow0_changes s
  · exact fun p _ => by cases p <;> rfl
  · exact .refl _ _

theorem execReplyReceived_changes {p : Fin 4} {own : Bool} {bits : BitVec 96} {s t : State}
    (h : execReplyReceived p own bits s = .next t) : ChangesOnly strobeParts s t := by
  unfold execReplyReceived at h
  split at h <;> obtain rfl := Host.Outcome.next.inj h
  · exact .refl _ _
  · exact ((setPort_changes s p _).then (w'' := strobeParts) (applyVerdict_changes _ p _ _ _)).then
      (completeRowIfDone_changes _)

theorem execRequestFetchIssue_changes {s t : State} (h : execRequestFetchIssue s = .next t) :
    ChangesOnly [.requests] s t := by
  unfold execRequestFetchIssue at h
  split at h <;> obtain rfl := Host.Outcome.next.inj h
  · exact .of_parts fun p => by
      cases p with
      | requests => exact .inl (by decide)
      | _ => exact .inr rfl
  · exact .refl _ _

theorem execRequestFetchDone_changes {a : ReadAnswer 512} {s t : State} (h : execRequestFetchDone a s = .next t) :
    ChangesOnly (.requests :: haltParts) s t := by
  have hanswered (fetch : Option Addr) (intake : List Record) : ChangesOnly [.requests] s
      { s with requests := { s.requests with fetch := fetch, intake := intake } } :=
    .of_parts fun p => by
      cases p with
      | requests => exact .inl (by decide)
      | _ => exact .inr rfl
  unfold execRequestFetchDone at h
  split at h
  · dsimp only at h
    split at h <;> obtain rfl := Host.Outcome.next.inj h
    · exact (hanswered none s.requests.intake).then (enterHalted_changes _ _ _)
    · exact (hanswered none _).mono
  · obtain rfl := Host.Outcome.next.inj h
    exact .refl _ _

/-- What the end of a run by ABORT may change. -/
abbrev abortRunParts : List Part :=
  [.holding, .entries, .stopWork, .coder, .records, .next] ++ haltParts

/-- What a STOP ABORT may change. -/
abbrev abortParts : List Part := .requests :: abortRunParts

theorem completeStopEnd_changes (s : State) : ChangesOnly [.entries, .stopWork] s (completeStopEnd s) :=
  .ite ((completeWork_changes .stopEnd s _).then (useFree_changes _)) (.refl _ s)

theorem abortCurrent_changes (s : State) :
    ChangesOnly ([.coder, .records, .holding] ++ haltParts) s (abortCurrent s) := by
  unfold abortCurrent
  split
  · exact .ite ((addDamage_changes s _ _).then (endCapture_changes _ _)) (.refl _ s)
  · rename_i q p b reason _
    exact (reportDropped_changes s (.dropped q p b reason)).mono
  · exact .refl _ s

theorem abortRun_changes (s : State) : ChangesOnly abortRunParts s (abortRun s) := by
  have hrow (u : State) : ChangesOnly [.row] u
      { u with stream := { u.stream with frameMark := false }, row := none } :=
    .of_parts fun p => by
      cases p with
      | row => exact .inl (by decide)
      | _ => exact .inr rfl
  have hfreed (u : State) : ChangesOnly [.current] u { u with stream := { u.stream with current := none } } :=
    .of_parts fun p => by
      cases p with
      | current => exact .inl (by decide)
      | _ => exact .inr rfl
  have hstopped (u : State) (m : Option Nat) : ChangesOnly [.streamState] u
      { u with stream := { u.stream with state := .stopped, missed := 0, maintenance := m } } :=
    .of_parts fun p => by
      cases p with
      | streamState => exact .inl (by decide)
      | _ => exact .inr rfl
  have hended : ChangesOnly abortRunParts s _ :=
    ((completeStopEnd_changes s).then (w'' := abortRunParts) (hrow _)).then (abortCurrent_changes _)
  refine .ite (.refl _ s) (.ite ?_ hended)
  exact ((hended.then (w'' := abortRunParts) (hfreed _)).then (w'' := abortRunParts) (cancelSetUp_changes _)).then
    (hstopped _ _)

theorem execStopAbort_changes {s t : State} (h : execStopAbort s = .next t) : ChangesOnly abortParts s t := by
  unfold execStopAbort at h
  split at h <;> obtain rfl := Host.Outcome.next.inj h
  · exact .refl _ _
  · rename_i r taken htaken
    obtain ⟨rest, -, -, -, rfl⟩ := (takeImmediate_eq_some_iff s _ r taken).1 htaken
    exact (((advanceHead_changes s rest).then (w'' := abortParts) (useFree_changes _)).then (w'' := abortParts)
      (place_changes_of_no_tag _ rfl)).then (abortRun_changes _)

end Sys2Proof.Laws
end

/-! ### The parts that the trim unit, the buffer unit and the grants may change -/

section
set_option Elab.async false
namespace Sys2Proof.Laws

open Sys2Proof Sys2Proof.Machine Sys2Proof.Safety

theorem setTrim_changes (s : State) (trim : TrimUnit) :
    ChangesOnly [.slots, .table, .trimWork] s { s with trim := trim } :=
  .of_parts fun p => by
    cases p with
    | slots | table | trimWork => exact .inl (by decide)
    | _ => exact .inr rfl

/-- A change of the trim unit that leaves its table in force. -/
theorem setTrim_changes_of_table {trim : TrimUnit} (s : State) (h : trim.table = s.trim.table) :
    ChangesOnly [.slots, .trimWork] s { s with trim := trim } :=
  .of_parts fun p => by
    cases p with
    | slots | trimWork => exact .inl (by decide)
    | table => exact .inr h
    | _ => exact .inr rfl

/-- A change of the trim unit that leaves the store. -/
theorem setTrim_changes_of_slots {trim : TrimUnit} (s : State) (h : trim.slots = s.trim.slots) :
    ChangesOnly [.table, .trimWork] s { s with trim := trim } :=
  .of_parts fun p => by
    cases p with
    | table | trimWork => exact .inl (by decide)
    | slots => exact .inr h
    | _ => exact .inr rfl

theorem verifyTrim_table (t : TrimUnit) (k : Fin 8) (written : Record) (good : Bool) :
    (verifyTrim t k written good).table = t.table := by
  unfold verifyTrim startWaitingRead
  split <;> rfl

theorem execTrimImageReadDone_changes {a : ReadAnswer 512} {s t : State}
    (h : execTrimImageReadDone a s = .next t) : ChangesOnly [.slots, .trimWork, .entries, .programWork] s t := by
  unfold execTrimImageReadDone at h
  split at h
  · split at h
    · obtain rfl := Host.Outcome.next.inj h
      exact (setTrimWork_changes s .idle s.trim.load).then (completeWork_changes .trimProgram _ _)
    · split at h <;> obtain rfl := Host.Outcome.next.inj h
      · exact (setTrimWork_changes s _ s.trim.load).mono
      · exact (setTrim_changes_of_table s (by rfl)).mono
  · obtain rfl := Host.Outcome.next.inj h
    exact .refl _ _

theorem execTrimProgramVerify_changes {image : Record} {check : Half} {s t : State}
    (h : execTrimProgramVerify image check s = .next t) :
    ChangesOnly [.slots, .trimWork, .entries, .programWork] s t := by
  unfold execTrimProgramVerify at h
  split at h
  · split at h <;> obtain rfl := Host.Outcome.next.inj h
    · exact (setTrim_changes_of_table s (verifyTrim_table _ _ _ _)).then (completeWork_changes .trimProgram _ _)
    · exact .refl _ _
  · obtain rfl := Host.Outcome.next.inj h
    exact .refl _ _

/-- What the end of a TRIM_LOAD may change. -/
abbrev loadParts : List Part := [.table, .trimWork, .entries, .loadWork, .records]

theorem installTrim_changes (s : State) (image : Record) (origin : TrimOrigin) (aux : Nat) :
    ChangesOnly loadParts s (installTrim s image origin aux) := by
  have hloaded : ChangesOnly [.table, .trimWork] s
      { s with trim := { s.trim with table := imageTable image, origin := origin, load := .idle } } :=
    setTrim_changes_of_slots s rfl
  unfold installTrim
  dsimp only
  generalize ({ s with trim := { s.trim with table := imageTable image, origin := origin, load := .idle } } : State) =
    u at hloaded ⊢
  exact (hloaded.then (w'' := loadParts) (liveEdit_changes u _)).then (completeWork_changes .trimLoad _ _)

theorem execTrimSlotReadDone_changes {s t : State} (h : execTrimSlotReadDone s = .next t) :
    ChangesOnly (.slots :: loadParts) s t := by
  unfold execTrimSlotReadDone at h
  split at h
  · split at h <;> obtain rfl := Host.Outcome.next.inj h
    · exact (installTrim_changes s _ _ _).then (setTrim_changes _ _)
    · exact .refl _ _
  · obtain rfl := Host.Outcome.next.inj h
    exact .refl _ _

theorem execTrimHostReadDone_changes {a : ReadAnswer 512} {s t : State}
    (h : execTrimHostReadDone a s = .next t) : ChangesOnly loadParts s t := by
  unfold execTrimHostReadDone at h
  split at h
  · split at h <;> obtain rfl := Host.Outcome.next.inj h
    · exact (setTrimWork_changes s s.trim.program .idle).then (completeWork_changes .trimLoad _ _)
    · exact installTrim_changes s _ _ _
  · obtain rfl := Host.Outcome.next.inj h
    exact .refl _ _

/-- The answer of an image's bursts changes an entry of a work that is not counted (R161). -/
theorem execImageWriteDone_changes {entry : Nat} {responses : List Resp} {s t : State}
    (h : execImageWriteDone entry responses s = .next t) : ChangesOnly [.entries] s t := by
  unfold execImageWriteDone at h
  split at h
  · rename_i e _ he
    split at h
    · rename_i size bursts hwork ha
      split at h <;> obtain rfl := Host.Outcome.next.inj h
      · obtain ⟨hlt, hget⟩ := List.getElem?_eq_some_iff.1 he
        refine (ChangesOnly.mono (setEntries_changes (w := .image size bursts) s fun v hv => ?_)
          (by simp [partOfWork])).of_length (List.length_set ..)
        have hne : (LongWork.image size bursts == v) = false := beq_false_of_ne (Ne.symm hv)
        rw [List.countP_set hlt, hget]
        simp [hwork, hne]
      · exact .refl _ _
    · obtain rfl := Host.Outcome.next.inj h
      exact .refl _ _
  · obtain rfl := Host.Outcome.next.inj h
    exact .refl _ _

theorem setBuffers_changes (s : State) (b : Buffers) :
    ChangesOnly [.descriptors, .fetching] s { s with buffers := b } :=
  .of_parts fun p => by
    cases p with
    | descriptors | fetching => exact .inl (by decide)
    | _ => exact .inr rfl

/-- A change of the fetching that leaves the list and the latch. -/
theorem setBuffers_changes_of_list {b : Buffers} (s : State) (hlist : b.list = s.buffers.list)
    (hlatch : b.latch = s.buffers.latch) : ChangesOnly [.fetching] s { s with buffers := b } :=
  .of_parts fun p => by
    cases p with
    | fetching => exact .inl (by decide)
    | descriptors => exact .inr (by rw [SamePart, hlist, hlatch])
    | _ => exact .inr rfl

theorem execDescriptorFetchIssue_changes {s t : State} (h : execDescriptorFetchIssue s = .next t) :
    ChangesOnly [.fetching] s t := by
  unfold execDescriptorFetchIssue at h
  split at h
  · obtain rfl := Host.Outcome.next.inj h
    exact setBuffers_changes_of_list s rfl rfl
  · split at h <;> obtain rfl := Host.Outcome.next.inj h
    · exact setBuffers_changes_of_list s rfl rfl
    · exact .refl _ _

theorem execDescriptorFetchDone_changes {a : ReadAnswer 128} {s t : State}
    (h : execDescriptorFetchDone a s = .next t) :
    ChangesOnly ([.fetching, .descriptors, .entries, .reclaimWork] ++ haltParts) s t := by
  unfold execDescriptorFetchDone at h
  split at h
  · split at h <;> obtain rfl := Host.Outcome.next.inj h
    · exact (setBuffers_changes s _).then (enterHalted_changes _ _ _)
    · exact (setBuffers_changes s _).then (finishReclaim_changes _)
  · obtain rfl := Host.Outcome.next.inj h
    exact .refl _ _

theorem execRejectedReturn_changes {s t : State} (h : execRejectedReturn s = .next t) :
    ChangesOnly [.holding, .returnTags, .descriptors] s t := by
  unfold execRejectedReturn at h
  split at h <;> obtain rfl := Host.Outcome.next.inj h
  · refine .then (w := [.descriptors]) (.of_parts fun p => ?_) (place_changes _ _)
    cases p with
    | descriptors => exact .inl (by decide)
    | _ => exact .inr rfl
  · exact .refl _ _

theorem execReclaimedReturn_changes {s t : State} (h : execReclaimedReturn s = .next t) :
    ChangesOnly [.holding, .returnTags, .descriptors, .fetching, .entries, .reclaimWork] s t := by
  unfold execReclaimedReturn at h
  split at h
  · split at h <;> obtain rfl := Host.Outcome.next.inj h
    · exact ((setBuffers_changes s _).then
        (w'' := [.holding, .returnTags, .descriptors, .fetching, .entries, .reclaimWork])
        (place_changes _ _)).then (finishReclaim_changes _)
    · exact .refl _ _
  · obtain rfl := Host.Outcome.next.inj h
    exact .refl _ _

theorem execPayloadBurstIssue_changes {s t : State} (h : execPayloadBurstIssue s = .next t) :
    ChangesOnly [.coder] s t := by
  unfold execPayloadBurstIssue at h
  split at h <;> obtain rfl := Host.Outcome.next.inj h
  · exact setCoder_changes s _
  · exact .refl _ _

theorem execPayloadWriteDone_changes {burst : Nat} {a : WriteAnswer} {s t : State}
    (h : execPayloadWriteDone burst a s = .next t) : ChangesOnly [.coder, .records] s t := by
  unfold execPayloadWriteDone at h
  split at h
  · dsimp only at h
    split at h <;> obtain rfl := Host.Outcome.next.inj h
    · exact ((setCoder_changes s _).then (w'' := [.coder, .records]) (addDamage_changes _ _ _)).then
        (drainIfDone_changes _ _)
    · exact (setCoder_changes s _).then (drainIfDone_changes _ _)
  · obtain rfl := Host.Outcome.next.inj h
    exact .refl _ _

theorem execHeaderWriteDone_changes {write : Nat} {a : WriteAnswer} {s t : State}
    (h : execHeaderWriteDone write a s = .next t) : ChangesOnly [.coder, .records] s t := by
  unfold execHeaderWriteDone at h
  split at h <;> obtain rfl := Host.Outcome.next.inj h
  · have hanswered := (setCoder_changes s { s.coder with headers := s.coder.headers.eraseIdx write }).mono
      (w' := [.coder, .records])
    exact (ChangesOnly.ite (hanswered.then (addDamage_changes _ _ _)) hanswered).then
      (enterReportWait_changes _ _ _)
  · exact .refl _ _

/-- A change of the completion unit that leaves the queue and the notice line. -/
theorem setPosting_changes {c : Completions} (s : State) (hholding : c.holding = s.completions.holding)
    (hnotice : (c.notice, c.timer) = (s.completions.notice, s.completions.timer)) :
    ChangesOnly [.posting] s { s with completions := c } :=
  .of_parts fun p => by
    cases p with
    | posting => exact .inl (by decide)
    | holding => exact .inr hholding
    | returnTags => exact .inr (congrArg (fun l : List Completion => l.flatMap returnedTag) hholding)
    | notice => exact .inr hnotice
    | _ => exact .inr rfl

theorem execCompletionWriteIssue_changes {s t : State} (h : execCompletionWriteIssue s = .next t) :
    ChangesOnly [.posting] s t := by
  unfold execCompletionWriteIssue at h
  split at h
  · obtain rfl := Host.Outcome.next.inj h
    exact .refl _ _
  · split at h <;> obtain rfl := Host.Outcome.next.inj h
    · exact setPosting_changes s rfl rfl
    · exact .refl _ _

theorem execCompletionWriteDone_changes {a : WriteAnswer} {s t : State}
    (h : execCompletionWriteDone a s = .next t) :
    ChangesOnly ([.posting, .holding, .returnTags] ++ haltParts) s t := by
  unfold execCompletionWriteDone at h
  split at h
  · dsimp only at h
    split at h <;> obtain rfl := Host.Outcome.next.inj h
    · exact (setPosting_changes s (by rfl) (by rfl)).then (enterHalted_changes _ _ _)
    · refine .then (w := [.posting, .holding, .returnTags]) (.of_parts fun p => ?_) (noticeAtPosting_changes _ _)
      cases p with
      | posting | holding | returnTags => exact .inl (by decide)
      | _ => exact .inr rfl
  · obtain rfl := Host.Outcome.next.inj h
    exact .refl _ _

theorem execNoticeTimerExpiry_changes {s t : State} (h : execNoticeTimerExpiry s = .next t) :
    ChangesOnly [.notice] s t := by
  unfold execNoticeTimerExpiry at h
  split at h <;> obtain rfl := Host.Outcome.next.inj h
  · exact setNotice_changes s _ _
  · exact .refl _ _

theorem execFrameReportGrant_changes {s t : State} (h : execFrameReportGrant s = .next t) :
    ChangesOnly [.holding, .returnTags, .records, .recordKeys] s t := by
  unfold execFrameReportGrant at h
  split at h <;> obtain rfl := Host.Outcome.next.inj h
  · refine .then (w := [.records, .recordKeys]) (.of_parts fun p => ?_) (place_changes _ _)
    cases p with
    | records | recordKeys => exact .inl (by decide)
    | _ => exact .inr rfl
  · exact .refl _ _

theorem execCommitLanded_changes {s t : State} (h : execCommitLanded s = .next t) :
    ChangesOnly [.holding, .commits] s t := by
  unfold execCommitLanded at h
  split at h <;> obtain rfl := Host.Outcome.next.inj h
  · refine .then (w := [.commits]) (.of_parts fun p => ?_) (place_changes_of_no_tag _ rfl)
    cases p with
    | commits => exact .inl (by decide)
    | _ => exact .inr rfl
  · exact .refl _ _

theorem execPortEvent_changes {s t : State} (h : execPortEvent s = .next t) :
    ChangesOnly [.holding, .ports] s t := by
  unfold execPortEvent at h
  split at h <;> obtain rfl := Host.Outcome.next.inj h
  · exact .then (setPort_changes_of_state s (by rfl)) (place_changes_of_no_tag _ rfl)
  · exact .refl _ _

theorem execDropSummaryGrant_changes {s t : State} (h : execDropSummaryGrant s = .next t) :
    ChangesOnly [.holding] s t := by
  unfold execDropSummaryGrant at h
  split at h <;> obtain rfl := Host.Outcome.next.inj h
  · refine .trans (fun p _ => ?_) (place_changes_of_no_tag _ rfl)
    cases p <;> rfl
  · exact .refl _ _

/-- An answered entry leaves the pending list: no work under way changes (R157). -/
theorem countP_eraseIdx_of_answered {l : List PendingEntry} {i : Nat} {e : PendingEntry} {a : Answer}
    (he : l[i]? = some e) (ha : e.answer = some a) (w : LongWork) :
    ((l.eraseIdx i).countP fun e => e.work == w && e.answer.isNone) =
      l.countP fun e => e.work == w && e.answer.isNone := by
  obtain ⟨hlt, rfl⟩ := List.getElem?_eq_some_iff.1 he
  rw [List.eraseIdx_eq_take_drop_succ]
  conv_rhs => rw [← List.take_append_drop i l, List.drop_eq_getElem_cons hlt]
  rw [List.countP_append, List.countP_append, List.countP_cons_of_neg (by simp [ha])]

theorem execLongRequestDone_changes {s t : State} (h : execLongRequestDone s = .next t) :
    ChangesOnly [.holding, .entries, .entryCount] s t := by
  unfold execLongRequestDone at h
  split at h
  · split at h
    · rename_i e he
      split at h <;> obtain rfl := Host.Outcome.next.inj h
      · rename_i a ha
        refine .then (w := [.entries, .entryCount]) ?_ (place_changes_of_no_tag _ rfl)
        exact (setEntries_changes (w := .image 0 []) s fun w _ => countP_eraseIdx_of_answered he ha w).mono
          (by simp [partOfWork])
      · exact .refl _ _
    · obtain rfl := Host.Outcome.next.inj h
      exact .refl _ _
  · obtain rfl := Host.Outcome.next.inj h
    exact .refl _ _

end Sys2Proof.Laws
end

/-! ### What each command changes, and the writers of each field -/

section
set_option Elab.async false
namespace Sys2Proof.Laws

open Sys2Proof Sys2Proof.Machine Sys2Proof.Safety

/-- The parts that a command may change, but for the resets, which are stated exactly. -/
def commandParts : Instr → List Part
  | .powerOnReset _ => []
  | .reset => []
  | .enable => [.device, .setupRead]
  | .setupBlockReadDone _ =>
    [.device, .setup, .setupRead, .rqTail, .bfTail, .cpHead, .requests, .fetching, .posting]
  | .endOfInit => [.device, .trimWork, .table]
  | .registerWrite _ _ _ => windowParts
  | .rqTailWrite _ => .rqTail :: haltParts
  | .bfTailWrite _ => .bfTail :: haltParts
  | .cpHeadWrite _ => .cpHead :: haltParts
  | .rowEnd => rowEndParts
  | .maintenanceStrobe => strobeParts
  | .triggerEdge => beginParts
  | .replyReceived _ _ _ => strobeParts
  | .requestFetchIssue => [.requests]
  | .requestFetchDone _ => .requests :: haltParts
  | .badKind => [.requests, .holding]
  | .badFlags => [.requests, .holding]
  | .stage => [.requests, .holding, .profiles]
  | .stageSchedule => [.requests, .holding, .schedule]
  | .commit => .requests :: .holding :: commitParts
  | .withdraw => [.requests, .holding, .profiles, .pend, .commits, .schedule]
  | .start => .requests :: .holding :: startParts
  | .stopEnd => [.requests, .holding, .entries, .entryCount, .stopWork] ++ stopParts
  | .stopAbort => abortParts
  | .setChannel => [.requests, .holding, .channels, .records]
  | .portAlign => [.requests, .entries, .entryCount, .alignWork] ++ alignParts
  | .trimProgram => [.requests, .entries, .entryCount, .programWork, .trimWork]
  | .trimImageReadDone _ => [.slots, .trimWork, .entries, .programWork]
  | .trimProgramVerify _ _ => [.slots, .trimWork, .entries, .programWork]
  | .trimLoad => [.requests, .entries, .entryCount, .loadWork, .trimWork]
  | .trimSlotReadDone => .slots :: loadParts
  | .trimHostReadDone _ => loadParts
  | .readOut => [.requests, .entries, .entryCount]
  | .imageWriteDone _ _ => [.entries]
  | .reclaim => [.requests, .entries, .entryCount, .reclaimWork, .fetching]
  | .descriptorFetchIssue => [.fetching]
  | .descriptorFetchDone _ => [.fetching, .descriptors, .entries, .reclaimWork] ++ haltParts
  | .payloadBurstIssue => [.coder]
  | .payloadWriteDone _ _ => [.coder, .records]
  | .headerWriteDone _ _ => [.coder, .records]
  | .completionWriteIssue => [.posting]
  | .completionWriteDone _ => [.posting, .holding, .returnTags] ++ haltParts
  | .noticeTimerExpiry => [.notice]
  | .frameReportGrant => [.holding, .returnTags, .records, .recordKeys]
  | .commitLanded => [.holding, .commits]
  | .portEvent => [.holding, .ports]
  | .rejectedReturn => [.holding, .returnTags, .descriptors]
  | .dropSummaryGrant => [.holding]
  | .reclaimedReturn => [.holding, .returnTags, .descriptors, .fetching, .entries, .reclaimWork]
  | .longRequestDone => [.holding, .entries, .entryCount]

/-- A command that is no reset changes no other part than its own. -/
theorem exec_changes {c : Instr} {s t : State} (hreset : isReset c = false) (h : exec c s = .next t) :
    ChangesOnly (commandParts c) s t := by
  cases c with
  | powerOnReset straps => cases hreset
  | reset => cases hreset
  | enable =>
    obtain rfl := Host.Outcome.next.inj h
    exact enableAction_changes s
  | setupBlockReadDone a => exact execSetupBlockReadDone_changes h
  | endOfInit => exact execEndOfInit_changes h
  | registerWrite offset size value => exact execRegisterWrite_changes hreset h
  | rqTailWrite v =>
    obtain rfl := Host.Outcome.next.inj h
    exact writeRqTail_changes s v
  | bfTailWrite v =>
    obtain rfl := Host.Outcome.next.inj h
    exact writeBfTail_changes s v
  | cpHeadWrite v =>
    obtain rfl := Host.Outcome.next.inj h
    exact writeCpHead_changes s v
  | rowEnd => exact execRowEnd_changes h
  | maintenanceStrobe => exact execMaintenanceStrobe_changes h
  | triggerEdge => exact execTriggerEdge_changes h
  | replyReceived p own bits => exact execReplyReceived_changes h
  | requestFetchIssue => exact execRequestFetchIssue_changes h
  | requestFetchDone a => exact execRequestFetchDone_changes h
  | badKind => exact runImmediate_changes (w := []) (fun _ u => .refl _ u) h
  | badFlags => exact runImmediate_changes (w := []) (fun _ u => .refl _ u) h
  | stage => exact runImmediate_changes stageOwner_changes h
  | stageSchedule => exact runImmediate_changes stageScheduleOwner_changes h
  | commit => exact runImmediate_changes commitOwner_changes h
  | withdraw => exact runImmediate_changes withdrawOwner_changes h
  | start => exact runImmediate_changes startOwner_changes h
  | stopEnd => exact execStopEnd_changes h
  | stopAbort => exact execStopAbort_changes h
  | setChannel => exact runImmediate_changes setChannelOwner_changes h
  | portAlign => exact execPortAlign_changes h
  | trimProgram => exact runLong_changes trimProgramOwner_long h (by decide)
  | trimImageReadDone a => exact execTrimImageReadDone_changes h
  | trimProgramVerify image check => exact execTrimProgramVerify_changes h
  | trimLoad => exact runLong_changes trimLoadOwner_long h (by decide)
  | trimSlotReadDone => exact execTrimSlotReadDone_changes h
  | trimHostReadDone a => exact execTrimHostReadDone_changes h
  | readOut => exact execReadOut_changes h
  | imageWriteDone entry responses => exact execImageWriteDone_changes h
  | reclaim => exact runLong_changes reclaimOwner_long h (by decide)
  | descriptorFetchIssue => exact execDescriptorFetchIssue_changes h
  | descriptorFetchDone a => exact execDescriptorFetchDone_changes h
  | payloadBurstIssue => exact execPayloadBurstIssue_changes h
  | payloadWriteDone burst a => exact execPayloadWriteDone_changes h
  | headerWriteDone write a => exact execHeaderWriteDone_changes h
  | completionWriteIssue => exact execCompletionWriteIssue_changes h
  | completionWriteDone a => exact execCompletionWriteDone_changes h
  | noticeTimerExpiry => exact execNoticeTimerExpiry_changes h
  | frameReportGrant => exact execFrameReportGrant_changes h
  | commitLanded => exact execCommitLanded_changes h
  | portEvent => exact execPortEvent_changes h
  | rejectedReturn => exact execRejectedReturn_changes h
  | dropSummaryGrant => exact execDropSummaryGrant_changes h
  | reclaimedReturn => exact execReclaimedReturn_changes h
  | longRequestDone => exact execLongRequestDone_changes h

/-- A part outside a command's own is the same after it. -/
theorem exec_samePart {c : Instr} {s t : State} (hreset : isReset c = false) (h : exec c s = .next t) (p : Part)
    (hp : (commandParts c).contains p = false) : SamePart p s t :=
  exec_changes hreset h p fun hmem => by simp [hmem] at hp

/-- A part that a command changed is one of its own. -/
theorem mem_commandParts_of_not_same {c : Instr} {s t : State} (hreset : isReset c = false)
    (h : exec c s = .next t) {p : Part} (hp : ¬ SamePart p s t) : (commandParts c).contains p = true := by
  by_contra hc
  exact hp (exec_samePart hreset h p (Bool.eq_false_iff.2 hc))

/-- The queue, the time counter and the straps are no command's but a reset's (R6, R72). -/
theorem commandParts_inputs (c : Instr) : (commandParts c).contains .inputs = false := by
  cases c <;> rfl

theorem setup_writers {c : Instr} (h : (commandParts c).contains .setup = true) : answersSetup c = true := by
  cases c with
  | setupBlockReadDone a => rfl
  | _ => exact absurd h nofun

theorem slots_writers {c : Instr} (h : (commandParts c).contains .slots = true) : writesSlots c = true := by
  cases c with
  | trimImageReadDone a => rfl
  | trimProgramVerify image check => rfl
  | trimSlotReadDone => rfl
  | _ => exact absurd h nofun

theorem table_writers {c : Instr} (h : (commandParts c).contains .table = true) : writesTrimTable c = true := by
  cases c with
  | endOfInit => rfl
  | trimSlotReadDone => rfl
  | trimHostReadDone a => rfl
  | _ => exact absurd h nofun

theorem channels_writers {c : Instr} (h : (commandParts c).contains .channels = true) :
    c = .setChannel ∨ c = .rowEnd ∨ c = .triggerEdge ∨ c = .start := by
  cases c with
  | setChannel | rowEnd | triggerEdge | start => simp
  | _ => exact absurd h nofun

theorem profiles_writers {c : Instr} (h : (commandParts c).contains .profiles = true) :
    c = .stage ∨ c = .commit ∨ c = .withdraw ∨ c = .rowEnd ∨ c = .start := by
  cases c with
  | stage | commit | withdraw | rowEnd | start => simp
  | _ => exact absurd h nofun

theorem active_writers {c : Instr} (h : (commandParts c).contains .active = true) :
    c = .commit ∨ c = .rowEnd ∨ c = .start := by
  cases c with
  | commit | rowEnd | start => simp
  | _ => exact absurd h nofun

theorem schedule_writers {c : Instr} (h : (commandParts c).contains .schedule = true) :
    c = .stageSchedule ∨ c = .commit ∨ c = .withdraw ∨ c = .rowEnd ∨ c = .start := by
  cases c with
  | stageSchedule | commit | withdraw | rowEnd | start => simp
  | _ => exact absurd h nofun

theorem next_writers {c : Instr} (h : (commandParts c).contains .next = true) :
    c = .rowEnd ∨ c = .start ∨ c = .stopEnd ∨ c = .stopAbort := by
  cases c with
  | rowEnd | start | stopEnd | stopAbort => simp
  | _ => exact absurd h nofun

/-- Settles O60: the parts of each command hold the fields that it may change. -/
theorem fieldsHaveTheirWriters : Obligations.FieldsHaveTheirWriters := by
  intro c s t h hreset
  have hchanged {p : Part} (hp : ¬ SamePart p s t) : (commandParts c).contains p = true :=
    mem_commandParts_of_not_same hreset h hp
  have hsame : SamePart .inputs s t := exec_samePart hreset h .inputs (commandParts_inputs c)
  simp only [SamePart, Prod.mk.injEq] at hsame
  obtain ⟨hpending, htime, hstraps⟩ := hsame
  exact ⟨hpending, htime, hstraps, fun hne => setup_writers (hchanged hne), fun hne => slots_writers (hchanged hne),
    fun hne => table_writers (hchanged hne), fun hne => channels_writers (hchanged hne),
    fun hne => profiles_writers (hchanged hne),
    fun p hne => active_writers (hchanged fun he => hne (congrFun he p)),
    fun hne => schedule_writers (hchanged hne), fun hne => next_writers (hchanged hne)⟩

end Sys2Proof.Laws
end

/-! ### Outside ENABLED -/

section
set_option Elab.async false
namespace Sys2Proof.Laws

open Sys2Proof Sys2Proof.Machine Sys2Proof.Safety

/-- What the invariant says of a machine that is not ENABLED: no rows run, and the trim unit and the notice timer are
idle (R11, R105, R174). -/
structure OutOfService (s : State) : Prop where
  device : s.window.device ≠ .enabled
  stopped : s.stream.state = .stopped
  current : s.stream.current = none
  program : s.trim.program = .idle
  load : s.trim.load = .idle
  timer : s.completions.timer = none

theorem outOfService_of_inv {s : State} (hinv : Inv s) (hdev : s.window.device ≠ .enabled) : OutOfService s := by
  obtain ⟨-, -, hstream, -, -, -, -, -, -, htrim, -, hring, -, hnotice⟩ := hinv
  obtain ⟨⟨hstopped, -⟩, -, -, hout, -⟩ := hstream
  obtain ⟨-, -, -, -, hidle⟩ := htrim
  have htimer : s.completions.timer = none := by
    cases hd : s.window.device with
    | enabled => exact absurd hd hdev
    | halted => exact (hnotice.2 hd).2
    | init | disabled | setup =>
      obtain ⟨-, -, -, -, -, -, hcompletions, -⟩ := hring.2.1 (by simp [hd])
      rw [hcompletions]
      rfl
  exact ⟨hdev, hout hdev, (hstopped (hout hdev)).1, (hidle hdev).1, (hidle hdev).2, htimer⟩

/-- The commands that may act outside ENABLED (R75, R101, R176, R178, R179; R4 for the strobe). -/
def actsOutside : Instr → Bool
  | .powerOnReset _ => true
  | .reset => true
  | .enable => true
  | .setupBlockReadDone _ => true
  | .endOfInit => true
  | .registerWrite _ _ _ => true
  | .maintenanceStrobe => true
  | .replyReceived _ _ _ => true
  | _ => false

section
variable {s : State} (hout : OutOfService s)
include hout

theorem OutOfService.isEnabled_eq : isEnabled s = false :=
  decide_eq_false hout.device

theorem OutOfService.grant_eq : grant s = none :=
  grant_eq_none_of_not_possible fun h => hout.device h.1

theorem OutOfService.runImmediate_eq (test : Record → Bool) (owner : Record → State → State × Answer) :
    runImmediate s test owner = .next s := by
  rcases runImmediate_cases s test owner with ⟨-, h⟩ | ⟨-, -, -, -, hgrant, -⟩
  · exact h
  · exact absurd (hout.grant_eq.symm.trans hgrant) nofun

theorem OutOfService.takeLong_eq (test : Record → Bool) : takeLong s test = none := by
  cases h : takeLong s test with
  | none => rfl
  | some x =>
    obtain ⟨_, hturn, -⟩ := (takeLong_eq_some_iff s test x.1 x.2).1 h
    exact absurd hturn.1 hout.device

theorem OutOfService.runLong_eq (test : Record → Bool) (owner : Record → State → Taken) :
    runLong s test owner = .next s := by
  unfold runLong
  rw [hout.takeLong_eq]

theorem OutOfService.rowDue_eq : rowDue s = none := by
  unfold rowDue
  rw [hout.current]

/-- A command that does not act outside ENABLED has no effect there. -/
theorem OutOfService.exec_eq {c : Instr} (hc : actsOutside c = false) : exec c s = .next s := by
  have henabled := hout.isEnabled_eq
  have hgrant := hout.grant_eq
  cases c with
  | powerOnReset | reset | enable | setupBlockReadDone | endOfInit | registerWrite | maintenanceStrobe
  | replyReceived => cases hc
  | rqTailWrite v | bfTailWrite v | cpHeadWrite v =>
    refine congrArg Host.Outcome.next (if_pos ?_)
    rw [henabled]
    rfl
  | rowEnd =>
    change execRowEnd s = _
    unfold execRowEnd
    rw [hout.rowDue_eq]
  | triggerEdge =>
    change execTriggerEdge s = _
    unfold execTriggerEdge
    rw [hout.stopped]
  | requestFetchIssue =>
    change execRequestFetchIssue s = _
    exact if_neg (by simp [requestFetchDue, henabled])
  | requestFetchDone a =>
    change execRequestFetchDone a s = _
    unfold execRequestFetchDone
    rw [henabled, Bool.false_and]
  | badKind | badFlags | stage | stageSchedule | commit | withdraw | start | setChannel =>
    exact hout.runImmediate_eq _ _
  | portAlign | trimProgram | trimLoad | readOut | reclaim => exact hout.runLong_eq _ _
  | stopEnd =>
    change execStopEnd s = _
    unfold execStopEnd
    rw [hout.takeLong_eq]
    exact hout.runImmediate_eq _ _
  | stopAbort =>
    change execStopAbort s = _
    unfold execStopAbort
    cases h : takeImmediate s _ with
    | none => rfl
    | some x =>
      obtain ⟨-, -, -, hg, -⟩ := (takeImmediate_eq_some_iff s _ x.1 x.2).1 h
      exact absurd (hgrant.symm.trans hg) nofun
  | trimImageReadDone a =>
    change execTrimImageReadDone a s = _
    unfold execTrimImageReadDone
    rw [hout.program]
    cases a.tracked <;> rfl
  | trimProgramVerify image check =>
    change execTrimProgramVerify image check s = _
    unfold execTrimProgramVerify
    rw [hout.program]
  | trimSlotReadDone =>
    change execTrimSlotReadDone s = _
    unfold execTrimSlotReadDone
    rw [hout.load]
  | trimHostReadDone a =>
    change execTrimHostReadDone a s = _
    unfold execTrimHostReadDone
    rw [hout.load]
    cases a.tracked <;> rfl
  | imageWriteDone entry responses =>
    change execImageWriteDone entry responses s = _
    unfold execImageWriteDone
    rw [henabled]
  | descriptorFetchIssue =>
    change execDescriptorFetchIssue s = _
    have hreclaim : reclaimFetchDue s = false := by
      unfold reclaimFetchDue
      cases s.buffers.reclaim with
      | none => rfl
      | some r => rw [henabled]; rfl
    unfold execDescriptorFetchIssue
    rw [hreclaim, if_neg Bool.false_ne_true]
    exact if_neg (by simp [ordinaryFetchDue, henabled])
  | descriptorFetchDone a =>
    change execDescriptorFetchDone a s = _
    unfold execDescriptorFetchDone
    rw [henabled, Bool.false_and]
  | payloadBurstIssue =>
    change execPayloadBurstIssue s = _
    unfold execPayloadBurstIssue
    rw [henabled]
  | payloadWriteDone burst a =>
    change execPayloadWriteDone burst a s = _
    unfold execPayloadWriteDone
    rw [henabled, Bool.false_and]
  | headerWriteDone write a =>
    change execHeaderWriteDone write a s = _
    unfold execHeaderWriteDone
    rw [henabled, Bool.false_and]
  | completionWriteIssue =>
    change execCompletionWriteIssue s = _
    unfold execCompletionWriteIssue
    rw [henabled]
    cases s.completions.holding <;> rfl
  | completionWriteDone a =>
    change execCompletionWriteDone a s = _
    unfold execCompletionWriteDone
    rw [henabled, Bool.false_and]
  | noticeTimerExpiry =>
    change execNoticeTimerExpiry s = _
    unfold execNoticeTimerExpiry
    rw [hout.timer]
  | frameReportGrant =>
    change execFrameReportGrant s = _
    unfold execFrameReportGrant
    rw [hgrant]
  | commitLanded =>
    change execCommitLanded s = _
    unfold execCommitLanded
    rw [hgrant]
  | portEvent =>
    change execPortEvent s = _
    unfold execPortEvent
    rw [hgrant]
  | rejectedReturn =>
    change execRejectedReturn s = _
    unfold execRejectedReturn
    rw [hgrant]
  | dropSummaryGrant =>
    change execDropSummaryGrant s = _
    unfold execDropSummaryGrant
    rw [hgrant]
  | reclaimedReturn =>
    change execReclaimedReturn s = _
    unfold execReclaimedReturn
    rw [hgrant]
  | longRequestDone =>
    change execLongRequestDone s = _
    unfold execLongRequestDone
    rw [hgrant]

/-- No event of the device's own is due but the end of INIT and the maintenance strobe. -/
theorem OutOfService.dueCommand_eq {c : Instr} (hc : dueCommand s = some c) :
    c = .endOfInit ∨ c = .maintenanceStrobe := by
  have hlong : dueLong s = none := by
    unfold dueLong
    rw [hout.takeLong_eq]
    rfl
  have hread : slotReadDue s = false := by
    unfold slotReadDue
    rw [hout.load]
  unfold dueCommand at hc
  rw [hout.grant_eq, Option.bind_none, hlong] at hc
  unfold dueTimed at hc
  rw [hout.rowDue_eq, hread, hout.timer] at hc
  simp only [Option.isSome_none, Bool.false_eq_true, if_false, reduceCtorEq] at hc
  by_cases hinit : s.window.device = .init ∧ initDuration ≤ s.window.initTicks
  · rw [if_pos hinit] at hc
    exact .inl (Option.some.inj hc).symm
  · rw [if_neg hinit] at hc
    by_cases hdue : maintenanceDue s = true
    · rw [if_pos hdue] at hc
      exact .inr (Option.some.inj hc).symm
    · rw [if_neg hdue] at hc
      cases hc

end

/-! #### HALTED -/

/-- The state with other setup registers, maintenance timer and port lines: what may change in HALTED besides the time
counter (R181). -/
def haltedChange (s : State) (lo hi : Word) (maintenance : Option Nat) (ports : Vector Port 4) : State :=
  { s with
    window := { s.window with setupLo := lo, setupHi := hi }
    stream := { s.stream with maintenance := maintenance }
    ports := ports }

/-- A port with another pulse and another reply window. -/
abbrev LineOnly (q q' : Port) : Prop := q' = { q with pulse := q'.pulse, window := q'.window }

/-- In HALTED a command that is no reset changes the setup registers, the maintenance timer or the port lines only. -/
theorem exec_of_halted {c : Instr} {s t : State} (hout : OutOfService s) (hhalt : s.window.device = .halted)
    (hrow : s.row = none) (hreset : isReset c = false) (h : exec c s = .next t) :
    ∃ lo hi m ports, t = haltedChange s lo hi m ports ∧ ∀ p : Fin 4, LineOnly s.ports[p] ports[p] := by
  have hsame : ∃ lo hi m ports, s = haltedChange s lo hi m ports ∧ ∀ p : Fin 4, LineOnly s.ports[p] ports[p] :=
    ⟨s.window.setupLo, s.window.setupHi, s.stream.maintenance, s.ports, rfl, fun _ => rfl⟩
  have hregisters (lo hi : Word) : ∃ lo' hi' m ports,
      { s with window := { s.window with setupLo := lo, setupHi := hi } } = haltedChange s lo' hi' m ports ∧
        ∀ p : Fin 4, LineOnly s.ports[p] ports[p] :=
    ⟨lo, hi, s.stream.maintenance, s.ports, rfl, fun _ => rfl⟩
  have henable : enableAction s = s := if_neg (by rw [hhalt]; nofun)
  by_cases hacts : actsOutside c = true
  · cases c with
    | powerOnReset straps => cases hreset
    | reset => cases hreset
    | enable =>
      obtain rfl := Host.Outcome.next.inj h
      rw [henable]
      exact hsame
    | setupBlockReadDone a =>
      have hidle : exec (.setupBlockReadDone a) s = .next s := by
        change execSetupBlockReadDone a s = _
        unfold execSetupBlockReadDone
        rw [hhalt]
        cases a.tracked <;> rfl
      obtain rfl := Host.Outcome.next.inj (hidle.symm.trans h)
      exact hsame
    | endOfInit =>
      have hidle : exec .endOfInit s = .next s := if_neg (by rw [hhalt]; nofun)
      obtain rfl := Host.Outcome.next.inj (hidle.symm.trans h)
      exact hsame
    | registerWrite offset size value =>
      have htails : writeRqTail s value = s ∧ writeBfTail s value = s ∧ writeCpHead s value = s := by
        have hnot : (!isEnabled s) = true := by rw [hout.isEnabled_eq]; rfl
        exact ⟨if_pos hnot, if_pos hnot, if_pos hnot⟩
      change execRegisterWrite offset size value s = _ at h
      unfold execRegisterWrite at h
      split at h
      · obtain rfl := Host.Outcome.next.inj h
        exact hsame
      · rename_i hsize
        split at h <;> obtain rfl := Host.Outcome.next.inj h
        · have hbit : ¬ value.getLsbD 1 = true := by
            have hsize' : size = 4 := by simpa using hsize
            simpa [isReset, hsize'] using hreset
          unfold writeControl
          rw [if_neg hbit, henable, ite_self]
          exact hsame
        · exact hregisters value s.window.setupHi
        · exact hregisters s.window.setupLo value
        · rw [htails.1]
          exact hsame
        · rw [htails.2.1]
          exact hsame
        · rw [htails.2.2]
          exact hsame
        · exact hsame
    | maintenanceStrobe =>
      change execMaintenanceStrobe s = _ at h
      unfold execMaintenanceStrobe at h
      split at h <;> obtain rfl := Host.Outcome.next.inj h
      · rw [strobeInstant_of_halted (s := { s with stream := { s.stream with maintenance := some 0 } }) hhalt hrow]
        refine ⟨s.window.setupLo, s.window.setupHi, some 0, _, rfl, fun p => ?_⟩
        have hline (q : Port) : q = (if p.val < s.window.straps.toNat + 1 then
            { s.ports[p] with pulse := 2, window := some maintenanceWindow }
            else { s.ports[p] with window := none }) → LineOnly s.ports[p] q := by
          rintro rfl
          split <;> rfl
        exact hline _ (Vector.getElem_ofFn p.isLt)
      · exact hsame
    | replyReceived p own bits =>
      have hwindow : takingWindow s p own = none := by
        cases htaking : takingWindow s p own with
        | none => rfl
        | some w =>
          obtain ⟨htaken, -⟩ := takingWindow_eq_some.1 htaking
          exact absurd hhalt htaken.1
      have hidle : exec (.replyReceived p own bits) s = .next s := by
        change execReplyReceived p own bits s = _
        unfold execReplyReceived
        rw [hwindow]
      obtain rfl := Host.Outcome.next.inj (hidle.symm.trans h)
      exact hsame
    | _ => cases hacts
  · obtain rfl := Host.Outcome.next.inj ((hout.exec_eq (Bool.eq_false_iff.2 hacts)).symm.trans h)
    exact hsame

/-- A tick in HALTED: the time counter, the maintenance timer and the pulses (R4, R6, R73). -/
theorem tick_of_halted {s : State} (hout : OutOfService s) (hhalt : s.window.device = .halted) :
    tick s = { s with
      stream := { s.stream with
        timeCounter := s.stream.timeCounter + 1#48, maintenance := s.stream.maintenance.map (· + 1) }
      ports := Vector.ofFn fun p : Fin 4 => tickPort s.ports[p] } := by
  have hwindow : (if s.window.device = .init then s.window.initTicks + 1 else s.window.initTicks) =
      s.window.initTicks := if_neg (by rw [hhalt]; nofun)
  have hrows : (if s.stream.state = .running ∨ s.stream.state = .draining then s.stream.rowTimer + 1
      else s.stream.rowTimer) = s.stream.rowTimer := if_neg (by rw [hout.stopped]; simp)
  have htrim : tickLoad (tickProgram s.trim) = s.trim := by
    unfold tickProgram tickLoad
    simp only [hout.program, hout.load]
  have htimer : s.completions.timer.map (· - 1) = s.completions.timer := by rw [hout.timer]; rfl
  unfold tick tickStream
  rw [hwindow, hrows, htrim, htimer]

/-- Settles O58: outside ENABLED few commands act, and in HALTED they change registers, timers and lines only. -/
theorem haltedIsLeftOnlyByReset : Obligations.HaltedIsLeftOnlyByReset := by
  intro s t hinv hhalt hpending hstep
  have hout : OutOfService s := outOfService_of_inv hinv (by rw [hhalt]; nofun)
  have hrow : s.row = none := by
    obtain ⟨-, -, -, -, -, -, -, ⟨-, -, -, -, -, hrow⟩, -⟩ := hinv
    exact hrow hhalt
  have hcommand {u : State} (hu : u = haltedChange { s with pending := s.pending.tail } u.window.setupLo
      u.window.setupHi u.stream.maintenance u.ports) (hports : ∀ p : Fin 4, LineOnly s.ports[p] u.ports[p]) :
      u.window.device = .halted ∧ (∀ p : Fin 4, LineOnly s.ports[p] u.ports[p]) ∧
        u = { s with
          pending := s.pending.tail
          window := { s.window with setupLo := u.window.setupLo, setupHi := u.window.setupHi }
          stream := { s.stream with
            timeCounter := u.stream.timeCounter, maintenance := u.stream.maintenance }
          ports := u.ports } := by
    have htime : u.stream.timeCounter = s.stream.timeCounter := by rw [hu]; rfl
    refine ⟨by rw [hu]; exact hhalt, hports, ?_⟩
    rw [htime]
    exact hu
  have hexec {c : Instr} (hreset : isReset c = false)
      (h : exec c { s with pending := s.pending.tail } = .next t) :=
    exec_of_halted (s := { s with pending := s.pending.tail })
      ⟨hout.device, hout.stopped, hout.current, hout.program, hout.load, hout.timer⟩ hhalt hrow hreset h
  unfold step at hstep
  split at hstep
  · rename_i c rest heq
    have hc : isReset c = false := hpending c (by rw [heq]; exact rfl)
    have hrest : rest = s.pending.tail := by rw [heq]; rfl
    subst hrest
    obtain ⟨lo, hi, m, ports, rfl, hports⟩ := hexec hc hstep
    exact hcommand rfl hports
  · rename_i heq
    have hself : ({ s with pending := s.pending.tail } : State) = s := by
      rw [heq]
      change ({ s with pending := [] } : State) = s
      rw [← heq]
    unfold idle at hstep
    split at hstep
    · rename_i c hdue
      have hc : isReset c = false := by
        rcases hout.dueCommand_eq hdue with rfl | rfl <;> rfl
      obtain ⟨lo, hi, m, ports, rfl, hports⟩ := hexec hc (by rw [hself]; exact hstep)
      exact hcommand rfl hports
    · obtain rfl := Host.Outcome.next.inj hstep
      have htick := tick_of_halted hout hhalt
      have hports (p : Fin 4) : (tick s).ports[p] = tickPort s.ports[p] := Vector.getElem_ofFn p.isLt
      refine ⟨by rw [htick]; exact hhalt, fun p => by rw [hports]; rfl, ?_⟩
      conv_lhs => rw [htick, ← hself]
      rfl

end Sys2Proof.Laws
end

/-! ### The tags of the buffers -/

section
set_option Elab.async false
namespace Sys2Proof.Laws

open Sys2Proof Sys2Proof.Machine Sys2Proof.Safety

/-- The same tags are held, in whatever order (R133). -/
def SameTags (s t : State) : Prop := (heldTags t).Perm (heldTags s)

theorem heldTags_of_parts {s t : State} (hlist : SamePart .descriptors s t) (hkeys : SamePart .recordKeys s t)
    (htags : SamePart .returnTags s t) : heldTags t = heldTags s := by
  simp only [SamePart, Prod.mk.injEq] at hlist hkeys htags
  obtain ⟨hlist, hlatch⟩ := hlist
  have hrecords (u : State) : u.records.map (fun r => r.descriptor.tag) =
      (u.records.map recordKey).map fun k => k.2.2.tag := by
    rw [List.map_map]
    rfl
  unfold heldTags
  rw [hlist, hlatch, htags, hrecords t, hkeys, ← hrecords s]

/-- An operation that moves no descriptor keeps the tags. -/
theorem ChangesOnly.sameTags {w : List Part} {s t : State} (h : ChangesOnly w s t)
    (hw : w.contains .descriptors = false ∧ w.contains .recordKeys = false ∧ w.contains .returnTags = false := by
      decide) : SameTags s t := by
  have hsame (p : Part) (hp : w.contains p = false) : SamePart p s t := h p fun hmem => by simp [hmem] at hp
  rw [SameTags, heldTags_of_parts (hsame _ hw.1) (hsame _ hw.2.1) (hsame _ hw.2.2)]

theorem SameTags.trans {s t u : State} (h : SameTags s t) (h' : SameTags t u) : SameTags s u :=
  List.Perm.trans h' h

/-- A binding moves the head of the buffer list into a record (R134). -/
theorem bindFrame_sameTags (s : State) (q : Word) (p : Fin 4) : SameTags s (bindFrame s q p) := by
  unfold bindFrame
  dsimp only
  split
  · rename_i d rest _ hlist
    refine .trans ?_ (fillSetUp_changes _ _).sameTags
    unfold SameTags heldTags
    simp only [hlist, List.map_append, List.map_cons, List.map_nil]
    change ((rest.map Descriptor.tag ++ s.buffers.latch.toList.map Descriptor.tag) ++
      (s.records.map (fun r => r.descriptor.tag) ++ [d.tag]) ++ s.completions.holding.flatMap returnedTag).Perm _
    refine List.Perm.append_right _ ?_
    rw [← List.append_assoc]
    exact List.perm_append_singleton _ _
  · exact (fillSetUp_changes s _).sameTags
  · exact (fillSetUp_changes s _).sameTags

theorem frameSetup_sameTags (s : State) : SameTags s (frameSetup s) := by
  have hset (next : Word) : ChangesOnly [.next] s { s with stream := { s.stream with next := next } } :=
    .of_parts fun x => by
      cases x with
      | next => exact .inl (by decide)
      | _ => exact .inr rfl
  have hadvanced (u : State) : ChangesOnly [.schedule, .pend] u
      { u with schedule := advancePosition u.schedule } :=
    .of_parts fun x => by
      cases x with
      | schedule | pend => exact .inl (by decide)
      | _ => exact .inr rfl
  exact ((((hset _).sameTags).trans (landDue_changes _ _).sameTags).trans (hadvanced _).sameTags).trans
    (bindFrame_sameTags _ _ _)

theorem beginRow_sameTags (s : State) (f : SlotFrame) (index : Nat) : SameTags s (beginRow s f index) := by
  have hstream : ChangesOnly [] s
      { s with stream := { s.stream with rowIndex := index, rowTimer := 0, frameMark := false } } :=
    fun x _ => by cases x <;> rfl
  have hstrobed := hstream.sameTags.trans (rowStrobe_changes _ index false).sameTags
  unfold beginRow
  dsimp only
  split
  · exact hstrobed.trans (frameSetup_sameTags _)
  · exact hstrobed

theorem execRowEnd_sameTags {s t : State} (h : execRowEnd s = .next t) : SameTags s t := by
  unfold execRowEnd at h
  split at h
  · obtain rfl := Host.Outcome.next.inj h
    exact (ChangesOnly.refl [] _).sameTags
  · split at h <;> obtain rfl := Host.Outcome.next.inj h
    · exact beginRow_sameTags s _ _
    · exact (frameEnd_changes s _).sameTags

theorem startRun_sameTags (s : State) (mode : StartMode) : SameTags s (startRun s mode) := by
  have hready : ChangesOnly [.schedule] s
      { s with stream := { s.stream with mode := mode }, schedule := restartPosition s.schedule } :=
    .of_parts fun p => by
      cases p with
      | schedule => exact .inl (by decide)
      | _ => exact .inr rfl
  have hsetup := hready.sameTags.trans (frameSetup_sameTags _)
  have hpaused (u : State) : ChangesOnly [.fetching] u
      { u with buffers := { u.buffers with paused := false } } :=
    .of_parts fun p => by
      cases p with
      | fetching => exact .inl (by decide)
      | _ => exact .inr rfl
  cases mode with
  | free => exact (hsetup.trans (beginRow0_changes _).sameTags).trans (hpaused _).sameTags
  | triggered =>
    have hwaiting (u : State) : ChangesOnly [.streamState] u
        { u with stream := { u.stream with state := .waiting } } :=
      .of_parts fun p => by
        cases p with
        | streamState => exact .inl (by decide)
        | _ => exact .inr rfl
    exact (hsetup.trans (hwaiting _).sameTags).trans (hpaused _).sameTags

theorem startOwner_sameTags (r : Record) (s : State) : SameTags s (startOwner r s).1 := by
  unfold startOwner
  dsimp only
  split
  · exact (useFree_changes s).sameTags
  · split
    · exact (useFree_changes s).sameTags
    · exact (startRun_sameTags s _).trans (useFree_changes _).sameTags

theorem execStart_sameTags {s t : State} (h : execStart s = .next t) : SameTags s t := by
  rcases runImmediate_cases s (ofKind kindStart) startOwner with ⟨-, he⟩ | ⟨r, rest, -, -, -, he⟩ <;>
    obtain rfl := Host.Outcome.next.inj (he.symm.trans h)
  · exact (ChangesOnly.refl [] _).sameTags
  · exact ((advanceHead_changes s rest).sameTags.trans (startOwner_sameTags r _)).trans
      (place_changes_of_no_tag _ rfl).sameTags

/-- The tag that a completion returns moves into the queue with it. -/
theorem heldTags_place (s : State) (c : Completion) : heldTags (place s c) = heldTags s ++ returnedTag c := by
  unfold heldTags
  rw [place_completions]
  dsimp only
  rw [List.flatMap_append, List.flatMap_singleton, ← List.append_assoc]
  rfl

/-- In a list with distinct keys, the one element with a key and those with other keys are all of it. -/
theorem perm_cons_filter_key {α : Type} (key : α → Nat) {l : List α} {x : α} (hd : (l.map key).Nodup) (hx : x ∈ l) :
    l.Perm (x :: l.filter fun y => key y != key x) := by
  induction l with
  | nil => cases hx
  | cons y l ih =>
    rw [List.map_cons, List.nodup_cons] at hd
    obtain ⟨hy, hd⟩ := hd
    rcases List.mem_cons.1 hx with rfl | hmem
    · have hall : l.filter (fun y => key y != key x) = l :=
        List.filter_eq_self.2 fun z hz => bne_iff_ne.2 fun he => hy (he ▸ List.mem_map_of_mem hz)
      rw [List.filter_cons_of_neg (by simp), hall]
    · have hne : key y ≠ key x := fun he => hy (he ▸ List.mem_map_of_mem hmem)
      rw [List.filter_cons_of_pos (p := fun z => key z != key x) (bne_iff_ne.2 hne)]
      exact ((ih hd hmem).cons y).trans (.swap x y _)

/-- The completion of a record returns its buffer (R139, R141). -/
theorem returnedTag_recordCompletion (r : FrameRecord) : returnedTag (recordCompletion r) = [r.descriptor.tag] := by
  unfold recordCompletion
  split <;> rfl

theorem execFrameReportGrant_sameTags {s t : State} (hd : (s.records.map FrameRecord.ref).Nodup)
    (h : execFrameReportGrant s = .next t) : SameTags s t := by
  unfold execFrameReportGrant at h
  split at h <;> obtain rfl := Host.Outcome.next.inj h
  · rename_i r _ hwaiting
    have hperm := perm_cons_filter_key FrameRecord.ref hd (waitingRecord_mem hwaiting).1
    unfold SameTags
    rw [heldTags_place, returnedTag_recordCompletion]
    refine (List.perm_append_singleton _ _).trans ?_
    unfold heldTags
    refine List.Perm.trans ?_ (List.Perm.append_right _
      (List.Perm.append_left _ (hperm.map fun r => r.descriptor.tag).symm))
    rw [List.map_cons, ← List.cons_append, ← List.cons_append]
    exact List.Perm.append_right _ List.perm_middle.symm
  · exact (ChangesOnly.refl [] _).sameTags

theorem execRejectedReturn_sameTags {s t : State} (h : execRejectedReturn s = .next t) : SameTags s t := by
  unfold execRejectedReturn at h
  split at h <;> obtain rfl := Host.Outcome.next.inj h
  · rename_i d _ hlatch
    unfold SameTags
    rw [heldTags_place]
    refine (List.perm_append_singleton _ _).trans ?_
    unfold heldTags
    rw [hlatch]
    simp only [Option.toList_some, Option.toList_none, List.map_cons, List.map_nil, List.append_nil]
    rw [← List.cons_append, ← List.cons_append]
    refine List.Perm.append_right _ (List.Perm.append_right _ ?_)
    exact (List.perm_append_singleton _ _).symm
  · exact (ChangesOnly.refl [] _).sameTags

theorem execReclaimedReturn_sameTags {s t : State} (h : execReclaimedReturn s = .next t) : SameTags s t := by
  unfold execReclaimedReturn at h
  split at h
  · rename_i d rest r _ hlist _
    split at h <;> obtain rfl := Host.Outcome.next.inj h
    · refine .trans ?_ (finishReclaim_changes _).sameTags
      unfold SameTags
      rw [heldTags_place]
      refine (List.perm_append_singleton _ _).trans ?_
      unfold heldTags
      rw [hlist]
      exact .refl _
    · exact (ChangesOnly.refl [] _).sameTags
  · obtain rfl := Host.Outcome.next.inj h
    exact (ChangesOnly.refl [] _).sameTags

/-- The tags held after the posting of the queue's head, with the one posted, are those held before (R166). -/
theorem execCompletionWriteDone_tags {a : WriteAnswer} {s t : State} (h : execCompletionWriteDone a s = .next t) :
    (heldTags t ++ postedTags (.completionWriteDone a) s).Perm (heldTags s) := by
  unfold execCompletionWriteDone at h
  by_cases hdue : (isEnabled s && a.tracked) = true ∧ s.completions.write ≠ none
  · obtain ⟨hanswered, hwrite⟩ := hdue
    obtain ⟨w, hw⟩ := Option.ne_none_iff_exists'.1 hwrite
    rw [hanswered, hw] at h
    dsimp only at h
    have hand := Bool.and_eq_true_iff.1 hanswered
    have hdev : s.window.device = .enabled := (isEnabled_iff s).1 hand.1
    split at h <;> obtain rfl := Host.Outcome.next.inj h
    · rename_i hfailed
      have hposted : postedTags (.completionWriteDone a) s = [] :=
        if_neg fun hall => hall.2.2.2 ((writeFailed_iff a).1 hfailed)
      rw [hposted, List.append_nil]
      exact ((setPosting_changes s (by rfl) (by rfl)).sameTags).trans (enterHalted_changes _ _ _).sameTags
    · rename_i hgood
      have hposted : postedTags (.completionWriteDone a) s = s.completions.holding.head?.toList.flatMap returnedTag :=
        if_pos ⟨hdev, hand.2, hwrite, mt (writeFailed_iff a).2 hgood⟩
      rw [hposted]
      refine (List.Perm.append_right _ (noticeAtPosting_changes _ _).sameTags).trans ?_
      unfold heldTags postHead
      dsimp only
      cases s.completions.holding with
      | nil => simp
      | cons c rest =>
        simp only [List.tail_cons, List.head?_cons, Option.toList_some, List.flatMap_cons, List.flatMap_nil,
          List.append_nil]
        rw [List.append_assoc]
        exact List.Perm.append_left _ List.perm_append_comm
  · have hnext : t = s := by
      split at h
      · rename_i hanswered hw
        exact absurd ⟨hanswered, by rw [hw]; nofun⟩ hdue
      · exact (Host.Outcome.next.inj h).symm
    have hposted : postedTags (.completionWriteDone a) s = [] :=
      if_neg fun hall => hdue ⟨by rw [(isEnabled_iff s).2 hall.1, hall.2.1]; rfl, hall.2.2.1⟩
    rw [hnext, hposted, List.append_nil]

/-- A descriptor fetched ordinarily finds the latch empty: none is fetched while one waits in it (R129). -/
theorem latch_eq_none_of_fetch {s : State} (hinv : Inv s) (hdev : s.window.device = .enabled) {f : DescriptorFetch}
    (hf : s.buffers.fetch = some f) (hordinary : f.forReclaim = false) : s.buffers.latch = none := by
  obtain ⟨-, -, -, -, -, -, -, -, -, -, -, ⟨hring, -⟩, -⟩ := hinv
  obtain ⟨-, ⟨-, -, -, -, -, hlatch⟩, -⟩ := hring hdev
  cases hl : s.buffers.latch with
  | none => rfl
  | some d =>
    have hreclaim := (hlatch d hl).2 f hf
    rw [hordinary] at hreclaim
    cases hreclaim

/-- The tags held after a fetch's answer are those held before and that of the descriptor it brings (R130, R131). -/
theorem execDescriptorFetchDone_tags {a : ReadAnswer 128} {s t : State} (hinv : Inv s)
    (h : execDescriptorFetchDone a s = .next t) :
    (heldTags t).Perm (heldTags s ++ fetchedTags (.descriptorFetchDone a) s) := by
  unfold execDescriptorFetchDone at h
  by_cases hdue : (isEnabled s && a.tracked) = true ∧ s.buffers.fetch ≠ none
  · obtain ⟨hanswered, hfetch⟩ := hdue
    obtain ⟨f, hf⟩ := Option.ne_none_iff_exists'.1 hfetch
    rw [hanswered, hf] at h
    dsimp only at h
    have hand := Bool.and_eq_true_iff.1 hanswered
    have hdev : s.window.device = .enabled := (isEnabled_iff s).1 hand.1
    split at h <;> obtain rfl := Host.Outcome.next.inj h
    · rename_i hfailed
      have hfetched : fetchedTags (.descriptorFetchDone a) s = [] :=
        if_neg fun hall => hall.2.2.2 ((readFailed_iff a).1 hfailed)
      rw [hfetched, List.append_nil]
      exact ((setBuffers_changes_of_list s (by rfl) (by rfl)).sameTags).trans (enterHalted_changes _ _ _).sameTags
    · rename_i hgood
      have hfetched : fetchedTags (.descriptorFetchDone a) s = [(descriptorOf a.data).tag] :=
        if_pos ⟨hdev, hand.2, hfetch, mt (readFailed_iff a).2 hgood⟩
      rw [hfetched]
      refine List.Perm.trans (finishReclaim_changes _).sameTags ?_
      refine List.Perm.trans ?_ (List.perm_append_singleton _ _).symm
      unfold takeDescriptor
      split
      · unfold heldTags
        dsimp only
        rw [List.map_append, ← List.cons_append, ← List.cons_append, ← List.cons_append]
        exact List.Perm.append_right _ (List.Perm.append_right _ (List.Perm.append_right _
          (List.perm_append_singleton _ _)))
      · rename_i hinvalid
        have hordinary : f.forReclaim = false := by
          cases hb : f.forReclaim with
          | false => rfl
          | true => exact absurd (by rw [hb]; rfl) hinvalid
        unfold heldTags
        dsimp only
        rw [latch_eq_none_of_fetch hinv hdev hf hordinary, ← List.cons_append, ← List.cons_append]
        refine List.Perm.append_right _ (List.Perm.append_right _ ?_)
        simp only [Option.toList_some, Option.toList_none, List.map_cons, List.map_nil, List.append_nil]
        exact List.perm_append_singleton _ _
  · have hnext : t = s := by
      split at h
      · rename_i hanswered hf
        exact absurd ⟨hanswered, by rw [hf]; nofun⟩ hdue
      · exact (Host.Outcome.next.inj h).symm
    have hfetched : fetchedTags (.descriptorFetchDone a) s = [] :=
      if_neg fun hall => hdue ⟨by rw [(isEnabled_iff s).2 hall.1, hall.2.1]; rfl, hall.2.2.1⟩
    rw [hnext, hfetched, List.append_nil]

/-- Settles O59: a binding, a report, a return, a posting and a fetch each move one tag; nothing else moves any. -/
theorem buffersAreConserved : Obligations.BuffersAreConserved := by
  intro c s t hinv hreset h
  have hdistinct : (s.records.map FrameRecord.ref).Nodup := by
    obtain ⟨-, -, -, -, -, -, -, ⟨⟨hd, -⟩, -⟩, -⟩ := hinv
    exact hd
  have hkept (hposted : postedTags c s = []) (hfetched : fetchedTags c s = []) (hsame : SameTags s t) :
      (heldTags t ++ postedTags c s).Perm (heldTags s ++ fetchedTags c s) := by
    rw [hposted, hfetched, List.append_nil, List.append_nil]
    exact hsame
  cases c with
  | rowEnd => exact hkept rfl rfl (execRowEnd_sameTags h)
  | start => exact hkept rfl rfl (execStart_sameTags h)
  | frameReportGrant => exact hkept rfl rfl (execFrameReportGrant_sameTags hdistinct h)
  | rejectedReturn => exact hkept rfl rfl (execRejectedReturn_sameTags h)
  | reclaimedReturn => exact hkept rfl rfl (execReclaimedReturn_sameTags h)
  | completionWriteDone a =>
    change (_ ++ _ : List Word).Perm (heldTags s ++ [])
    rw [List.append_nil]
    exact execCompletionWriteDone_tags h
  | descriptorFetchDone a =>
    change (heldTags t ++ [] : List Word).Perm _
    rw [List.append_nil]
    exact execDescriptorFetchDone_tags hinv h
  | _ => exact hkept rfl rfl ((exec_changes hreset h).sameTags ⟨rfl, rfl, rfl⟩)

end Sys2Proof.Laws
end

/-! ### Steps, and the state after a reset -/

section
set_option Elab.async false
namespace Sys2Proof.Laws

open Sys2Proof Sys2Proof.Machine Sys2Proof.Safety

/-- A step is a command on the machine without the front of its queue, or a tick when no event is due (logs 1, 2). -/
theorem step_cases {s t : State} (h : step s = .next t) :
    (∃ c rest, exec c { s with pending := rest } = .next t) ∨ dueCommand s = none ∧ t = tick s := by
  unfold step at h
  split at h
  · rename_i c rest _
    exact .inl ⟨c, rest, h⟩
  · unfold idle at h
    cases hdue : dueCommand s with
    | some c =>
      rw [hdue] at h
      exact .inl ⟨c, s.pending, h⟩
    | none =>
      rw [hdue] at h
      exact .inr ⟨rfl, (Host.Outcome.next.inj h).symm⟩

/-- The invariant says nothing of the queue. -/
theorem inv_pending {s : State} (hinv : Inv s) (rest : List Instr) : Inv { s with pending := rest } := hinv

/-- A machine that a reset has just brought into INIT: every block at its reset values, ports OFF, UP or LOST (R179). -/
structure JustReset (s : State) : Prop where
  device : s.window.device = .init ∧ s.window.cause = .none ∧ s.window.detail = 0
  tails : s.window.rqTail = 0 ∧ s.window.bfTail = 0 ∧ s.window.cpHead = 0 ∧ s.window.setupRead = none
  stream : s.stream = resetStream s.stream.timeCounter
  profiles : s.profiles = resetProfiles
  commits : s.commits = []
  schedule : s.schedule = resetSchedule
  ports : ∀ p : Fin 4, ∃ x, s.ports[p] = resetPort x ∧ x ≠ .aligning ∧ (fitted s ≤ p.val → x = .off)
  channels : s.channels = Vector.replicate 16 resetChannel
  row : s.row = none
  slots : ∀ k : Fin 8, SlotShape s.trim.slots[k]
  trim : s.trim.program = .idle ∧ s.trim.load = .idle
  coder : s.coder = resetCoder
  records : s.records = []
  buffers : s.buffers = resetBuffers
  requests : s.requests = resetRequests
  completions : s.completions = resetCompletions

section
variable {s : State} (h : JustReset s)
include h

theorem JustReset.capacityInv : CapacityInv s := by
  unfold CapacityInv
  rw [h.completions, h.commits, h.records, h.buffers, h.requests, h.coder]
  decide

theorem JustReset.profileInv : ProfileInv s := by
  have hlimits : WithinLimits defaultProfile := by decide
  have hsound : Sound s defaultProfile := by
    refine ⟨hlimits, by decide, by decide, fun c hc => ?_, by decide⟩
    have hlow : ∀ c : Fin 16, defaultProfile.channelMask.getLsbD c.val = true → c.val / 4 = 0 := by decide
    rw [hlow c hc]
    exact Nat.succ_pos _
  have hcopies (p : Fin 4) : s.profiles[p] = { staged := defaultProfile, pend := none, active := defaultProfile } := by
    rw [h.profiles]
    exact Vector.getElem_replicate p.isLt
  have hslots : slotFrames s = [] := by
    unfold slotFrames
    rw [h.row, h.stream]
    rfl
  refine ⟨fun p => ?_, by rw [hslots]; exact nofun, by rw [h.records]; exact nofun⟩
  rw [hcopies]
  exact ⟨hlimits, nofun, hsound⟩

theorem JustReset.commitInv : CommitInv s := by
  have hpend (p : Fin 4) : s.profiles[p].pend = none := by
    rw [h.profiles]
    exact congrArg ProfileCopies.pend (Vector.getElem_replicate p.isLt)
  unfold CommitInv pendingNaming pendingCarrying
  rw [h.commits, h.schedule]
  exact ⟨List.nodup_nil, nofun, List.Pairwise.nil, nofun, fun p => by rw [hpend]; rfl, rfl⟩

theorem JustReset.scheduleInv : ScheduleInv s := by
  unfold ScheduleInv
  rw [h.schedule]
  decide

theorem JustReset.portInv : PortInv s := by
  intro p
  obtain ⟨x, hport, haligning, hoff⟩ := h.ports p
  rw [hport]
  exact ⟨⟨Nat.succ_pos 7, Nat.succ_pos 7, Nat.zero_le _, Nat.zero_le _, Nat.zero_le _, fun _ => rfl, fun _ => ⟨rfl, rfl⟩⟩,
    fun _ hx => absurd hx haligning, fun hp => by rw [hoff hp], fun _ => rfl, fun _ => nofun⟩

theorem JustReset.sourceInv : SourceInv s := by
  refine ⟨fun c => ?_, by rw [h.row]; exact nofun⟩
  have hchannel : s.channels[c] = resetChannel := by
    rw [h.channels]
    exact Vector.getElem_replicate c.isLt
  rw [hchannel]
  decide

theorem JustReset.trimInv : TrimInv s := by
  obtain ⟨hprogram, hload⟩ := h.trim
  refine ⟨h.slots, fun hne => absurd h.device.1 hne, ?_, ?_, fun _ => ⟨hprogram, hload⟩⟩
  · unfold ProgramShape
    rw [hprogram]
    exact ⟨nofun, nofun, nofun⟩
  · unfold LoadShape
    rw [hload]
    exact ⟨nofun, nofun⟩

theorem JustReset.entriesInv : EntriesInv s := by
  have hnone (w : LongWork) : underWay s w = 0 := by
    unfold underWay
    rw [h.requests]
    rfl
  obtain ⟨hprogram, hload⟩ := h.trim
  refine ⟨fun _ => ⟨?_, fun p => ?_, ?_, ?_, ?_⟩, by rw [h.requests]; exact nofun⟩
  · rw [hnone, h.stream]
    rfl
  · obtain ⟨x, hport, haligning, -⟩ := h.ports p
    rw [hnone, hport]
    exact (if_neg haligning).symm
  · rw [hnone, hprogram]
    rfl
  · rw [hnone, hload]
    rfl
  · rw [hnone, h.buffers]
    rfl

theorem JustReset.ringInv : RingInv s := by
  obtain ⟨hrq, hbf, hcp, hread⟩ := h.tails
  refine ⟨fun hd => absurd (hd.symm.trans h.device.1) nofun, fun _ => ?_, ?_⟩
  · refine ⟨h.commits, h.row, h.coder, h.records, h.buffers, h.requests, h.completions, h.profiles, h.schedule,
      h.channels, fun p => ?_, hrq, hbf, hcp⟩
    obtain ⟨x, hport, haligning, -⟩ := h.ports p
    rw [hport]
    exact haligning
  · rw [hread, h.device.1]
    decide

theorem JustReset.causeInv : CauseInv s := by
  obtain ⟨hdevice, hcause, hdetail⟩ := h.device
  exact ⟨fun hd => absurd (hd.symm.trans hdevice) nofun, fun hd => absurd (hd.symm.trans hdevice) nofun,
    fun _ => ⟨hcause, hdetail⟩⟩

theorem JustReset.noticeInv : NoticeInv s :=
  ⟨fun hd => absurd (hd.symm.trans h.device.1) nofun, fun hd => absurd (hd.symm.trans h.device.1) nofun⟩

end

/-- A function reset brings the machine into INIT (R179). -/
theorem functionReset_justReset {s : State} (hports : PortInv s) (hslots : ∀ k : Fin 8, SlotShape s.trim.slots[k]) :
    JustReset (functionReset s) where
  device := ⟨rfl, rfl, rfl⟩
  tails := ⟨rfl, rfl, rfl, rfl⟩
  stream := rfl
  profiles := rfl
  commits := rfl
  schedule := rfl
  ports p := by
    refine ⟨portAfterReset s.ports[p].state, Vector.getElem_ofFn p.isLt, ?_, fun hp => ?_⟩
    · cases s.ports[p].state <;> nofun
    · obtain ⟨-, -, hoff, -⟩ := hports p
      rw [hoff hp]
      rfl
  channels := rfl
  row := rfl
  slots := hslots
  trim := ⟨rfl, rfl⟩
  coder := rfl
  records := rfl
  buffers := rfl
  requests := rfl
  completions := rfl

/-- Power-on reset brings the machine into INIT (R179). -/
theorem powerOnReset_justReset {s t : State} {straps : BitVec 2} (hslots : ∀ k : Fin 8, SlotShape s.trim.slots[k])
    (h : execPowerOnReset straps s = .next t) : JustReset t := by
  obtain rfl := Host.Outcome.next.inj h
  exact {
    device := ⟨rfl, rfl, rfl⟩
    tails := ⟨rfl, rfl, rfl, rfl⟩
    stream := rfl
    profiles := rfl
    commits := rfl
    schedule := rfl
    ports := fun p => ⟨.off, Vector.getElem_replicate p.isLt, nofun, fun _ => rfl⟩
    channels := rfl
    row := rfl
    slots := hslots
    trim := ⟨rfl, rfl⟩
    coder := rfl
    records := rfl
    buffers := rfl
    requests := rfl
    completions := rfl }

/-- A reset of every block brings the machine into INIT and keeps the trim store (R99, R179). -/
theorem justReset_of_exec {c : Instr} {s t : State} (hinv : Inv s) (hreset : isReset c = true)
    (h : exec c s = .next t) : JustReset t ∧ t.trim.slots = s.trim.slots := by
  obtain ⟨-, -, -, -, -, hports, -, -, -, ⟨hslots, -⟩, -⟩ := hinv
  cases c with
  | powerOnReset straps =>
    refine ⟨powerOnReset_justReset hslots h, ?_⟩
    obtain rfl := Host.Outcome.next.inj h
    rfl
  | reset =>
    obtain rfl := Host.Outcome.next.inj h
    exact ⟨functionReset_justReset hports hslots, rfl⟩
  | registerWrite offset size value =>
    simp only [isReset, Bool.and_eq_true, beq_iff_eq] at hreset
    obtain ⟨⟨rfl, rfl⟩, hbit⟩ := hreset
    have hreset' : exec (.registerWrite 8 4 value) s = .next (functionReset s) := by
      rw [exec_write_control, writeControl_of_reset s hbit]
    obtain rfl := Host.Outcome.next.inj (hreset'.symm.trans h)
    exact ⟨functionReset_justReset hports hslots, rfl⟩
  | _ => cases hreset

end Sys2Proof.Laws
end

/-! ### Fatal faults -/

section
set_option Elab.async false
namespace Sys2Proof.Laws

open Sys2Proof Sys2Proof.Machine Sys2Proof.Safety

/-- A fatal fault brings s into HALTED at t, the command having changed only the named parts before it (R181). -/
def HaltsAt (w : List Part) (s t : State) : Prop :=
  ∃ u cause detail, FatalCause cause ∧ ChangesOnly w s u ∧ t = enterHalted u cause detail

theorem HaltsAt.mono {w w' : List Part} {s t : State} (h : HaltsAt w s t)
    (hw : ∀ p ∈ w, p ∈ w' := by decide) : HaltsAt w' s t := by
  obtain ⟨u, cause, detail, hcause, hu, ht⟩ := h
  exact ⟨u, cause, detail, hcause, hu.mono hw, ht⟩

theorem HaltsAt.after {w : List Part} {s u t : State} (hu : ChangesOnly w s u) (h : HaltsAt w u t) :
    HaltsAt w s t := by
  obtain ⟨v, cause, detail, hcause, hv, ht⟩ := h
  exact ⟨v, cause, detail, hcause, hu.trans hv, ht⟩

/-- What a command may have changed when its fatal fault is found. -/
abbrev beforeHaltParts : List Part :=
  [.requests, .fetching, .posting, .current, .holding, .entries, .stopWork, .row]

section
variable {s : State} (hdev : s.window.device = .enabled)
include hdev

theorem writeRqTail_running (v : Word) : HaltsAt [] s (writeRqTail s v) ∨ ChangesOnly [.rqTail] s (writeRqTail s v) := by
  have henabled : (!isEnabled s) = false := by rw [(isEnabled_iff s).2 hdev]; rfl
  unfold writeRqTail
  rw [henabled, if_neg Bool.false_ne_true]
  split
  · exact .inl ⟨s, _, _, .inl rfl, .refl _ s, rfl⟩
  · refine .inr (.of_parts fun p => ?_)
    cases p with
    | rqTail => exact .inl (by decide)
    | _ => exact .inr rfl

theorem writeBfTail_running (v : Word) : HaltsAt [] s (writeBfTail s v) ∨ ChangesOnly [.bfTail] s (writeBfTail s v) := by
  have henabled : (!isEnabled s) = false := by rw [(isEnabled_iff s).2 hdev]; rfl
  unfold writeBfTail
  rw [henabled, if_neg Bool.false_ne_true]
  split
  · exact .inl ⟨s, _, _, .inl rfl, .refl _ s, rfl⟩
  · refine .inr (.of_parts fun p => ?_)
    cases p with
    | bfTail => exact .inl (by decide)
    | _ => exact .inr rfl

theorem writeCpHead_running (v : Word) :
    HaltsAt [] s (writeCpHead s v) ∨ ChangesOnly [.cpHead, .notice] s (writeCpHead s v) := by
  have henabled : (!isEnabled s) = false := by rw [(isEnabled_iff s).2 hdev]; rfl
  have hconsumed : ChangesOnly [.cpHead] s { s with window := { s.window with cpHead := v } } :=
    .of_parts fun p => by
      cases p with
      | cpHead => exact .inl (by decide)
      | _ => exact .inr rfl
  unfold writeCpHead
  rw [henabled, if_neg Bool.false_ne_true]
  split
  · exact .inl ⟨s, _, _, .inl rfl, .refl _ s, rfl⟩
  · exact .inr (hconsumed.then (noticeAtConsumption_changes _ _))

theorem enableAction_of_enabled : enableAction s = s := if_neg (by rw [hdev]; nofun)

/-- What a write of the register window is in ENABLED, but for a reset (R176). -/
theorem execRegisterWrite_of_enabled {offset size : Nat} {value : Word} {t : State}
    (hreset : isReset (.registerWrite offset size value) = false)
    (h : execRegisterWrite offset size value s = .next t) :
    ChangesOnly [.setupRegisters] s t ∨ t = writeRqTail s value ∨ t = writeBfTail s value ∨
      t = writeCpHead s value := by
  have hregisters (lo hi : Word) : ChangesOnly [.setupRegisters] s
      { s with window := { s.window with setupLo := lo, setupHi := hi } } :=
    .of_parts fun p => by
      cases p with
      | setupRegisters => exact .inl (by decide)
      | _ => exact .inr rfl
  unfold execRegisterWrite at h
  split at h
  · obtain rfl := Host.Outcome.next.inj h
    exact .inl (.refl _ _)
  · rename_i hsize
    split at h <;> obtain rfl := Host.Outcome.next.inj h
    · have hbit : ¬ value.getLsbD 1 = true := by
        have hsize' : size = 4 := by simpa using hsize
        simpa [isReset, hsize'] using hreset
      unfold writeControl
      rw [if_neg hbit, enableAction_of_enabled hdev, ite_self]
      exact .inl (.refl _ s)
    · exact .inl (hregisters value s.window.setupHi)
    · exact .inl (hregisters s.window.setupLo value)
    · exact .inr (.inl rfl)
    · exact .inr (.inr (.inl rfl))
    · exact .inr (.inr (.inr rfl))
    · exact .inl (.refl _ s)

theorem execRegisterWrite_running {offset size : Nat} {value : Word} {t : State}
    (hreset : isReset (.registerWrite offset size value) = false)
    (h : execRegisterWrite offset size value s = .next t) :
    HaltsAt [] s t ∨ ChangesOnly [.setupRegisters, .rqTail, .bfTail, .cpHead, .notice] s t := by
  rcases execRegisterWrite_of_enabled hdev hreset h with hkept | rfl | rfl | rfl
  · exact .inr hkept.mono
  · exact (writeRqTail_running hdev value).imp_right fun hkept => hkept.mono
  · exact (writeBfTail_running hdev value).imp_right fun hkept => hkept.mono
  · exact (writeCpHead_running hdev value).imp_right fun hkept => hkept.mono

theorem execSetupBlockReadDone_of_enabled (a : ReadAnswer 512) : execSetupBlockReadDone a s = .next s := by
  unfold execSetupBlockReadDone
  rw [hdev]
  cases a.tracked <;> rfl

theorem execEndOfInit_of_enabled : execEndOfInit s = .next s := if_neg (by rw [hdev]; nofun)

end

theorem enterHalted_isEnabled (s : State) (c : Cause) (d : BitVec 4) : isEnabled (enterHalted s c d) = false := rfl

theorem reportDropped_cases (s : State) (f : SlotFrame) :
    ChangesOnly [.holding] s (reportDropped s f) ∨ reportDropped s f = enterHalted s .dropOverflow 0 := by
  cases f with
  | buffered q ref b => exact .inl (.refl _ s)
  | dropped q p b reason => exact dropReport_changes s q reason

theorem fatalCause_dropOverflow : FatalCause .dropOverflow := .inr (.inr (.inr (.inr rfl)))

/-- A part outside those named is the same. -/
theorem ChangesOnly.samePart {w : List Part} {s t : State} (h : ChangesOnly w s t) (p : Part)
    (hp : w.contains p = false := by rfl) : SamePart p s t :=
  h p fun hmem => by simp [hmem] at hp

theorem freeCurrent_changes (s : State) :
    ChangesOnly [.current] s { s with stream := { s.stream with current := none } } :=
  .of_parts fun p => by
    cases p with
    | current => exact .inl (by decide)
    | _ => exact .inr rfl

theorem setStreamState_changes (s : State) (state : StreamState) :
    ChangesOnly [.streamState] s { s with stream := ceaseRows s.stream state } :=
  .of_parts fun p => by
    cases p with
    | streamState => exact .inl (by decide)
    | _ => exact .inr rfl

/-- The frame end goes on with the stream, or a drop report halts it (R2, R170). -/
theorem frameEnd_cases (s : State) (f : SlotFrame) :
    HaltsAt [.current] s (frameEnd s f) ∨
      ChangesOnly ([.holding, .entries, .stopWork] ++ beginParts) s (frameEnd s f) := by
  unfold frameEnd
  dsimp only
  rcases reportDropped_cases { s with stream := { s.stream with current := none } } f with hkept | hhalt
  · refine .inr ?_
    have hreleased : ChangesOnly ([.holding, .entries, .stopWork] ++ beginParts) s
        (reportDropped { s with stream := { s.stream with current := none } } f) :=
      (freeCurrent_changes s).then hkept
    generalize reportDropped { s with stream := { s.stream with current := none } } f = u at hreleased
    split
    · split
      · exact hreleased.then (beginRow0_changes u)
      · exact hreleased.then (setStreamState_changes u .waiting)
      · exact hreleased.then (endRun_changes u)
      · exact hreleased
    · exact hreleased
  · rw [hhalt, enterHalted_isEnabled, if_neg Bool.false_ne_true]
    exact .inl ⟨_, _, _, fatalCause_dropOverflow, freeCurrent_changes s, rfl⟩

/-- What the end of a row or of a frame may change where no drop report halts the device. -/
abbrev rowRunParts : List Part := setupParts ++ ([.holding, .entries, .stopWork] ++ beginParts)

theorem execRowEnd_running {s t : State} (h : execRowEnd s = .next t) :
    HaltsAt [.current] s t ∨ ChangesOnly rowRunParts s t := by
  unfold execRowEnd at h
  split at h
  · obtain rfl := Host.Outcome.next.inj h
    exact .inr (.refl _ _)
  · split at h <;> obtain rfl := Host.Outcome.next.inj h
    · exact .inr (beginRow_changes s _ _).mono
    · exact (frameEnd_cases s _).imp_right fun hkept => hkept.mono

/-- The parts that a STOP ABORT may have changed before its drop report. -/
abbrev beforeAbortParts : List Part := [.requests, .holding, .entries, .stopWork, .row]

theorem abortCurrent_cases (s : State) :
    ChangesOnly [.coder, .records, .holding] s (abortCurrent s) ∨
      abortCurrent s = enterHalted s .dropOverflow 0 := by
  unfold abortCurrent
  split
  · exact .inl (.ite ((addDamage_changes s _ _).then (endCapture_changes _ _)) (.refl _ s))
  · exact (dropReport_changes s _ _).imp_left fun h => h.mono
  · exact .inl (.refl _ s)

theorem ceaseMark_changes (s : State) :
    ChangesOnly [.row] s { s with stream := { s.stream with frameMark := false }, row := none } :=
  .of_parts fun p => by
    cases p with
    | row => exact .inl (by decide)
    | _ => exact .inr rfl

/-- The parts that a STOP ABORT may change in ENABLED. -/
abbrev endedRunParts : List Part :=
  [.requests, .holding, .entries, .stopWork, .row, .coder, .records, .current, .next, .setUp, .streamState]

theorem stopStream_changes (s : State) (m : Option Nat) : ChangesOnly [.streamState] s
    { s with stream := { s.stream with state := .stopped, missed := 0, maintenance := m } } :=
  .of_parts fun p => by
    cases p with
    | streamState => exact .inl (by decide)
    | _ => exact .inr rfl

theorem abortRun_cases (s : State) :
    HaltsAt beforeAbortParts s (abortRun s) ∨ ChangesOnly endedRunParts s (abortRun s) := by
  unfold abortRun
  by_cases hstopped : s.stream.state = .stopped
  · rw [if_pos hstopped]
    exact .inr (.refl _ s)
  · rw [if_neg hstopped]
    dsimp only
    have hmarked : ChangesOnly beforeAbortParts s { completeStopEnd s with
        stream := { (completeStopEnd s).stream with frameMark := false }, row := none } :=
      (completeStopEnd_changes s).then (ceaseMark_changes _)
    generalize ({ completeStopEnd s with
        stream := { (completeStopEnd s).stream with frameMark := false }, row := none } : State) = u at hmarked
    rcases abortCurrent_cases u with hkept | hhalt
    · have hended : ChangesOnly endedRunParts s (abortCurrent u) := hmarked.then hkept
      generalize abortCurrent u = v at hended
      refine .inr (.ite ?_ hended)
      exact ((hended.then (w'' := endedRunParts) (freeCurrent_changes v)).then (w'' := endedRunParts)
        (cancelSetUp_changes _)).then (stopStream_changes _ _)
    · rw [hhalt, enterHalted_isEnabled, if_neg Bool.false_ne_true]
      exact .inl ⟨_, _, _, fatalCause_dropOverflow, hmarked, rfl⟩

theorem execStopAbort_running {s t : State} (h : execStopAbort s = .next t) :
    HaltsAt beforeAbortParts s t ∨ ChangesOnly endedRunParts s t := by
  unfold execStopAbort at h
  split at h <;> obtain rfl := Host.Outcome.next.inj h
  · exact .inr (.refl _ _)
  · rename_i r taken htaken
    obtain ⟨rest, -, -, -, rfl⟩ := (takeImmediate_eq_some_iff s _ r taken).1 htaken
    have hanswered : ChangesOnly [.requests, .holding] s
        (answerImmediate r (useFree (advanceHead s rest)) (freeAnswer (advanceHead s rest) .ok)) :=
      ((advanceHead_changes s rest).then (w'' := [.requests, .holding]) (useFree_changes _)).then
        (place_changes_of_no_tag _ rfl)
    exact (abortRun_cases _).imp (fun hhalt => .after hanswered.mono hhalt) fun hkept => hanswered.then hkept

theorem execRequestFetchDone_running {a : ReadAnswer 512} {s t : State} (h : execRequestFetchDone a s = .next t) :
    HaltsAt [.requests] s t ∨ ChangesOnly [.requests] s t := by
  have hanswered (fetch : Option Addr) (intake : List Record) : ChangesOnly [.requests] s
      { s with requests := { s.requests with fetch := fetch, intake := intake } } :=
    .of_parts fun p => by
      cases p with
      | requests => exact .inl (by decide)
      | _ => exact .inr rfl
  unfold execRequestFetchDone at h
  split at h
  · dsimp only at h
    split at h <;> obtain rfl := Host.Outcome.next.inj h
    · exact .inl ⟨_, _, _, .inr (.inr (.inl rfl)), hanswered none s.requests.intake, rfl⟩
    · exact .inr (hanswered none _)
  · obtain rfl := Host.Outcome.next.inj h
    exact .inr (.refl _ _)

theorem execDescriptorFetchDone_running {a : ReadAnswer 128} {s t : State}
    (h : execDescriptorFetchDone a s = .next t) :
    HaltsAt [.fetching] s t ∨ ChangesOnly [.fetching, .descriptors, .entries, .reclaimWork] s t := by
  unfold execDescriptorFetchDone at h
  split at h
  · split at h <;> obtain rfl := Host.Outcome.next.inj h
    · exact .inl ⟨_, _, _, .inr (.inl rfl), setBuffers_changes_of_list s (by rfl) (by rfl), rfl⟩
    · exact .inr ((setBuffers_changes s _).then (finishReclaim_changes _))
  · obtain rfl := Host.Outcome.next.inj h
    exact .inr (.refl _ _)

theorem postHead_changes (s : State) : ChangesOnly [.posting, .holding, .returnTags] s (postHead s) :=
  .of_parts fun p => by
    cases p with
    | posting | holding | returnTags => exact .inl (by decide)
    | _ => exact .inr rfl

theorem execCompletionWriteDone_running {a : WriteAnswer} {s t : State}
    (h : execCompletionWriteDone a s = .next t) :
    HaltsAt [.posting] s t ∨ ChangesOnly [.posting, .holding, .returnTags, .notice] s t := by
  unfold execCompletionWriteDone at h
  split at h
  · dsimp only at h
    split at h <;> obtain rfl := Host.Outcome.next.inj h
    · exact .inl ⟨_, _, _, .inr (.inr (.inr (.inl rfl))), setPosting_changes s (by rfl) (by rfl), rfl⟩
    · exact .inr ((postHead_changes s).then (noticeAtPosting_changes _ _))
  · obtain rfl := Host.Outcome.next.inj h
    exact .inr (.refl _ _)

/-- The parts that a command may change in ENABLED where it does not halt the device. -/
def runningParts : Instr → List Part
  | .enable => []
  | .setupBlockReadDone _ => []
  | .endOfInit => []
  | .registerWrite _ _ _ => [.setupRegisters, .rqTail, .bfTail, .cpHead, .notice]
  | .rqTailWrite _ => [.rqTail]
  | .bfTailWrite _ => [.bfTail]
  | .cpHeadWrite _ => [.cpHead, .notice]
  | .rowEnd => rowRunParts
  | .stopAbort => endedRunParts
  | .requestFetchDone _ => [.requests]
  | .descriptorFetchDone _ => [.fetching, .descriptors, .entries, .reclaimWork]
  | .completionWriteDone _ => [.posting, .holding, .returnTags, .notice]
  | c => commandParts c

/-- A command in ENABLED halts the device by a fatal fault, or changes its running parts only. -/
theorem exec_running {c : Instr} {s t : State} (hdev : s.window.device = .enabled) (hreset : isReset c = false)
    (h : exec c s = .next t) : HaltsAt beforeHaltParts s t ∨ ChangesOnly (runningParts c) s t := by
  cases c with
  | enable =>
    obtain rfl := Host.Outcome.next.inj h
    rw [enableAction_of_enabled hdev]
    exact .inr (.refl _ s)
  | setupBlockReadDone a =>
    obtain rfl := Host.Outcome.next.inj ((execSetupBlockReadDone_of_enabled hdev a).symm.trans h)
    exact .inr (.refl _ _)
  | endOfInit =>
    obtain rfl := Host.Outcome.next.inj ((execEndOfInit_of_enabled hdev).symm.trans h)
    exact .inr (.refl _ _)
  | registerWrite offset size value => exact (execRegisterWrite_running hdev hreset h).imp_left fun hh => hh.mono
  | rqTailWrite v =>
    obtain rfl := Host.Outcome.next.inj h
    exact (writeRqTail_running hdev v).imp_left fun hh => hh.mono
  | bfTailWrite v =>
    obtain rfl := Host.Outcome.next.inj h
    exact (writeBfTail_running hdev v).imp_left fun hh => hh.mono
  | cpHeadWrite v =>
    obtain rfl := Host.Outcome.next.inj h
    exact (writeCpHead_running hdev v).imp_left fun hh => hh.mono
  | rowEnd => exact (execRowEnd_running h).imp_left fun hh => hh.mono
  | stopAbort => exact (execStopAbort_running h).imp_left fun hh => hh.mono
  | requestFetchDone a => exact (execRequestFetchDone_running h).imp_left fun hh => hh.mono
  | descriptorFetchDone a => exact (execDescriptorFetchDone_running h).imp_left fun hh => hh.mono
  | completionWriteDone a => exact (execCompletionWriteDone_running h).imp_left fun hh => hh.mono
  | powerOnReset straps => cases hreset
  | reset => cases hreset
  | _ => exact .inr (exec_changes hreset h)

/-- A command that leaves the device ENABLED changes its running parts only. -/
theorem exec_stays {c : Instr} {s t : State} (hdev : s.window.device = .enabled) (hreset : isReset c = false)
    (h : exec c s = .next t) (hstay : t.window.device = .enabled) : ChangesOnly (runningParts c) s t := by
  rcases exec_running hdev hreset h with ⟨u, cause, detail, -, -, rfl⟩ | hkept
  · cases hstay
  · exact hkept

end Sys2Proof.Laws
end

/-! ### The holding queue -/

section
set_option Elab.async false
namespace Sys2Proof.Laws

open Sys2Proof Sys2Proof.Machine Sys2Proof.Safety

/-- The queue has grown at its tail, within its 8 entries (R165). -/
def QueueGrows (s t : State) : Prop :=
  (∃ l, t.completions.holding = s.completions.holding ++ l) ∧
    (s.completions.holding.length ≤ 8 → t.completions.holding.length ≤ 8)

theorem QueueGrows.trans {s t u : State} (h : QueueGrows s t) (h' : QueueGrows t u) : QueueGrows s u := by
  obtain ⟨⟨l, hl⟩, hlen⟩ := h
  obtain ⟨⟨l', hl'⟩, hlen'⟩ := h'
  exact ⟨⟨l ++ l', by rw [hl', hl, List.append_assoc]⟩, fun hs => hlen' (hlen hs)⟩

theorem SamePart.queueGrows {s t : State} (h : SamePart .holding s t) : QueueGrows s t :=
  ⟨⟨[], by rw [List.append_nil]; exact h⟩, fun hs => by rw [h]; exact hs⟩

theorem place_queueGrows {s : State} (c : Completion) (h : s.completions.holding.length < 8) :
    QueueGrows s (place s c) :=
  ⟨⟨[c], rfl⟩, fun _ => by
    rw [place_completions, List.length_append]
    exact h⟩

theorem holding_lt_of_grant {s : State} {w : Waiter} (h : grant s = some w) : s.completions.holding.length < 8 :=
  ((grant_eq_some_iff s w).1 h).1.2

/-- A grant's completion is placed in the entry that it found free, after a change elsewhere (R169). -/
theorem place_queueGrows_of_grant {s u : State} {w : Waiter} (hgrant : grant s = some w) (c : Completion)
    (hu : SamePart .holding s u) : QueueGrows s (place u c) := by
  refine hu.queueGrows.trans (place_queueGrows _ ?_)
  rw [hu]
  exact holding_lt_of_grant hgrant

/-- An immediate request's answer is placed in the entry granted for its taking (R152). -/
theorem ImmediateTaken.queueGrows {w : List Part} {s t : State} (h : ImmediateTaken w s t)
    (hw : w.contains .holding = false) : QueueGrows s t := by
  obtain ⟨r, rest, u, a, -, hgrant, hu, rfl⟩ := h
  have hsame : SamePart .holding s u := hu.samePart .holding hw
  refine hsame.queueGrows.trans (place_queueGrows _ ?_)
  rw [hsame]
  exact holding_lt_of_grant hgrant

theorem runImmediate_queueGrows {w : List Part} {s t : State} {test : Record → Bool}
    {owner : Record → State → State × Answer} (howner : ∀ r u, ChangesOnly w u (owner r u).1)
    (h : runImmediate s test owner = .next t) (hw : w.contains .holding = false := by rfl) : QueueGrows s t := by
  rcases runImmediate_taken howner h with rfl | htaken
  · exact (SamePart.refl .holding t).queueGrows
  · exact htaken.queueGrows hw

/-- A drop report takes a free entry, or none (R142). -/
theorem dropReport_queueGrows (s : State) (q : Word) (reason : DropReason) :
    QueueGrows s (dropReport s q reason) := by
  rcases dropReport_cases s q reason with ⟨-, hfound, h⟩ | ⟨-, h⟩ | ⟨-, h⟩ <;> rw [h]
  · exact place_queueGrows _ (entryFound_spec hfound).1
  · exact ((enterHalted_changes s _ _).samePart .holding).queueGrows
  · exact SamePart.queueGrows rfl

theorem frameEnd_queueGrows (s : State) (f : SlotFrame) : QueueGrows s (frameEnd s f) := by
  have hreleased : QueueGrows s (reportDropped { s with stream := { s.stream with current := none } } f) := by
    refine (SamePart.queueGrows (t := { s with stream := { s.stream with current := none } }) rfl).trans ?_
    cases f with
    | buffered q ref b => exact SamePart.queueGrows rfl
    | dropped q p b reason => exact dropReport_queueGrows _ q reason
  unfold frameEnd
  dsimp only
  generalize reportDropped { s with stream := { s.stream with current := none } } f = u at hreleased
  refine hreleased.trans ?_
  split
  · split
    · exact ((beginRow0_changes u).samePart .holding).queueGrows
    · exact SamePart.queueGrows rfl
    · exact ((endRun_changes u).samePart .holding).queueGrows
    · exact SamePart.queueGrows rfl
  · exact SamePart.queueGrows rfl

theorem execRowEnd_queueGrows {s t : State} (h : execRowEnd s = .next t) : QueueGrows s t := by
  unfold execRowEnd at h
  split at h
  · obtain rfl := Host.Outcome.next.inj h
    exact SamePart.queueGrows rfl
  · split at h <;> obtain rfl := Host.Outcome.next.inj h
    · exact ((beginRow_changes s _ _).samePart .holding).queueGrows
    · exact frameEnd_queueGrows s _

theorem abortCurrent_queueGrows (s : State) : QueueGrows s (abortCurrent s) := by
  unfold abortCurrent
  split
  · have habort (ref : Nat) : ChangesOnly [.coder, .records] s (abortRecord s ref) :=
      .ite ((addDamage_changes s _ _).then (endCapture_changes _ _)) (.refl _ s)
    exact ((habort _).samePart .holding).queueGrows
  · exact dropReport_queueGrows s _ _
  · exact SamePart.queueGrows rfl

theorem abortRun_queueGrows (s : State) : QueueGrows s (abortRun s) := by
  unfold abortRun
  split
  · exact SamePart.queueGrows rfl
  · dsimp only
    have hmark : SamePart .holding s { completeStopEnd s with
        stream := { (completeStopEnd s).stream with frameMark := false }, row := none } :=
      (completeStopEnd_changes s).samePart .holding
    generalize ({ completeStopEnd s with
        stream := { (completeStopEnd s).stream with frameMark := false }, row := none } : State) = u at hmark
    refine (hmark.queueGrows.trans (abortCurrent_queueGrows u)).trans ?_
    generalize abortCurrent u = v
    split
    · have hcancelled : SamePart .holding v
          (cancelSetUp { v with stream := { v.stream with current := none } }) :=
        SamePart.trans (t := { v with stream := { v.stream with current := none } }) rfl
          ((cancelSetUp_changes _).samePart .holding)
      exact SamePart.queueGrows hcancelled
    · exact SamePart.queueGrows rfl

theorem execStopAbort_queueGrows {s t : State} (h : execStopAbort s = .next t) : QueueGrows s t := by
  unfold execStopAbort at h
  split at h <;> obtain rfl := Host.Outcome.next.inj h
  · exact SamePart.queueGrows rfl
  · rename_i r taken htaken
    obtain ⟨rest, -, -, hgrant, rfl⟩ := (takeImmediate_eq_some_iff s _ r taken).1 htaken
    have hanswered : QueueGrows s
        (answerImmediate r (useFree (advanceHead s rest)) (freeAnswer (advanceHead s rest) .ok)) :=
      place_queueGrows_of_grant hgrant _ rfl
    exact hanswered.trans (abortRun_queueGrows _)

theorem execStopEnd_queueGrows {s t : State} (h : execStopEnd s = .next t) : QueueGrows s t := by
  unfold execStopEnd at h
  split at h
  · refine SamePart.queueGrows ?_
    exact (runLong_changes (w' := [.requests, .entries, .entryCount, .stopWork] ++ stopParts) stopEndLongOwner_long h
      (by decide)).samePart .holding
  · exact runImmediate_queueGrows stopEndImmediateOwner_changes h

/-- Every command but a reset and the posting of the queue's head leaves the queue or adds at its tail, within its 8
entries (R165). -/
theorem exec_queueGrows {c : Instr} {s t : State} (hreset : isReset c = false)
    (hpost : ∀ a, c ≠ .completionWriteDone a) (h : exec c s = .next t) : QueueGrows s t := by
  cases c with
  | powerOnReset straps => cases hreset
  | reset => cases hreset
  | completionWriteDone a => exact absurd rfl (hpost a)
  | badKind => exact runImmediate_queueGrows (w := []) (fun _ u => .refl _ u) h
  | badFlags => exact runImmediate_queueGrows (w := []) (fun _ u => .refl _ u) h
  | stage => exact runImmediate_queueGrows stageOwner_changes h
  | stageSchedule => exact runImmediate_queueGrows stageScheduleOwner_changes h
  | commit => exact runImmediate_queueGrows commitOwner_changes h
  | withdraw => exact runImmediate_queueGrows withdrawOwner_changes h
  | start => exact runImmediate_queueGrows startOwner_changes h
  | setChannel => exact runImmediate_queueGrows setChannelOwner_changes h
  | stopEnd => exact execStopEnd_queueGrows h
  | stopAbort => exact execStopAbort_queueGrows h
  | rowEnd => exact execRowEnd_queueGrows h
  | frameReportGrant =>
    change execFrameReportGrant s = _ at h
    unfold execFrameReportGrant at h
    split at h <;> obtain rfl := Host.Outcome.next.inj h
    · exact place_queueGrows_of_grant ‹_› _ rfl
    · exact SamePart.queueGrows rfl
  | commitLanded =>
    change execCommitLanded s = _ at h
    unfold execCommitLanded at h
    split at h <;> obtain rfl := Host.Outcome.next.inj h
    · exact place_queueGrows_of_grant ‹_› _ rfl
    · exact SamePart.queueGrows rfl
  | portEvent =>
    change execPortEvent s = _ at h
    unfold execPortEvent at h
    split at h <;> obtain rfl := Host.Outcome.next.inj h
    · exact place_queueGrows_of_grant ‹_› _ rfl
    · exact SamePart.queueGrows rfl
  | rejectedReturn =>
    change execRejectedReturn s = _ at h
    unfold execRejectedReturn at h
    split at h <;> obtain rfl := Host.Outcome.next.inj h
    · exact place_queueGrows_of_grant ‹_› _ rfl
    · exact SamePart.queueGrows rfl
  | dropSummaryGrant =>
    change execDropSummaryGrant s = _ at h
    unfold execDropSummaryGrant at h
    split at h <;> obtain rfl := Host.Outcome.next.inj h
    · exact place_queueGrows_of_grant ‹_› _ rfl
    · exact SamePart.queueGrows rfl
  | reclaimedReturn =>
    change execReclaimedReturn s = _ at h
    unfold execReclaimedReturn at h
    split at h
    · split at h <;> obtain rfl := Host.Outcome.next.inj h
      · exact QueueGrows.trans (place_queueGrows_of_grant ‹_› _ rfl)
          ((finishReclaim_changes _).samePart .holding).queueGrows
      · exact SamePart.queueGrows rfl
    · obtain rfl := Host.Outcome.next.inj h
      exact SamePart.queueGrows rfl
  | longRequestDone =>
    change execLongRequestDone s = _ at h
    unfold execLongRequestDone at h
    split at h
    · split at h
      · split at h <;> obtain rfl := Host.Outcome.next.inj h
        · exact place_queueGrows_of_grant ‹_› _ rfl
        · exact SamePart.queueGrows rfl
      · obtain rfl := Host.Outcome.next.inj h
        exact SamePart.queueGrows rfl
    · obtain rfl := Host.Outcome.next.inj h
      exact SamePart.queueGrows rfl
  | _ => exact (exec_samePart hreset h .holding rfl).queueGrows

end Sys2Proof.Laws
end

/-! ### The request ring and the intake -/

section
set_option Elab.async false
namespace Sys2Proof.Laws

open Sys2Proof Sys2Proof.Machine Sys2Proof.Safety

/-! #### Distances in a ring -/

theorem ringDist_eq {n a b : Nat} (ha : a < n) (hb : b < n) :
    ringDist n a b = if b ≤ a then a - b else a + n - b := by
  unfold ringDist
  rw [Nat.mod_eq_of_lt hb]
  split
  · rw [show a + (n - b) = (a - b) + n by omega, Nat.add_mod_right, Nat.mod_eq_of_lt (by omega)]
  · rw [Nat.mod_eq_of_lt (by omega)]
    omega

/-- One step of the nearer index takes one off the distance. -/
theorem ringDist_ringNext_right {n a b : Nat} (ha : a < n) (hb : b < n) (hpos : 0 < ringDist n a b) :
    ringDist n a (ringNext n b) + 1 = ringDist n a b := by
  rw [ringDist_eq ha hb] at hpos ⊢
  rw [ringDist_eq ha (ringNext_lt (by omega))]
  unfold ringNext
  split_ifs at hpos ⊢ <;> omega

/-- One step of the further index adds one to the distance, where there is room. -/
theorem ringDist_ringNext_left {n a b : Nat} (ha : a < n) (hb : b < n) (hroom : ringDist n a b + 1 < n) :
    ringDist n (ringNext n a) b = ringDist n a b + 1 := by
  rw [ringDist_eq ha hb] at hroom ⊢
  rw [ringDist_eq (ringNext_lt (by omega)) hb]
  unfold ringNext
  split_ifs at hroom ⊢ <;> omega

/-- An index between two others divides their distance. -/
theorem ringDist_add {n a b c : Nat} (ha : a < n) (hb : b < n) (hc : c < n)
    (h : ringDist n b c ≤ ringDist n a c) : ringDist n a b + ringDist n b c = ringDist n a c := by
  rw [ringDist_eq ha hc, ringDist_eq hb hc] at h
  rw [ringDist_eq ha hb, ringDist_eq ha hc, ringDist_eq hb hc]
  split_ifs at h ⊢ <;> omega

theorem ringDist_self {n a : Nat} (ha : a < n) : ringDist n a a = 0 := by
  rw [ringDist_eq ha ha, if_pos (Nat.le_refl a), Nat.sub_self]

theorem ringSize_pos {n : Nat} (h : RingSize n) : 0 < n := by
  obtain ⟨k, rfl⟩ := h
  exact Nat.mul_pos (by decide) (Nat.two_pow_pos _)

/-! #### The intake -/

/-- A record has been taken off the intake (R151). -/
def IntakeTaken (s t : State) : Prop :=
  ∃ r rest, s.requests.intake = r :: rest ∧ SamePart .requests (advanceHead s rest) t

theorem ImmediateTaken.intakeTaken {w : List Part} {s t : State} (h : ImmediateTaken w s t)
    (hw : w.contains .requests = false) : IntakeTaken s t := by
  obtain ⟨r, rest, u, a, hintake, -, hu, rfl⟩ := h
  exact ⟨r, rest, hintake, hu.samePart .requests hw⟩

theorem LongTaken.intakeTaken {w : List Part} {work : LongWork} {s t : State} (h : LongTaken w work s t)
    (hw : w.contains .requests = false) : IntakeTaken s t := by
  obtain ⟨r, rest, u, ⟨-, -, hintake⟩, hu, hentered⟩ := h
  have hsame : SamePart .requests u t := by
    rcases hentered with ⟨x, a, rfl⟩ | rfl <;> exact rfl
  exact ⟨r, rest, hintake, (hu.samePart .requests hw).trans hsame⟩

/-- The intake is as before or has lost its head (R151). -/
def IntakeKept (s t : State) : Prop := SamePart .requests s t ∨ IntakeTaken s t

theorem runImmediate_intake {w : List Part} {s t : State} {test : Record → Bool}
    {owner : Record → State → State × Answer} (howner : ∀ r u, ChangesOnly w u (owner r u).1)
    (h : runImmediate s test owner = .next t) (hw : w.contains .requests = false := by rfl) : IntakeKept s t := by
  rcases runImmediate_taken howner h with rfl | htaken
  · exact .inl rfl
  · exact .inr (htaken.intakeTaken hw)

theorem runLong_intake {w : List Part} {s t : State} {test : Record → Bool} {owner : Record → State → Taken}
    (howner : ∀ r u, ChangesOnly w u (owner r u).state) (h : runLong s test owner = .next t)
    (hw : w.contains .requests = false := by rfl) : IntakeKept s t := by
  rcases runLong_cases s test owner with ⟨-, he⟩ | ⟨r, rest, ⟨-, -, hintake⟩, -, -, he⟩ <;>
    obtain rfl := Host.Outcome.next.inj (he.symm.trans h)
  · exact .inl rfl
  · exact .inr ⟨r, rest, hintake, (howner r (advanceHead s rest)).samePart .requests hw⟩

theorem execStopAbort_intake {s t : State} (h : execStopAbort s = .next t) : IntakeKept s t := by
  unfold execStopAbort at h
  split at h <;> obtain rfl := Host.Outcome.next.inj h
  · exact .inl rfl
  · rename_i r taken htaken
    obtain ⟨rest, hintake, -, -, rfl⟩ := (takeImmediate_eq_some_iff s _ r taken).1 htaken
    refine .inr ⟨r, rest, hintake, ?_⟩
    exact (abortRun_changes (answerImmediate r (useFree (advanceHead s rest))
      (freeAnswer (advanceHead s rest) .ok))).samePart .requests

/-- The commands that issue or answer a record fetch. -/
def fetchesRecords : Instr → Bool
  | .requestFetchIssue => true
  | .requestFetchDone _ => true
  | .setupBlockReadDone _ => true
  | _ => false

/-- But for the record fetches, a command leaves the intake or takes its head (R151). -/
theorem exec_intake {c : Instr} {s t : State} (hreset : isReset c = false) (hfetch : fetchesRecords c = false)
    (h : exec c s = .next t) : IntakeKept s t := by
  cases c with
  | powerOnReset straps => cases hreset
  | reset => cases hreset
  | setupBlockReadDone | requestFetchIssue | requestFetchDone => cases hfetch
  | badKind => exact runImmediate_intake (w := []) (fun _ u => .refl _ u) h
  | badFlags => exact runImmediate_intake (w := []) (fun _ u => .refl _ u) h
  | stage => exact runImmediate_intake stageOwner_changes h
  | stageSchedule => exact runImmediate_intake stageScheduleOwner_changes h
  | commit => exact runImmediate_intake commitOwner_changes h
  | withdraw => exact runImmediate_intake withdrawOwner_changes h
  | start => exact runImmediate_intake startOwner_changes h
  | setChannel => exact runImmediate_intake setChannelOwner_changes h
  | stopEnd =>
    change execStopEnd s = _ at h
    unfold execStopEnd at h
    split at h
    · exact runLong_intake (fun r u => (stopEndLongOwner_long r u).1) h
    · exact runImmediate_intake stopEndImmediateOwner_changes h
  | stopAbort => exact execStopAbort_intake h
  | portAlign => exact runLong_intake portAlignOwner_changes h
  | trimProgram => exact runLong_intake (fun r u => (trimProgramOwner_long r u).1) h
  | trimLoad => exact runLong_intake (fun r u => (trimLoadOwner_long r u).1) h
  | readOut => exact runLong_intake (w := []) (fun r u => by rw [(readOutOwner_changes r u).1]; exact .refl _ u) h
  | reclaim => exact runLong_intake (fun r u => (reclaimOwner_long r u).1) h
  | _ => exact .inl (exec_samePart hreset h .requests rfl)

/-! #### The request ring -/

theorem requestRing_of_same {s t : State} (h : RequestRing s) (hsetup : SamePart .setup s t)
    (htail : SamePart .rqTail s t) (hrequests : SamePart .requests s t) : RequestRing t := by
  simp only [SamePart, Prod.mk.injEq] at hsetup htail hrequests
  obtain ⟨hhead, hindex, hfetch, hintake⟩ := hrequests
  unfold RequestRing requestSize at h ⊢
  rw [hsetup, htail, hhead, hindex, hfetch, hintake]
  exact h

/-- A taking: the head and the intake go one record on together (R151). -/
theorem requestRing_advanceHead {s : State} {r : Record} {rest : List Record} (h : RequestRing s)
    (hintake : s.requests.intake = r :: rest) : RequestRing (advanceHead s rest) := by
  obtain ⟨hsize, hhead, hindex, htail, hheld, hposted⟩ := h
  rw [hintake, List.length_cons] at hheld
  have hindex' := ringDist_ringNext_right hindex hhead (by omega)
  have htail' := ringDist_ringNext_right htail hhead (by omega)
  refine ⟨hsize, ringNext_lt (ringSize_pos hsize), hindex, htail, ?_, ?_⟩
  · change ringDist (requestSize s) s.requests.fetchIndex (ringNext (requestSize s) s.requests.head) =
      rest.length + if s.requests.fetch.isSome then 1 else 0
    omega
  · change ringDist (requestSize s) s.requests.fetchIndex (ringNext (requestSize s) s.requests.head) ≤
      ringDist (requestSize s) s.window.rqTail.toNat (ringNext (requestSize s) s.requests.head)
    omega

/-- The issue of a record fetch: the fetch index goes one posted record on (R149). -/
theorem execRequestFetchIssue_requestRing {s t : State} (h : execRequestFetchIssue s = .next t)
    (hring : RequestRing s) : RequestRing t := by
  unfold execRequestFetchIssue at h
  split at h <;> obtain rfl := Host.Outcome.next.inj h
  · rename_i hdue
    obtain ⟨hsize, hhead, hindex, htail, hheld, hposted⟩ := hring
    simp only [requestFetchDue, Bool.and_eq_true, decide_eq_true_eq, Option.isNone_iff_eq_none] at hdue
    obtain ⟨⟨⟨-, hnone⟩, -⟩, hroom⟩ := hdue
    have hadd := ringDist_add htail hindex hhead hposted
    have hlt := ringDist_lt (a := s.window.rqTail.toNat) (b := s.requests.head) (ringSize_pos hsize)
    have hnext := ringDist_ringNext_left hindex hhead (by omega)
    rw [hnone] at hheld
    refine ⟨hsize, hhead, ringNext_lt (ringSize_pos hsize), htail, ?_, ?_⟩
    · change ringDist (requestSize s) (ringNext (requestSize s) s.requests.fetchIndex) s.requests.head =
        s.requests.intake.length + 1
      exact hnext.trans (congrArg (· + 1) hheld)
    · change ringDist (requestSize s) (ringNext (requestSize s) s.requests.fetchIndex) s.requests.head ≤
        ringDist (requestSize s) s.window.rqTail.toNat s.requests.head
      omega
  · exact hring

/-- The answer of a record fetch: what was in flight is in the intake (R149). -/
theorem execRequestFetchDone_requestRing {a : ReadAnswer 512} {s t : State} (h : execRequestFetchDone a s = .next t)
    (hring : RequestRing s) (hstay : t.window.device = .enabled) : RequestRing t := by
  unfold execRequestFetchDone at h
  split at h
  · rename_i address _ hfetch
    dsimp only at h
    split at h <;> obtain rfl := Host.Outcome.next.inj h
    · cases hstay
    · obtain ⟨hsize, hhead, hindex, htail, hheld, hposted⟩ := hring
      rw [hfetch] at hheld
      refine ⟨hsize, hhead, hindex, htail, hheld.trans ?_, hposted⟩
      exact (List.length_append (as := s.requests.intake) (bs := [a.data])).symm
  · obtain rfl := Host.Outcome.next.inj h
    exact hring

/-- A write of RQ_TAIL that is no fault withdraws no record fetched (R180). -/
theorem writeRqTail_requestRing {s : State} (v : Word) (hdev : s.window.device = .enabled) (hring : RequestRing s)
    (hstay : (writeRqTail s v).window.device = .enabled) : RequestRing (writeRqTail s v) := by
  obtain ⟨hsize, hhead, hindex, htail, hheld, hposted⟩ := hring
  have henabled : (!isEnabled s) = false := by rw [(isEnabled_iff s).2 hdev]; rfl
  unfold writeRqTail at hstay ⊢
  rw [henabled, if_neg Bool.false_ne_true] at hstay ⊢
  split at hstay
  · cases hstay
  · rename_i hfault
    rw [if_neg hfault]
    simp only [rqTailFault, Bool.or_eq_true, decide_eq_true_eq, not_or, Nat.not_le, Nat.not_lt] at hfault
    exact ⟨hsize, hhead, hindex, hfault.1, hheld, hfault.2⟩

/-- In ENABLED every command keeps the request ring (R149, R180). -/
theorem exec_requestRing {c : Instr} {s t : State} (hdev : s.window.device = .enabled) (hreset : isReset c = false)
    (h : exec c s = .next t) (hstay : t.window.device = .enabled) (hring : RequestRing s) : RequestRing t := by
  have hrunning := exec_stays hdev hreset h hstay
  have hkept (hfetch : fetchesRecords c = false) (hsetup : (runningParts c).contains .setup = false)
      (htail : (runningParts c).contains .rqTail = false) : RequestRing t := by
    have hsetup' := hrunning.samePart .setup hsetup
    have htail' := hrunning.samePart .rqTail htail
    rcases exec_intake hreset hfetch h with hsame | ⟨r, rest, hintake, hsame⟩
    · exact requestRing_of_same hring hsetup' htail' hsame
    · exact requestRing_of_same (requestRing_advanceHead hring hintake) hsetup' htail' hsame
  have hsame {w : List Part} (hw : ChangesOnly w s t) (hsetup : w.contains .setup = false)
      (htail : w.contains .rqTail = false) (hrequests : w.contains .requests = false) : RequestRing t :=
    requestRing_of_same hring (hw.samePart .setup hsetup) (hw.samePart .rqTail htail)
      (hw.samePart .requests hrequests)
  cases c with
  | powerOnReset straps => cases hreset
  | reset => cases hreset
  | setupBlockReadDone a => exact hsame hrunning rfl rfl rfl
  | registerWrite offset size value =>
    rcases execRegisterWrite_of_enabled hdev hreset h with hw | rfl | rfl | rfl
    · exact hsame hw rfl rfl rfl
    · exact writeRqTail_requestRing value hdev hring hstay
    · exact hsame (writeBfTail_changes s value) rfl rfl rfl
    · exact hsame (writeCpHead_changes s value) rfl rfl rfl
  | rqTailWrite v =>
    obtain rfl := Host.Outcome.next.inj h
    exact writeRqTail_requestRing v hdev hring hstay
  | requestFetchIssue => exact execRequestFetchIssue_requestRing h hring
  | requestFetchDone a => exact execRequestFetchDone_requestRing h hring hstay
  | _ => exact hkept rfl rfl rfl

end Sys2Proof.Laws
end

/-! ### The buffer ring -/

section
set_option Elab.async false
namespace Sys2Proof.Laws

open Sys2Proof Sys2Proof.Machine Sys2Proof.Safety

/-- The buffer list may have lost descriptors, and the latch is as before. -/
def ListShrinks (s t : State) : Prop :=
  t.buffers.list.Sublist s.buffers.list ∧ t.buffers.latch = s.buffers.latch

theorem SamePart.listShrinks {s t : State} (h : SamePart .descriptors s t) : ListShrinks s t := by
  simp only [SamePart, Prod.mk.injEq] at h
  obtain ⟨hlist, hlatch⟩ := h
  exact ⟨by rw [hlist], hlatch⟩

theorem ListShrinks.trans {s t u : State} (h : ListShrinks s t) (h' : ListShrinks t u) : ListShrinks s u :=
  ⟨h'.1.trans h.1, h'.2.trans h.2⟩

theorem bindFrame_listShrinks (s : State) (q : Word) (p : Fin 4) : ListShrinks s (bindFrame s q p) := by
  unfold bindFrame
  dsimp only
  split
  · rename_i d rest _ hlist
    refine ⟨?_, rfl⟩
    rw [hlist]
    exact List.sublist_cons_self d rest
  · exact ⟨.refl _, rfl⟩
  · exact ⟨.refl _, rfl⟩

theorem frameSetup_listShrinks (s : State) : ListShrinks s (frameSetup s) := by
  have hlanded : SamePart .descriptors s
      (landDue { s with stream := { s.stream with next := s.stream.next + 1#32 } } s.stream.next) :=
    (landDue_changes _ _).samePart .descriptors
  exact hlanded.listShrinks.trans (bindFrame_listShrinks _ _ _)

theorem beginRow_listShrinks (s : State) (f : SlotFrame) (index : Nat) : ListShrinks s (beginRow s f index) := by
  unfold beginRow
  dsimp only
  have hstrobed := ((rowStrobe_changes
    { s with stream := { s.stream with rowIndex := index, rowTimer := 0, frameMark := false } } index
    false).samePart .descriptors).listShrinks
  generalize rowStrobe
    { s with stream := { s.stream with rowIndex := index, rowTimer := 0, frameMark := false } } index false =
    u at hstrobed ⊢
  have hstrobed' : ListShrinks s u := hstrobed
  split
  · exact hstrobed'.trans (frameSetup_listShrinks u)
  · exact hstrobed'

theorem execRowEnd_listShrinks {s t : State} (h : execRowEnd s = .next t) : ListShrinks s t := by
  unfold execRowEnd at h
  split at h
  · obtain rfl := Host.Outcome.next.inj h
    exact (SamePart.refl .descriptors _).listShrinks
  · split at h <;> obtain rfl := Host.Outcome.next.inj h
    · exact beginRow_listShrinks s _ _
    · exact ((frameEnd_changes s _).samePart .descriptors).listShrinks

theorem startRun_listShrinks (s : State) (mode : StartMode) : ListShrinks s (startRun s mode) := by
  have hsetup : ListShrinks s (frameSetup
      { s with stream := { s.stream with mode := mode }, schedule := restartPosition s.schedule }) :=
    frameSetup_listShrinks _
  cases mode with
  | free => exact hsetup.trans ((beginRow0_changes _).samePart .descriptors).listShrinks
  | triggered => exact hsetup

/-- START is refused, as with a RECLAIM in progress, or only lets fetching go on (R13, R145). -/
theorem startOwner_buffers (r : Record) (s : State) :
    (startOwner r s).1 = useFree s ∨ ListShrinks s (startOwner r s).1 ∧ s.buffers.reclaim = none ∧
      (startOwner r s).1.buffers.reclaim = none ∧
      (startOwner r s).1.buffers.ringHead = s.buffers.ringHead ∧
      (startOwner r s).1.buffers.fetch = s.buffers.fetch := by
  unfold startOwner
  dsimp only
  split
  · exact .inl rfl
  · split
    · exact .inl rfl
    · rename_i hfree
      obtain ⟨-, hreclaim⟩ := not_or.1 hfree
      have hnone : s.buffers.reclaim = none := by simpa using hreclaim
      obtain ⟨u, hu, he⟩ := startRun_begun s (startModeOf (recordNat r 0x08 1))
      have hfetching : SamePart .fetching s u := hu.samePart .fetching
      simp only [SamePart, Prod.mk.injEq] at hfetching
      obtain ⟨hhead, hfetch, -, hnone'⟩ := hfetching
      refine .inr ⟨startRun_listShrinks s _, hnone, ?_⟩
      change (startRun s (startModeOf (recordNat r 0x08 1))).buffers.reclaim = none ∧ _
      rw [he]
      exact ⟨hnone'.trans hnone, hhead, hfetch⟩

theorem bufferRing_of_same {s t : State} (h : BufferRing s) (hsetup : SamePart .setup s t)
    (htail : SamePart .bfTail s t) (hlist : SamePart .descriptors s t) (hfetching : SamePart .fetching s t)
    (hstate : s.stream.state = .stopped → t.stream.state = .stopped) : BufferRing t := by
  simp only [SamePart, Prod.mk.injEq] at hsetup htail hlist hfetching
  obtain ⟨hlist, hlatch⟩ := hlist
  obtain ⟨hhead, hfetch, hpaused, hreclaim⟩ := hfetching
  obtain ⟨hsize, hring, htailLt, hr, hnone, hl⟩ := h
  unfold BufferRing bufferSize reclaimDone
  rw [hsetup, htail, hlist, hlatch, hhead, hfetch, hpaused, hreclaim]
  refine ⟨hsize, hring, htailLt, fun r hmem => ?_, hnone, hl⟩
  obtain ⟨hstopped, hrest⟩ := hr r hmem
  exact ⟨hstate hstopped, hrest⟩

/-- With no RECLAIM in progress the ring stands on its indices, the fetch and the list (R128, R129). -/
theorem bufferRing_of_no_reclaim {s t : State} (h : BufferRing s) (hsetup : SamePart .setup s t)
    (htail : SamePart .bfTail s t) (hnone : s.buffers.reclaim = none) (hnone' : t.buffers.reclaim = none)
    (hhead : t.buffers.ringHead = s.buffers.ringHead) (hfetch : t.buffers.fetch = s.buffers.fetch)
    (hlist : ListShrinks s t) : BufferRing t := by
  simp only [SamePart] at hsetup htail
  obtain ⟨hsub, hlatch⟩ := hlist
  obtain ⟨hsize, hring, htailLt, -, hclear, hl⟩ := h
  obtain ⟨hvalid, hordinary⟩ := hclear hnone
  unfold BufferRing bufferSize
  rw [hsetup, htail, hlatch, hhead, hfetch, hnone']
  exact ⟨hsize, hring, htailLt, nofun, fun _ => ⟨fun d hd => hvalid d (hsub.subset hd), hordinary⟩, hl⟩

/-- What a RECLAIM in progress asks, but for there being something left to return (R143, R144). -/
abbrev ReclaimRuns (s : State) (r : Reclaim) : Prop :=
  s.stream.state = .stopped ∧ s.buffers.paused = true ∧ r.target < bufferSize s ∧
    ringDist (bufferSize s) r.target s.buffers.ringHead ≤
      ringDist (bufferSize s) s.window.bfTail.toNat s.buffers.ringHead

/-- The completion of a RECLAIM that has returned everything leaves an empty list (R144). -/
theorem finishReclaim_bufferRing {s : State} (hsize : RingSize (bufferSize s))
    (hhead : s.buffers.ringHead < bufferSize s) (htail : s.window.bfTail.toNat < bufferSize s)
    (hreclaim : ∀ r ∈ s.buffers.reclaim, ReclaimRuns s r)
    (hclear : s.buffers.reclaim = none →
      (∀ d ∈ s.buffers.list, descriptorValid d = true) ∧ ∀ f ∈ s.buffers.fetch, f.forReclaim = false)
    (hlatch : ∀ d ∈ s.buffers.latch, descriptorValid d = false ∧ ∀ f ∈ s.buffers.fetch, f.forReclaim = true) :
    BufferRing (finishReclaim s) := by
  unfold finishReclaim
  cases hr : s.buffers.reclaim with
  | none => exact ⟨hsize, hhead, htail, by rw [hr]; exact nofun, hclear, hlatch⟩
  | some r =>
    dsimp only
    by_cases hdone : reclaimDone s r = true
    · rw [if_pos hdone]
      simp only [reclaimDone, Bool.and_eq_true, List.isEmpty_iff, Option.isNone_iff_eq_none] at hdone
      obtain ⟨⟨hlist, hfetch⟩, -⟩ := hdone
      refine ⟨hsize, hhead, htail, nofun, fun _ => ⟨?_, ?_⟩, hlatch⟩
      · change ∀ d ∈ s.buffers.list, _
        rw [hlist]
        exact nofun
      · change ∀ f ∈ s.buffers.fetch, _
        rw [hfetch]
        exact nofun
    · rw [if_neg hdone]
      refine ⟨hsize, hhead, htail, fun x hx => ?_, hclear, hlatch⟩
      obtain rfl : r = x := Option.some.inj (hr.symm.trans hx)
      obtain ⟨hstopped, hpaused, htarget, hdist⟩ := hreclaim r hr
      exact ⟨hstopped, hpaused, htarget, hdist, Bool.eq_false_iff.2 hdone⟩

/-- The issue of a descriptor fetch: the ring head goes one posted descriptor on (R129, R144). -/
theorem execDescriptorFetchIssue_bufferRing {s t : State} (h : execDescriptorFetchIssue s = .next t)
    (hring : BufferRing s) : BufferRing t := by
  obtain ⟨hsize, hhead, htail, hreclaim, hclear, hlatch⟩ := id hring
  have hpos := ringSize_pos hsize
  unfold execDescriptorFetchIssue at h
  by_cases hdue : reclaimFetchDue s = true
  · rw [if_pos hdue] at h
    obtain rfl := Host.Outcome.next.inj h
    unfold reclaimFetchDue at hdue
    cases hr : s.buffers.reclaim with
    | none =>
      rw [hr] at hdue
      cases hdue
    | some r =>
      rw [hr] at hdue
      simp only [Bool.and_eq_true, decide_eq_true_eq, Option.isNone_iff_eq_none] at hdue
      obtain ⟨⟨⟨-, hne⟩, hnone⟩, -⟩ := hdue
      obtain ⟨hstopped, hpaused, htarget, hdist, -⟩ := hreclaim r hr
      have hfar : 0 < ringDist (bufferSize s) r.target s.buffers.ringHead := by
        rw [ringDist_eq htarget hhead]
        split <;> omega
      have htarget' := ringDist_ringNext_right htarget hhead hfar
      have htail' := ringDist_ringNext_right htail hhead (by omega)
      refine ⟨hsize, ringNext_lt hpos, htail, fun x hx => ?_, fun hn => absurd (hr.symm.trans hn) nofun,
        fun d hd => ⟨(hlatch d hd).1, fun f hf => ?_⟩⟩
      · obtain rfl : r = x := Option.some.inj (hr.symm.trans hx)
        refine ⟨hstopped, hpaused, htarget, ?_, ?_⟩
        · change ringDist (bufferSize s) r.target (ringNext (bufferSize s) s.buffers.ringHead) ≤
            ringDist (bufferSize s) s.window.bfTail.toNat (ringNext (bufferSize s) s.buffers.ringHead)
          omega
        · simp [reclaimDone, issueDescriptorFetch]
      · obtain rfl := Option.some.inj hf
        rfl
  · rw [if_neg hdue] at h
    by_cases hord : ordinaryFetchDue s = true
    · rw [if_pos hord] at h
      obtain rfl := Host.Outcome.next.inj h
      simp only [ordinaryFetchDue, Bool.and_eq_true, Bool.not_eq_true', Option.isNone_iff_eq_none] at hord
      obtain ⟨⟨⟨⟨⟨-, hpaused⟩, hfetch⟩, hl⟩, -⟩, -⟩ := hord
      have hnone : s.buffers.reclaim = none := by
        cases hr : s.buffers.reclaim with
        | none => rfl
        | some r =>
          obtain ⟨-, hp, -⟩ := hreclaim r hr
          exact absurd (hpaused.symm.trans hp) nofun
      refine ⟨hsize, ringNext_lt hpos, htail, fun x hx => absurd (hnone.symm.trans hx) nofun,
        fun _ => ⟨(hclear hnone).1, fun f hf => ?_⟩, fun d hd => absurd (hl.symm.trans hd) nofun⟩
      obtain rfl := Option.some.inj hf
      rfl
    · rw [if_neg hord] at h
      obtain rfl := Host.Outcome.next.inj h
      exact hring

/-- The answer of a descriptor fetch: the descriptor joins the list or the latch (R130, R131, R144). -/
theorem execDescriptorFetchDone_bufferRing {a : ReadAnswer 128} {s t : State}
    (h : execDescriptorFetchDone a s = .next t) (hring : BufferRing s) (hstay : t.window.device = .enabled) :
    BufferRing t := by
  unfold execDescriptorFetchDone at h
  split at h
  · rename_i f _ hf
    split at h <;> obtain rfl := Host.Outcome.next.inj h
    · cases hstay
    · obtain ⟨hsize, hhead, htail, hreclaim, hclear, hlatch⟩ := hring
      have hruns : ∀ r ∈ s.buffers.reclaim, ReclaimRuns s r := fun r hr => by
        obtain ⟨hstopped, hpaused, htarget, hdist, -⟩ := hreclaim r hr
        exact ⟨hstopped, hpaused, htarget, hdist⟩
      unfold takeDescriptor
      split
      · rename_i htaken
        refine finishReclaim_bufferRing hsize hhead htail hruns (fun hn => ⟨fun d hd => ?_, nofun⟩)
          fun d hd => ⟨(hlatch d hd).1, nofun⟩
        obtain ⟨hvalid, hordinary⟩ := hclear hn
        rcases List.mem_append.1 hd with hd | hd
        · exact hvalid d hd
        · obtain rfl := List.mem_singleton.1 hd
          rw [hordinary f hf, Bool.false_or] at htaken
          exact htaken
      · rename_i hinvalid
        obtain ⟨-, hbad⟩ := not_or.1 (mt Bool.or_eq_true_iff.2 hinvalid)
        refine finishReclaim_bufferRing hsize hhead htail hruns (fun hn => ⟨(hclear hn).1, nofun⟩)
          fun d hd => ⟨?_, nofun⟩
        obtain rfl := Option.some.inj hd
        exact Bool.eq_false_iff.2 hbad
  · obtain rfl := Host.Outcome.next.inj h
    exact hring

/-- The beginning of a RECLAIM: its target is the tail (R143). -/
theorem execReclaim_bufferRing {s t : State} (h : execReclaim s = .next t) (hring : BufferRing s) :
    BufferRing t := by
  rcases runLong_cases s (ofKind kindReclaim) reclaimOwner with ⟨-, he⟩ | ⟨r, rest, -, -, -, he⟩ <;>
    obtain rfl := Host.Outcome.next.inj (he.symm.trans h)
  · exact hring
  · suffices howner : BufferRing (reclaimOwner r (advanceHead s rest)).state from howner
    obtain ⟨hsize, hhead, htail, hreclaim, hclear, hlatch⟩ := id hring
    unfold reclaimOwner
    split
    · exact hring
    · rename_i hstopped
      split
      · exact hring
      · rename_i hfree
        have hnone : s.buffers.reclaim = none := by simpa using hfree
        dsimp only
        split
        · exact ⟨hsize, hhead, htail, nofun, fun _ => hclear hnone, hlatch⟩
        · rename_i hdone
          refine ⟨hsize, hhead, htail, fun x hx => ?_, nofun, hlatch⟩
          obtain rfl := Option.some.inj hx
          exact ⟨not_not.1 hstopped, rfl, htail, Nat.le_refl _, Bool.eq_false_iff.2 hdone⟩

/-- The return of a descriptor under RECLAIM (R144). -/
theorem execReclaimedReturn_bufferRing {s t : State} (h : execReclaimedReturn s = .next t) (hring : BufferRing s) :
    BufferRing t := by
  unfold execReclaimedReturn at h
  split at h
  · rename_i d rest r _ hlist hr
    split at h <;> obtain rfl := Host.Outcome.next.inj h
    · obtain ⟨hsize, hhead, htail, hreclaim, -, hlatch⟩ := hring
      obtain ⟨hstopped, hpaused, htarget, hdist, -⟩ := hreclaim r hr
      refine finishReclaim_bufferRing hsize hhead htail (fun x hx => ?_) nofun hlatch
      obtain rfl := Option.some.inj hx
      exact ⟨hstopped, hpaused, htarget, hdist⟩
    · exact hring
  · obtain rfl := Host.Outcome.next.inj h
    exact hring

/-- The return of the latch's descriptor (R131). -/
theorem execRejectedReturn_bufferRing {s t : State} (h : execRejectedReturn s = .next t) (hring : BufferRing s) :
    BufferRing t := by
  unfold execRejectedReturn at h
  split at h <;> obtain rfl := Host.Outcome.next.inj h
  · obtain ⟨hsize, hhead, htail, hreclaim, hclear, -⟩ := hring
    exact ⟨hsize, hhead, htail, hreclaim, hclear, nofun⟩
  · exact hring

/-- A write of BF_TAIL that is no fault leaves a RECLAIM's target before the tail (R180). -/
theorem writeBfTail_bufferRing {s : State} (v : Word) (hdev : s.window.device = .enabled) (hring : BufferRing s)
    (hstay : (writeBfTail s v).window.device = .enabled) : BufferRing (writeBfTail s v) := by
  obtain ⟨hsize, hhead, htail, hreclaim, hclear, hlatch⟩ := hring
  have henabled : (!isEnabled s) = false := by rw [(isEnabled_iff s).2 hdev]; rfl
  unfold writeBfTail at hstay ⊢
  rw [henabled, if_neg Bool.false_ne_true] at hstay ⊢
  split at hstay
  · cases hstay
  · rename_i hfault
    rw [if_neg hfault]
    simp only [bfTailFault, Bool.or_eq_true, not_or, decide_eq_true_eq, Nat.not_le] at hfault
    obtain ⟨⟨hlt, -⟩, htarget⟩ := hfault
    refine ⟨hsize, hhead, hlt, fun r hr => ?_, hclear, hlatch⟩
    obtain ⟨hstopped, hpaused, htargetLt, -, hdone⟩ := hreclaim r hr
    have hr' : s.buffers.reclaim = some r := hr
    rw [hr'] at htarget
    simp only [decide_eq_true_eq, Nat.not_lt] at htarget
    exact ⟨hstopped, hpaused, htargetLt, htarget, hdone⟩

/-! #### The stream stays STOPPED but by START -/

/-- The end of a row or of a frame is not due in STOPPED (R1). -/
theorem rowDue_eq_none_of_stopped {s : State} (h : s.stream.state = .stopped) : rowDue s = none := by
  unfold rowDue
  have hrows : rowsRun s = false := by simp [rowsRun, h]
  split
  · rw [hrows, Bool.and_false, Bool.false_and]
    exact if_neg Bool.false_ne_true
  · rfl

theorem execStopEnd_of_stopped {s t : State} (hstopped : s.stream.state = .stopped) (h : execStopEnd s = .next t) :
    t.stream.state = .stopped := by
  unfold execStopEnd at h
  split at h
  · rename_i x htaken
    obtain ⟨_, -, htest, himm, -⟩ := (takeLong_eq_some_iff s _ x.1 x.2).1 htaken
    have hstop : isImmediate s x.1 = true := by
      simp only [Bool.and_eq_true, ofKind] at htest
      obtain ⟨⟨hkind, -⟩, -⟩ := htest
      simp [isImmediate, beq_iff_eq.1 hkind, hstopped]
    exact absurd (himm.symm.trans hstop) nofun
  · rcases runImmediate_cases s (fun r => ofKind kindStop r && !stopMannerAbort r) stopEndImmediateOwner with
      ⟨-, he⟩ | ⟨r, rest, -, -, -, he⟩ <;> obtain rfl := Host.Outcome.next.inj (he.symm.trans h)
    · exact hstopped
    · change (stopEndImmediateOwner r (advanceHead s rest)).1.stream.state = .stopped
      unfold stopEndImmediateOwner
      split
      · exact hstopped
      · split
        · rename_i hwaiting
          exact absurd (hstopped.symm.trans hwaiting) nofun
        · exact hstopped
        · exact hstopped

theorem abortRun_of_stopped {s : State} (h : s.stream.state = .stopped) : abortRun s = s := if_pos h

theorem execStopAbort_of_stopped {s t : State} (hstopped : s.stream.state = .stopped)
    (h : execStopAbort s = .next t) : t.stream.state = .stopped := by
  unfold execStopAbort at h
  split at h <;> obtain rfl := Host.Outcome.next.inj h
  · exact hstopped
  · rename_i r taken htaken
    obtain ⟨rest, -, -, -, rfl⟩ := (takeImmediate_eq_some_iff s _ r taken).1 htaken
    rw [abortRun_of_stopped (s := answerImmediate r (useFree (advanceHead s rest)) (freeAnswer (advanceHead s rest) .ok))
      hstopped]
    exact hstopped

/-- In STOPPED every command but START leaves the stream STOPPED. -/
theorem exec_of_stopped {c : Instr} {s t : State} (hdev : s.window.device = .enabled) (hreset : isReset c = false)
    (h : exec c s = .next t) (hstart : c ≠ .start) (hstopped : s.stream.state = .stopped) :
    t.stream.state = .stopped := by
  rcases exec_running hdev hreset h with ⟨u, cause, detail, -, -, rfl⟩ | hrunning
  · rfl
  have hkept (hp : (runningParts c).contains .streamState = false) : t.stream.state = .stopped :=
    Eq.trans (hrunning.samePart .streamState hp) hstopped
  cases c with
  | powerOnReset straps => cases hreset
  | reset => cases hreset
  | start => exact absurd rfl hstart
  | rowEnd =>
    change execRowEnd s = _ at h
    unfold execRowEnd at h
    rw [rowDue_eq_none_of_stopped hstopped] at h
    obtain rfl := Host.Outcome.next.inj h
    exact hstopped
  | triggerEdge =>
    change execTriggerEdge s = _ at h
    unfold execTriggerEdge at h
    rw [hstopped] at h
    obtain rfl := Host.Outcome.next.inj h
    exact hstopped
  | stopEnd => exact execStopEnd_of_stopped hstopped h
  | stopAbort => exact execStopAbort_of_stopped hstopped h
  | _ => exact hkept rfl

/-- In ENABLED every command keeps the buffer ring (R128, R129, R143, R180). -/
theorem exec_bufferRing {c : Instr} {s t : State} (hdev : s.window.device = .enabled) (hreset : isReset c = false)
    (h : exec c s = .next t) (hstay : t.window.device = .enabled) (hring : BufferRing s) : BufferRing t := by
  have hrunning := exec_stays hdev hreset h hstay
  have hsame {w : List Part} (hstart : c ≠ .start) (hw : ChangesOnly w s t) (hsetup : w.contains .setup = false)
      (htail : w.contains .bfTail = false) (hlist : w.contains .descriptors = false)
      (hfetching : w.contains .fetching = false) : BufferRing t :=
    bufferRing_of_same hring (hw.samePart .setup hsetup) (hw.samePart .bfTail htail)
      (hw.samePart .descriptors hlist) (hw.samePart .fetching hfetching)
      (exec_of_stopped hdev hreset h hstart)
  cases c with
  | powerOnReset straps => cases hreset
  | reset => cases hreset
  | registerWrite offset size value =>
    rcases execRegisterWrite_of_enabled hdev hreset h with hw | rfl | rfl | rfl
    · exact hsame nofun hw rfl rfl rfl rfl
    · exact hsame nofun (writeRqTail_changes s value) rfl rfl rfl rfl
    · exact writeBfTail_bufferRing value hdev hring hstay
    · exact hsame nofun (writeCpHead_changes s value) rfl rfl rfl rfl
  | bfTailWrite v =>
    obtain rfl := Host.Outcome.next.inj h
    exact writeBfTail_bufferRing v hdev hring hstay
  | descriptorFetchIssue => exact execDescriptorFetchIssue_bufferRing h hring
  | descriptorFetchDone a => exact execDescriptorFetchDone_bufferRing h hring hstay
  | reclaim => exact execReclaim_bufferRing h hring
  | reclaimedReturn => exact execReclaimedReturn_bufferRing h hring
  | rejectedReturn => exact execRejectedReturn_bufferRing h hring
  | rowEnd =>
    have hfetching : SamePart .fetching s t := hrunning.samePart .fetching
    cases hr : s.buffers.reclaim with
    | some r =>
      obtain ⟨-, -, -, hreclaim, -⟩ := id hring
      change execRowEnd s = _ at h
      unfold execRowEnd at h
      rw [rowDue_eq_none_of_stopped (hreclaim r hr).1] at h
      obtain rfl := Host.Outcome.next.inj h
      exact hring
    | none =>
      simp only [SamePart, Prod.mk.injEq] at hfetching
      obtain ⟨hhead, hfetch, -, hreclaim⟩ := hfetching
      exact bufferRing_of_no_reclaim hring (hrunning.samePart .setup) (hrunning.samePart .bfTail) hr
        (hreclaim.trans hr) hhead hfetch (execRowEnd_listShrinks h)
  | start =>
    have hsetup : SamePart .setup s t := hrunning.samePart .setup
    have htail : SamePart .bfTail s t := hrunning.samePart .bfTail
    rcases runImmediate_cases s (ofKind kindStart) startOwner with ⟨-, he⟩ | ⟨r, rest, -, -, -, he⟩ <;>
      obtain rfl := Host.Outcome.next.inj (he.symm.trans h)
    · exact hring
    · rcases startOwner_buffers r (advanceHead s rest) with hrefused | ⟨hlist, hnone, hnone', hhead, hfetch⟩
      · rw [hrefused]
        exact hring
      · exact bufferRing_of_no_reclaim hring hsetup htail hnone hnone' hhead hfetch hlist
  | _ => exact hsame nofun hrunning rfl rfl rfl rfl

end Sys2Proof.Laws
end

/-! ### The completion ring and the notice line -/

section
set_option Elab.async false
namespace Sys2Proof.Laws

open Sys2Proof Sys2Proof.Machine Sys2Proof.Safety

/-- The notice line and its timer while ENABLED (R172, R173). -/
abbrev NoticeRuns (s : State) : Prop :=
  (s.completions.notice = false → postedCount s < max 1 s.window.setup.threshold) ∧
    (∀ t ∈ s.completions.timer, s.completions.notice = false ∧ 1 ≤ postedCount s ∧
      t ≤ 40 * s.window.setup.holdoff) ∧
    (s.completions.notice = false → 1 ≤ postedCount s → s.window.setup.holdoff ≠ 0 →
      s.completions.timer.isSome = true)

theorem completionRing_of_same {s t : State} (h : CompletionRing s) (hsetup : SamePart .setup s t)
    (hhead : SamePart .cpHead s t) (hposting : SamePart .posting s t)
    (hholding : s.completions.holding ≠ [] → t.completions.holding ≠ []) : CompletionRing t := by
  simp only [SamePart, Prod.mk.injEq] at hsetup hhead hposting
  obtain ⟨htail, -, hwrite⟩ := hposting
  obtain ⟨hsize, htailLt, hheadLt, hthreshold, hholdoff, hw⟩ := h
  unfold CompletionRing postedCount completionSize
  rw [hsetup, hhead, htail, hwrite]
  refine ⟨hsize, htailLt, hheadLt, hthreshold, hholdoff, fun w hmem => ?_⟩
  obtain ⟨hne, hrest⟩ := hw w hmem
  exact ⟨hholding hne, hrest⟩

theorem noticeRuns_of_same {s t : State} (h : NoticeRuns s) (hsetup : SamePart .setup s t)
    (hhead : SamePart .cpHead s t) (htail : t.completions.tail = s.completions.tail)
    (hnotice : SamePart .notice s t) : NoticeRuns t := by
  simp only [SamePart, Prod.mk.injEq] at hsetup hhead hnotice
  obtain ⟨hlevel, htimer⟩ := hnotice
  unfold NoticeRuns postedCount completionSize
  rw [hsetup, hhead, htail, hlevel, htimer]
  exact h

theorem QueueGrows.holding_ne_nil {s t : State} (h : QueueGrows s t) (hne : s.completions.holding ≠ []) :
    t.completions.holding ≠ [] := by
  obtain ⟨⟨l, hl⟩, -⟩ := h
  rw [hl]
  exact List.append_ne_nil_of_left_ne_nil hne l

theorem encodeCompletion_length (phase : Bool) (c : Completion) : (encodeCompletion phase c).length = 32 := by
  obtain ⟨-, hcompletion, -⟩ := writtenRecordsHaveTheirSizes
  exact (hcompletion phase c).1

theorem execCompletionWriteIssue_completionRing {s t : State} (h : execCompletionWriteIssue s = .next t)
    (hring : CompletionRing s) : CompletionRing t := by
  unfold execCompletionWriteIssue at h
  split at h
  · obtain rfl := Host.Outcome.next.inj h
    exact hring
  · rename_i c rest hholding
    split at h <;> obtain rfl := Host.Outcome.next.inj h
    · rename_i hdue
      obtain ⟨hsize, htail, hhead, hthreshold, hholdoff, -⟩ := hring
      refine ⟨hsize, htail, hhead, hthreshold, hholdoff, fun w hw => ?_⟩
      obtain rfl := Option.some.inj hw
      rw [Bool.and_eq_true] at hdue
      refine ⟨?_, of_decide_eq_true hdue.2, encodeCompletion_length _ _⟩
      change s.completions.holding ≠ []
      rw [hholding]
      nofun
    · exact hring

/-- A posting counts one completion more (R166). -/
theorem postedCount_postHead {s : State} (hring : CompletionRing s) {w : RingWrite}
    (hw : s.completions.write = some w) : postedCount (postHead s) = postedCount s + 1 := by
  obtain ⟨hsize, htail, hhead, -, -, hwrite⟩ := hring
  obtain ⟨-, hroom, -⟩ := hwrite w hw
  have hpos := ringSize_pos hsize
  have hroom' : ringDist (completionSize s) s.completions.tail s.window.cpHead.toNat < completionSize s - 1 := hroom
  have hnext := ringDist_ringNext_left htail hhead (by omega)
  exact hnext

/-- The posting of one completion more acts on the line and the timer (R172). -/
theorem noticeAtPosting_noticeRuns {s : State} {n : Nat} (hn : postedCount s = n + 1)
    (htimer : ∀ t ∈ s.completions.timer, s.completions.notice = false ∧ 1 ≤ n ∧ t ≤ 40 * s.window.setup.holdoff) :
    NoticeRuns (noticeAtPosting s (postedCount s)) := by
  unfold noticeAtPosting
  by_cases hlevel : s.completions.notice = true
  · rw [if_pos hlevel]
    have hup {p : Prop} (hl : s.completions.notice = false) : p := absurd (hlevel.symm.trans hl) nofun
    exact ⟨fun hl => hup hl, fun t ht => hup (htimer t ht).1, fun hl => hup hl⟩
  · rw [if_neg hlevel]
    have hlow : s.completions.notice = false := Bool.eq_false_iff.2 hlevel
    by_cases hreached : noticeThreshold s ≤ postedCount s
    · rw [if_pos hreached]
      exact ⟨nofun, nofun, nofun⟩
    · rw [if_neg hreached]
      have hbelow : postedCount s < max 1 s.window.setup.threshold := Nat.not_le.1 hreached
      cases ht : s.completions.timer with
      | some x =>
        obtain ⟨-, -, hx⟩ := htimer x ht
        refine ⟨fun _ => hbelow, fun y hy => ⟨hlow, show 1 ≤ postedCount s by omega, ?_⟩, fun _ _ _ => by rw [ht]; rfl⟩
        obtain rfl := Option.some.inj (ht.symm.trans hy)
        exact hx
      | none =>
        have hholdoff : holdoffTimer s = if s.window.setup.holdoff = 0 then none
            else some (40 * s.window.setup.holdoff) := rfl
        refine ⟨fun _ => hbelow, fun y hy => ⟨hlow, ?_, ?_⟩, fun _ _ hne => ?_⟩
        · change 1 ≤ postedCount s
          omega
        · change holdoffTimer s = some y at hy
          rw [hholdoff] at hy
          split at hy
          · cases hy
          · obtain rfl := Option.some.inj hy
            exact Nat.le_refl _
        · change (holdoffTimer s).isSome = true
          rw [hholdoff, if_neg hne]
          rfl

/-- The answer of a completion ring write keeps the ring and the notice line (R166, R172). -/
theorem execCompletionWriteDone_kept {a : WriteAnswer} {s t : State} (h : execCompletionWriteDone a s = .next t)
    (hstay : t.window.device = .enabled) (hring : CompletionRing s) (hnotice : NoticeRuns s) :
    CompletionRing t ∧ NoticeRuns t := by
  unfold execCompletionWriteDone at h
  split at h
  · rename_i w _ hw
    dsimp only at h
    split at h <;> obtain rfl := Host.Outcome.next.inj h
    · cases hstay
    · have hposted := postedCount_postHead hring hw
      obtain ⟨hsize, htail, hhead, hthreshold, hholdoff, -⟩ := hring
      have hpost : CompletionRing (postHead s) :=
        ⟨hsize, ringNext_lt (ringSize_pos hsize), hhead, hthreshold, hholdoff, nofun⟩
      have hkept := noticeAtPosting_changes (postHead s) (postedCount (postHead s))
      refine ⟨completionRing_of_same hpost (hkept.samePart .setup) (hkept.samePart .cpHead) (hkept.samePart .posting)
        (fun hne => by rw [show _ = _ from hkept.samePart .holding]; exact hne), ?_⟩
      obtain ⟨-, htimer, -⟩ := hnotice
      exact noticeAtPosting_noticeRuns hposted htimer
  · obtain rfl := Host.Outcome.next.inj h
    exact ⟨hring, hnotice⟩

/-- A write of CP_HEAD that is no fault consumes posted completions (R173, R180). -/
theorem writeCpHead_kept {s : State} (v : Word) (hdev : s.window.device = .enabled)
    (hstay : (writeCpHead s v).window.device = .enabled) (hring : CompletionRing s) :
    CompletionRing (writeCpHead s v) ∧ NoticeRuns (writeCpHead s v) := by
  obtain ⟨hsize, htail, hhead, hthreshold, hholdoff, hwrite⟩ := hring
  have henabled : (!isEnabled s) = false := by rw [(isEnabled_iff s).2 hdev]; rfl
  unfold writeCpHead at hstay ⊢
  rw [henabled, if_neg Bool.false_ne_true] at hstay ⊢
  split at hstay
  · cases hstay
  · rename_i hfault
    rw [if_neg hfault]
    simp only [cpHeadFault, Bool.or_eq_true, not_or, decide_eq_true_eq, Nat.not_le, Nat.not_lt] at hfault
    obtain ⟨hlt, hdist⟩ := hfault
    have hadd := ringDist_add htail hlt hhead hdist
    dsimp only
    have hconsumed : CompletionRing { s with window := { s.window with cpHead := v } } := by
      refine ⟨hsize, htail, hlt, hthreshold, hholdoff, fun w hw => ?_⟩
      obtain ⟨hne, hroom, hlen⟩ := hwrite w hw
      refine ⟨hne, ?_, hlen⟩
      have hroom' : ringDist (completionSize s) s.completions.tail s.window.cpHead.toNat < completionSize s - 1 := hroom
      change ringDist (completionSize s) s.completions.tail v.toNat < completionSize s - 1
      omega
    generalize ({ s with window := { s.window with cpHead := v } } : State) = u at hconsumed
    have hkept := noticeAtConsumption_changes u (postedCount u)
    refine ⟨completionRing_of_same hconsumed (hkept.samePart .setup) (hkept.samePart .cpHead) (hkept.samePart .posting)
      (fun hne => by rw [show _ = _ from hkept.samePart .holding]; exact hne), ?_⟩
    have hholdoff : holdoffTimer u = if u.window.setup.holdoff = 0 then none
        else some (40 * u.window.setup.holdoff) := rfl
    unfold noticeAtConsumption
    by_cases hzero : postedCount u = 0
    · rw [if_pos hzero]
      refine ⟨fun _ => ?_, nofun, fun _ hone => ?_⟩
      · change postedCount u < _
        omega
      · change 1 ≤ postedCount u at hone
        omega
    · rw [if_neg hzero]
      by_cases hbelow : postedCount u < noticeThreshold u
      · rw [if_pos hbelow]
        refine ⟨fun _ => hbelow, fun y hy => ⟨rfl, Nat.pos_of_ne_zero hzero, ?_⟩, fun _ _ hne => ?_⟩
        · change holdoffTimer u = some y at hy
          rw [hholdoff] at hy
          split at hy
          · cases hy
          · obtain rfl := Option.some.inj hy
            exact Nat.le_refl _
        · change (holdoffTimer u).isSome = true
          rw [hholdoff, if_neg hne]
          rfl
      · rw [if_neg hbelow]
        exact ⟨nofun, nofun, nofun⟩

/-- The expiry of the notice timer raises the line (R172). -/
theorem execNoticeTimerExpiry_noticeRuns {s t : State} (h : execNoticeTimerExpiry s = .next t)
    (hnotice : NoticeRuns s) : NoticeRuns t := by
  unfold execNoticeTimerExpiry at h
  split at h <;> obtain rfl := Host.Outcome.next.inj h
  · exact ⟨nofun, nofun, nofun⟩
  · exact hnotice

/-- In ENABLED every command keeps the completion ring and the notice line (R166, R172, R173). -/
theorem exec_completionRing {c : Instr} {s t : State} (hdev : s.window.device = .enabled)
    (hreset : isReset c = false) (h : exec c s = .next t) (hstay : t.window.device = .enabled)
    (hring : CompletionRing s) (hnotice : NoticeRuns s) : CompletionRing t ∧ NoticeRuns t := by
  have hrunning := exec_stays hdev hreset h hstay
  have hsame {w : List Part} (hpost : ∀ a, c ≠ .completionWriteDone a) (hw : ChangesOnly w s t)
      (hsetup : w.contains .setup = false) (hhead : w.contains .cpHead = false)
      (hposting : w.contains .posting = false) (hline : w.contains .notice = false) :
      CompletionRing t ∧ NoticeRuns t := by
    have hsetup' := hw.samePart .setup hsetup
    have hhead' := hw.samePart .cpHead hhead
    have hposting' := hw.samePart .posting hposting
    have htail : t.completions.tail = s.completions.tail := congrArg Prod.fst hposting'
    exact ⟨completionRing_of_same hring hsetup' hhead' hposting' (exec_queueGrows hreset hpost h).holding_ne_nil,
      noticeRuns_of_same hnotice hsetup' hhead' htail (hw.samePart .notice hline)⟩
  cases c with
  | powerOnReset straps => cases hreset
  | reset => cases hreset
  | registerWrite offset size value =>
    rcases execRegisterWrite_of_enabled hdev hreset h with hw | rfl | rfl | rfl
    · exact hsame nofun hw rfl rfl rfl rfl
    · have hw := (writeRqTail_running hdev value).resolve_left (by
        rintro ⟨u, cause, detail, -, -, he⟩
        rw [he] at hstay
        cases hstay)
      exact hsame nofun hw rfl rfl rfl rfl
    · have hw := (writeBfTail_running hdev value).resolve_left (by
        rintro ⟨u, cause, detail, -, -, he⟩
        rw [he] at hstay
        cases hstay)
      exact hsame nofun hw rfl rfl rfl rfl
    · exact writeCpHead_kept value hdev hstay hring
  | cpHeadWrite v =>
    obtain rfl := Host.Outcome.next.inj h
    exact writeCpHead_kept v hdev hstay hring
  | completionWriteIssue =>
    refine ⟨execCompletionWriteIssue_completionRing h hring, ?_⟩
    have htail : t.completions.tail = s.completions.tail := by
      change execCompletionWriteIssue s = _ at h
      unfold execCompletionWriteIssue at h
      split at h
      · obtain rfl := Host.Outcome.next.inj h
        rfl
      · split at h <;> obtain rfl := Host.Outcome.next.inj h <;> rfl
    exact noticeRuns_of_same hnotice (hrunning.samePart .setup) (hrunning.samePart .cpHead) htail
      (hrunning.samePart .notice)
  | completionWriteDone a => exact execCompletionWriteDone_kept h hstay hring hnotice
  | noticeTimerExpiry =>
    have hposting := hrunning.samePart .posting
    exact ⟨completionRing_of_same hring (hrunning.samePart .setup) (hrunning.samePart .cpHead) hposting
      (exec_queueGrows hreset nofun h).holding_ne_nil, execNoticeTimerExpiry_noticeRuns h hnotice⟩
  | _ => exact hsame nofun hrunning rfl rfl rfl rfl

end Sys2Proof.Laws
end

/-! ### Commands outside ENABLED, and the tick -/

section
set_option Elab.async false
namespace Sys2Proof.Laws

open Sys2Proof Sys2Proof.Machine Sys2Proof.Safety

/-- What a command that is no reset may do outside ENABLED. -/
inductive OutsideStep (s : State) : State → Prop
  | same : OutsideStep s s
  | registers (lo hi : Word) :
    OutsideStep s { s with window := { s.window with setupLo := lo, setupHi := hi } }
  | enabling (hdev : s.window.device = .disabled) : OutsideStep s (enableAction s)
  | refused (cause : Cause) (detail : BitVec 4) (hdev : s.window.device = .setup) (hcause : SetupCause cause) :
    OutsideStep s { s with window := setupFailed s.window cause detail }
  | enabled (b : Setup) (hdev : s.window.device = .setup) (hfault : setupFault b = none)
    (hholdoff : b.holdoff ≤ 65535) : OutsideStep s (enterEnabled s b)
  | initEnd (hdev : s.window.device = .init) : OutsideStep s { s with
      window := { s.window with device := .disabled }
      trim := scanStore s.trim
      stream := { s.stream with maintenance := some 0 } }
  | strobe (hdev : s.window.device ≠ .init) :
    OutsideStep s (strobeInstant { s with stream := { s.stream with maintenance := some 0 } } false false)
  | reply (p : Fin 4) (w : ReplyWindow) (v : Verdict) (c : Condition) (htaken : ReplyTaken s p w) :
    OutsideStep s (completeRowIfDone (applyVerdict
      (setPort s p { s.ports[p] with window := some { w with answered := true } }) p w v c))

theorem outsideStep_enableAction (s : State) : OutsideStep s (enableAction s) := by
  by_cases hdev : s.window.device = .disabled
  · exact .enabling hdev
  · have hsame : enableAction s = s := if_neg hdev
    rw [hsame]
    exact .same

theorem setupOf_holdoff_le (r : Record) : (setupOf r).holdoff ≤ 65535 := by
  have h : (setupOf r).holdoff < 2 ^ (8 * 2) := (recordField r 0x20 2).isLt
  exact Nat.le_of_lt_succ h

theorem OutOfService.outsideStep {c : Instr} {s t : State} (hout : OutOfService s) (hreset : isReset c = false)
    (h : exec c s = .next t) : OutsideStep s t := by
  by_cases hacts : actsOutside c = true
  · cases c with
    | powerOnReset straps => cases hreset
    | reset => cases hreset
    | enable =>
      obtain rfl := Host.Outcome.next.inj h
      exact outsideStep_enableAction s
    | setupBlockReadDone a =>
      change execSetupBlockReadDone a s = _ at h
      unfold execSetupBlockReadDone at h
      split at h
      · rename_i hdue _
        have hdev : s.window.device = .setup := beq_iff_eq.1 (Bool.and_eq_true_iff.1 hdue).2
        split at h
        · obtain rfl := Host.Outcome.next.inj h
          exact .refused _ _ hdev (.inl rfl)
        · split at h <;> obtain rfl := Host.Outcome.next.inj h
          · exact .refused _ _ hdev (.inr rfl)
          · exact .enabled _ hdev ‹_› (setupOf_holdoff_le _)
      · obtain rfl := Host.Outcome.next.inj h
        exact .same
    | endOfInit =>
      change execEndOfInit s = _ at h
      unfold execEndOfInit at h
      split at h <;> obtain rfl := Host.Outcome.next.inj h
      · rename_i hdue
        exact .initEnd hdue.1
      · exact .same
    | registerWrite offset size value =>
      have htails : writeRqTail s value = s ∧ writeBfTail s value = s ∧ writeCpHead s value = s := by
        have hnot : (!isEnabled s) = true := by rw [hout.isEnabled_eq]; rfl
        exact ⟨if_pos hnot, if_pos hnot, if_pos hnot⟩
      change execRegisterWrite offset size value s = _ at h
      unfold execRegisterWrite at h
      split at h
      · obtain rfl := Host.Outcome.next.inj h
        exact .same
      · rename_i hsize
        split at h <;> obtain rfl := Host.Outcome.next.inj h
        · have hbit : ¬ value.getLsbD 1 = true := by
            have hsize' : size = 4 := by simpa using hsize
            simpa [isReset, hsize'] using hreset
          unfold writeControl
          rw [if_neg hbit]
          split
          · exact outsideStep_enableAction s
          · exact .same
        · exact .registers value s.window.setupHi
        · exact .registers s.window.setupLo value
        · rw [htails.1]
          exact .same
        · rw [htails.2.1]
          exact .same
        · rw [htails.2.2]
          exact .same
        · exact .same
    | maintenanceStrobe =>
      change execMaintenanceStrobe s = _ at h
      unfold execMaintenanceStrobe at h
      split at h <;> obtain rfl := Host.Outcome.next.inj h
      · rename_i hdue
        exact .strobe ((maintenanceDue_iff s).1 hdue).2.2
      · exact .same
    | replyReceived p own bits =>
      change execReplyReceived p own bits s = _ at h
      unfold execReplyReceived at h
      split at h <;> obtain rfl := Host.Outcome.next.inj h
      · exact .same
      · exact .reply p _ _ _ (takingWindow_eq_some.1 ‹_›).1
    | _ => cases hacts
  · obtain rfl := Host.Outcome.next.inj ((hout.exec_eq (Bool.eq_false_iff.2 hacts)).symm.trans h)
    exact .same

/-- The tick leaves the trim table (R104, R107). -/
theorem tickTrim_table (t : TrimUnit) : (tickLoad (tickProgram t)).table = t.table := by
  have hload (u : TrimUnit) : (tickLoad u).table = u.table := by
    unfold tickLoad
    split <;> rfl
  rw [hload]
  unfold tickProgram tickImage setSlot
  split
  · split
    · split <;> rfl
    · rfl
  · rfl

/-- What a tick may change. -/
theorem tick_changes (s : State) : ChangesOnly [.inputs, .ports, .slots, .trimWork, .notice] s (tick s) :=
  .of_parts fun p => by
    cases p with
    | inputs | ports | slots | trimWork | notice => exact .inl (by decide)
    | portStates => exact .inr (funext fun q => by
        have hport : (tick s).ports[q] = tickPort s.ports[q] := Vector.getElem_ofFn q.isLt
        change (tick s).ports[q].state = _
        rw [hport]
        rfl)
    | table => exact .inr (tickTrim_table s.trim)
    | _ => exact .inr rfl

/-! #### Before the device is ENABLED -/

/-- A change of a port that begins no alignment leaves nothing held. -/
theorem setPort_nothingHeld {s : State} {p : Fin 4} {q : Port} (h : NothingHeld s) (hq : q.state ≠ .aligning) :
    NothingHeld (setPort s p q) := by
  obtain ⟨h1, h2, h3, h4, h5, h6, h7, h8, h9, h10, hports, h12⟩ := h
  refine ⟨h1, h2, h3, h4, h5, h6, h7, h8, h9, h10, fun k => ?_, h12⟩
  by_cases hk : k = p
  · subst hk
    rw [getElem_setPort_self]
    exact hq
  · have hne : (setPort s p q).ports[k] = s.ports[k] :=
      Vector.getElem_set_ne p.isLt k.isLt fun he => hk (Fin.ext he.symm)
    rw [hne]
    exact hports k

/-- An UP port is UP or LOST after a verdict (R76). -/
theorem judgeUp_state (q : Port) (v : Verdict) (hq : q.state ≠ .aligning) : (judgeUp q v).state ≠ .aligning := by
  unfold judgeUp
  split
  · exact hq
  · split
    · nofun
    · exact hq

theorem decideCondition_of_no_row {s : State} (h : s.row = none) (p : Fin 4) (c : Condition) :
    decideCondition s p c = s := by
  unfold decideCondition
  rw [h]

theorem applyVerdict_nothingHeld {s : State} (h : NothingHeld s) (p : Fin 4) (w : ReplyWindow) (v : Verdict)
    (c : Condition) : NothingHeld (applyVerdict s p w v c) := by
  obtain ⟨-, hrow, -, -, -, -, -, -, -, -, hports, -⟩ := id h
  unfold applyVerdict
  dsimp only
  cases hstate : s.ports[p].state with
  | aligning => exact absurd hstate (hports p)
  | off => exact h
  | lost => exact h
  | up =>
    have hjudged : NothingHeld (setPort s p (judgeUp s.ports[p] v)) :=
      setPort_nothingHeld h (judgeUp_state _ v (hports p))
    dsimp only
    split
    · exact h
    · split
      · rw [decideCondition_of_no_row (s := setPort s p (judgeUp s.ports[p] v)) hrow]
        exact hjudged
      · exact hjudged

theorem closeAtStrobe_nothingHeld {s : State} (h : NothingHeld s) (cut : Bool) (p : Fin 4) :
    NothingHeld (closeAtStrobe cut s p) := by
  obtain ⟨-, -, -, -, -, -, -, -, -, -, hports, -⟩ := id h
  unfold closeAtStrobe
  cases s.ports[p].window with
  | none => exact h
  | some w =>
    have hclosed : NothingHeld (setPort s p (closeWindow s.ports[p])) := setPort_nothingHeld h (hports p)
    dsimp only
    split
    · exact hclosed
    · split
      · obtain ⟨-, -, -, -, -, -, -, -, -, -, hports', -⟩ := id hclosed
        unfold cutShort
        rw [if_neg fun hand => hports' p hand.2]
        exact hclosed
      · exact applyVerdict_nothingHeld hclosed p w _ _

theorem foldl_closeAtStrobe_nothingHeld (cut : Bool) (l : List (Fin 4)) {s : State} (h : NothingHeld s) :
    NothingHeld (l.foldl (closeAtStrobe cut) s) := by
  induction l generalizing s with
  | nil => exact h
  | cons p l ih => exact ih (closeAtStrobe_nothingHeld h cut p)

theorem strobeInstant_nothingHeld {s : State} (h : NothingHeld s) (atRow cut : Bool) :
    NothingHeld (strobeInstant s atRow cut) := by
  have hclosed := foldl_closeAtStrobe_nothingHeld cut allPorts h
  unfold strobeInstant
  generalize allPorts.foldl (closeAtStrobe cut) s = u at hclosed
  obtain ⟨h1, hrow, h3, h4, h5, h6, h7, h8, h9, h10, hports, h12⟩ := hclosed
  have hcompleted : completeRow u = u := by
    unfold completeRow
    rw [hrow]
  rw [hcompleted]
  refine ⟨h1, hrow, h3, h4, h5, h6, h7, h8, h9, h10, fun p => ?_, h12⟩
  rw [show (sendStrobes u atRow).ports[p].state = u.ports[p].state from
    congrFun ((sendStrobes_changes u atRow).samePart .portStates) p]
  exact hports p

theorem completeRowIfDone_of_no_row {s : State} (h : s.row = none) : completeRowIfDone s = s := by
  unfold completeRowIfDone
  rw [h]

/-- The device states before ENABLED, in which nothing is held. -/
abbrev BeforeEnabled (s : State) : Prop :=
  s.window.device = .init ∨ s.window.device = .disabled ∨ s.window.device = .setup

/-- A command outside ENABLED that does not bring the device into it leaves nothing held. -/
theorem OutsideStep.nothingHeld {s t : State} (h : OutsideStep s t) (hheld : NothingHeld s)
    (hbefore : BeforeEnabled t) : NothingHeld t := by
  cases h with
  | same => exact hheld
  | registers lo hi => exact hheld
  | enabling hdev =>
    unfold enableAction
    rw [if_pos hdev]
    dsimp only
    split <;> exact hheld
  | refused cause detail hdev hcause => exact hheld
  | enabled b hdev hfault hholdoff => rcases hbefore with hb | hb | hb <;> cases hb
  | initEnd hdev => exact hheld
  | strobe hdev =>
    exact strobeInstant_nothingHeld (s := { s with stream := { s.stream with maintenance := some 0 } }) hheld false false
  | reply p w v c htaken =>
    obtain ⟨-, hrow, -, -, -, -, -, -, -, -, hports, -⟩ := id hheld
    have hjudged := applyVerdict_nothingHeld (setPort_nothingHeld (p := p)
      (q := { s.ports[p] with window := some { w with answered := true } }) hheld (hports p)) p w v c
    obtain ⟨-, hrow', -⟩ := id hjudged
    rw [completeRowIfDone_of_no_row hrow']
    exact hjudged

end Sys2Proof.Laws
end

/-! ### The rings, the cause and the notice line over every step -/

section
set_option Elab.async false
namespace Sys2Proof.Laws

open Sys2Proof Sys2Proof.Machine Sys2Proof.Safety

/-- What the rings, the cause and the notice line ask together. -/
abbrev HostSideInv (s : State) : Prop := RingInv s ∧ CauseInv s ∧ NoticeInv s

theorem runningParts_device {c : Instr} : (runningParts c).contains .device = false := by
  cases c <;> rfl

theorem runningParts_setupRead {c : Instr} : (runningParts c).contains .setupRead = false := by
  cases c <;> rfl

/-- The rings, the cause and the notice line in HALTED. -/
theorem hostSideInv_of_halted {s : State} (hdev : s.window.device = .halted) (hcause : FatalCause s.window.cause)
    (hread : s.window.setupRead = none) (hnotice : s.completions.notice = true ∧ s.completions.timer = none) :
    HostSideInv s := by
  have hnot {d : DeviceState} {p : Prop} (hd : s.window.device = d) (hne : DeviceState.halted ≠ d) : p :=
    absurd (hdev.symm.trans hd) hne
  refine ⟨⟨fun hd => hnot hd nofun, fun hd => ?_, ?_⟩, ⟨fun _ => hcause, fun hd => hnot hd nofun, fun hd => ?_⟩,
    fun hd => hnot hd nofun, fun _ => hnotice⟩
  · rcases hd with hd | hd | hd <;> exact hnot hd nofun
  · rw [hread, hdev]
    decide
  · rcases hd with hd | hd | hd <;> exact hnot hd nofun

/-- The rings, the cause and the notice line in ENABLED. -/
theorem hostSideInv_of_enabled {s : State} (hdev : s.window.device = .enabled)
    (hcause : s.window.cause = .none ∧ s.window.detail = 0) (hread : s.window.setupRead = none)
    (hrings : RequestRing s ∧ BufferRing s ∧ CompletionRing s) (hnotice : NoticeRuns s) : HostSideInv s := by
  have hnot {d : DeviceState} {p : Prop} (hd : s.window.device = d) (hne : DeviceState.enabled ≠ d) : p :=
    absurd (hdev.symm.trans hd) hne
  refine ⟨⟨fun _ => hrings, fun hd => ?_, ?_⟩, ⟨fun hd => hnot hd nofun, fun hd => hnot hd nofun, fun _ => hcause⟩,
    fun _ => hnotice, fun hd => hnot hd nofun⟩
  · rcases hd with hd | hd | hd <;> exact hnot hd nofun
  · rw [hread, hdev]
    decide

/-- The rings, the cause and the notice line before the device is ENABLED. -/
theorem hostSideInv_of_before {s : State} (hbefore : BeforeEnabled s) (hheld : NothingHeld s)
    (hread : s.window.setupRead.isSome = true ↔ s.window.device = .setup)
    (hcause : s.window.cause = .none ∧ s.window.detail = 0 ∨ s.window.device = .disabled ∧ SetupCause s.window.cause) :
    HostSideInv s := by
  have hnot {d : DeviceState} {p : Prop} (hd : s.window.device = d) (hne : .init ≠ d ∧ .disabled ≠ d ∧ .setup ≠ d) :
      p := by
    rcases hbefore with hb | hb | hb
    · exact absurd (hb.symm.trans hd) hne.1
    · exact absurd (hb.symm.trans hd) hne.2.1
    · exact absurd (hb.symm.trans hd) hne.2.2
  refine ⟨⟨fun hd => hnot hd (by decide), fun _ => hheld, hread⟩, ⟨fun hd => hnot hd (by decide), fun _ => ?_, fun hd => ?_⟩,
    fun hd => hnot hd (by decide), fun hd => hnot hd (by decide)⟩
  · exact hcause.imp_right And.right
  · refine hcause.resolve_right fun hand => ?_
    rcases hd with hd | hd | hd <;> exact absurd (hand.1.symm.trans hd) nofun

/-- A fatal fault leaves what HALTED asks (R174, R181). -/
theorem HaltsAt.hostSideInv {w : List Part} {s t : State} (h : HaltsAt w s t) (hw : w.contains .setupRead = false)
    (hread : s.window.setupRead = none) : HostSideInv t := by
  obtain ⟨u, cause, detail, hcause, hu, rfl⟩ := h
  have hsame : u.window.setupRead = s.window.setupRead := hu.samePart .setupRead hw
  exact hostSideInv_of_halted rfl hcause (hsame.trans hread) ⟨rfl, rfl⟩

/-- The entry into ENABLED with a valid setup block (R177, R178). -/
theorem enterEnabled_hostSideInv {s : State} {b : Setup} (hheld : NothingHeld s) (hfault : setupFault b = none)
    (hholdoff : b.holdoff ≤ 65535) (hcause : s.window.cause = .none ∧ s.window.detail = 0) :
    HostSideInv (enterEnabled s b) := by
  obtain ⟨-, -, -, -, hbuffers, hrequests, hcompletions, -⟩ := hheld
  rw [setupFault_eq] at hfault
  have hvalid : SizesValid b ∧ ThresholdFits b := by
    split_ifs at hfault with h1 h2 h3 h4 h5
    exact ⟨h1, h5⟩
  obtain ⟨⟨hrq, hbf, hcp⟩, hthreshold⟩ := hvalid
  have hself {n : Nat} (hn : RingSize n) : ringDist n 0 0 = 0 := ringDist_self (ringSize_pos hn)
  have hposted : postedCount (enterEnabled s b) = 0 := hself hcp
  refine hostSideInv_of_enabled rfl hcause rfl ⟨?_, ?_, ?_⟩ ?_
  · refine ⟨hrq, ringSize_pos hrq, ringSize_pos hrq, ringSize_pos hrq, ?_, Nat.le_refl _⟩
    refine (hself hrq).trans ?_
    change 0 = s.requests.intake.length + if s.requests.fetch.isSome = true then 1 else 0
    rw [hrequests]
    rfl
  · refine ⟨hbf, ringSize_pos hbf, ringSize_pos hbf, ?_⟩
    change (∀ r ∈ s.buffers.reclaim, _) ∧ (s.buffers.reclaim = none →
      (∀ d ∈ s.buffers.list, _) ∧ ∀ f ∈ s.buffers.fetch, _) ∧ ∀ d ∈ s.buffers.latch, _
    rw [hbuffers]
    exact ⟨nofun, fun _ => ⟨nofun, nofun⟩, nofun⟩
  · refine ⟨hcp, ringSize_pos hcp, ringSize_pos hcp, hthreshold, hholdoff, ?_⟩
    change ∀ w ∈ s.completions.write, _
    rw [hcompletions]
    exact nofun
  · unfold NoticeRuns
    rw [hposted]
    refine ⟨fun _ => by omega, ?_, fun _ hone => absurd hone (Nat.not_succ_le_zero 0)⟩
    change ∀ t ∈ s.completions.timer, _
    rw [hcompletions]
    exact nofun

theorem strobeInstant_device (s : State) : SamePart .device s
      (strobeInstant { s with stream := { s.stream with maintenance := some 0 } } false false) ∧
    SamePart .setupRead s (strobeInstant { s with stream := { s.stream with maintenance := some 0 } } false false) := by
  have h := strobeInstant_changes { s with stream := { s.stream with maintenance := some 0 } } false false
  exact ⟨h.samePart .device, h.samePart .setupRead⟩

theorem reply_changes (s : State) (p : Fin 4) (q : Port) (w : ReplyWindow) (v : Verdict) (c : Condition) :
    ChangesOnly strobeParts s (completeRowIfDone (applyVerdict (setPort s p q) p w v c)) :=
  ((setPort_changes s p q).then (w'' := strobeParts) (applyVerdict_changes _ p w v c)).then
    (completeRowIfDone_changes _)

/-- What a command outside ENABLED leaves of the device state. -/
theorem OutsideStep.hostSideInv {s t : State} (h : OutsideStep s t) (hinv : HostSideInv s)
    (hdev : s.window.device ≠ .enabled) (hhalted : s.window.device = .halted → t.completions = s.completions) :
    HostSideInv t := by
  obtain ⟨⟨hrings, hheld, hread⟩, ⟨hfatal, hfailed, hclear⟩, hnotice, hline⟩ := id hinv
  have hkept (hdevice : SamePart .device s t) (hsetup : SamePart .setupRead s t) : HostSideInv t := by
    simp only [SamePart, Prod.mk.injEq] at hdevice hsetup
    obtain ⟨hd, hc, hdetail⟩ := hdevice
    cases hs : s.window.device with
    | enabled => exact absurd hs hdev
    | halted =>
      have hnone : s.window.setupRead = none := by
        cases hsr : s.window.setupRead with
        | none => rfl
        | some a => exact absurd (hs.symm.trans (hread.1 (by rw [hsr]; rfl))) nofun
      exact hostSideInv_of_halted (hd.trans hs) (by rw [hc]; exact hfatal hs) (hsetup.trans hnone)
        (by rw [hhalted hs]; exact hline hs)
    | init | disabled | setup =>
      have hbefore : BeforeEnabled t := by
        unfold BeforeEnabled
        rw [hd, hs]
        decide
      refine hostSideInv_of_before hbefore (h.nothingHeld (hheld (by rw [hs]; decide)) hbefore)
        (by rw [hsetup, hd]; exact hread) ?_
      rw [hc, hdetail, hd]
      by_cases hdis : s.window.device = .disabled
      · exact (hfailed hdis).imp_right fun hx => ⟨hdis, hx⟩
      · exact .inl (hclear (by rw [hs] at hdis ⊢; revert hdis; decide))
  cases h with
  | same => exact hinv
  | registers lo hi => exact hkept rfl rfl
  | enabling hdis =>
    have hheld' := hheld (.inr (.inl hdis))
    unfold enableAction
    rw [if_pos hdis]
    dsimp only
    split
    · exact hostSideInv_of_before (.inr (.inr rfl)) hheld' ⟨fun _ => rfl, fun _ => rfl⟩ (.inl ⟨rfl, rfl⟩)
    · exact hostSideInv_of_before (.inr (.inl rfl)) hheld' ⟨nofun, nofun⟩ (.inr ⟨rfl, .inr rfl⟩)
  | refused cause detail hset hcause =>
    exact hostSideInv_of_before (.inr (.inl rfl)) (hheld (.inr (.inr hset))) ⟨nofun, nofun⟩ (.inr ⟨rfl, hcause⟩)
  | enabled b hset hfault hholdoff =>
    exact enterEnabled_hostSideInv (hheld (.inr (.inr hset))) hfault hholdoff (hclear (.inr (.inl hset)))
  | initEnd hinit =>
    refine hostSideInv_of_before (.inr (.inl rfl)) (hheld (.inl hinit)) ⟨fun hsome => ?_, nofun⟩
      (.inl (hclear (.inl hinit)))
    exact absurd (hinit.symm.trans (hread.1 hsome)) nofun
  | strobe hne => exact hkept (strobeInstant_device s).1 (strobeInstant_device s).2
  | reply p w v c htaken =>
    have hreply := reply_changes s p { s.ports[p] with window := some { w with answered := true } } w v c
    exact hkept (hreply.samePart .device) (hreply.samePart .setupRead)

/-- Every command keeps the rings, the cause and the notice line. -/
theorem exec_hostSideInv {c : Instr} {s t : State} (hinv : Inv s) (h : exec c s = .next t) : HostSideInv t := by
  by_cases hreset : isReset c = true
  · obtain ⟨hjust, -⟩ := justReset_of_exec hinv hreset h
    exact ⟨hjust.ringInv, hjust.causeInv, hjust.noticeInv⟩
  · have hreset : isReset c = false := Bool.eq_false_iff.2 hreset
    have hhost : HostSideInv s := by
      obtain ⟨-, -, -, -, -, -, -, -, -, -, -, hhost⟩ := hinv
      exact hhost
    by_cases hdev : s.window.device = .enabled
    · obtain ⟨⟨hrings, -, hread⟩, ⟨-, -, hclear⟩, hnotice, -⟩ := hhost
      obtain ⟨hrequest, hbuffer, hcompletion⟩ := hrings hdev
      have hnone : s.window.setupRead = none := by
        cases hsr : s.window.setupRead with
        | none => rfl
        | some a => exact absurd (hdev.symm.trans (hread.1 (by rw [hsr]; rfl))) nofun
      rcases exec_running hdev hreset h with hhalts | hruns
      · exact hhalts.hostSideInv rfl hnone
      · have hdevice := hruns.samePart .device runningParts_device
        have hsetup : t.window.setupRead = s.window.setupRead := hruns.samePart .setupRead runningParts_setupRead
        simp only [SamePart, Prod.mk.injEq] at hdevice
        obtain ⟨hd, hc, hdetail⟩ := hdevice
        have hstay : t.window.device = .enabled := hd.trans hdev
        obtain ⟨hcompletion', hnotice'⟩ := exec_completionRing hdev hreset h hstay hcompletion (hnotice hdev)
        exact hostSideInv_of_enabled hstay (by rw [hc, hdetail]; exact hclear (.inr (.inr hdev))) (hsetup.trans hnone)
          ⟨exec_requestRing hdev hreset h hstay hrequest, exec_bufferRing hdev hreset h hstay hbuffer, hcompletion'⟩
          hnotice'
    · have hout := outOfService_of_inv hinv hdev
      refine (hout.outsideStep hreset h).hostSideInv hhost hdev fun hhalt => ?_
      have hrow : s.row = none := by
        obtain ⟨-, -, -, -, -, -, -, ⟨-, -, -, -, -, hrow⟩, -⟩ := hinv
        exact hrow hhalt
      obtain ⟨lo, hi, m, ports, rfl, -⟩ := exec_of_halted hout hhalt hrow hreset h
      rfl

/-- A tick keeps the rings, the cause and the notice line: the notice timer runs down (R172). -/
theorem tick_hostSideInv {s : State} (hinv : Inv s) : HostSideInv (tick s) := by
  have hticked := tick_changes s
  obtain ⟨-, -, -, -, -, -, -, -, -, -, -, ⟨hrings, hheld, hread⟩, hcause, hnotice, hline⟩ := id hinv
  refine ⟨⟨fun hdev => ?_, fun hbefore => ?_, hread⟩, hcause, fun hdev => ?_, fun hdev => ?_⟩
  · obtain ⟨hrequest, hbuffer, hcompletion⟩ := hrings hdev
    exact ⟨hrequest, hbuffer, hcompletion⟩
  · obtain ⟨h1, h2, h3, h4, h5, h6, hcompletions, h8, h9, h10, hports, h12⟩ := hheld hbefore
    refine ⟨h1, h2, h3, h4, h5, h6, ?_, h8, h9, h10, fun p => ?_, h12⟩
    · change { s.completions with timer := s.completions.timer.map (· - 1) } = _
      rw [hcompletions]
      rfl
    · rw [show (tick s).ports[p].state = s.ports[p].state from congrFun (hticked.samePart .portStates) p]
      exact hports p
  · obtain ⟨hbelow, htimer, hruns⟩ := hnotice hdev
    refine ⟨hbelow, fun x hx => ?_, fun hlow hone hne => ?_⟩
    · obtain ⟨y, hy, rfl⟩ := Option.map_eq_some_iff.1 (show s.completions.timer.map (· - 1) = some x from hx)
      obtain ⟨hlow, hone, hle⟩ := htimer y hy
      exact ⟨hlow, hone, (Nat.sub_le y 1).trans hle⟩
    · change (s.completions.timer.map (· - 1)).isSome = true
      rw [Option.isSome_map]
      exact hruns hlow hone hne
  · obtain ⟨hhigh, htimer⟩ := hline hdev
    refine ⟨hhigh, ?_⟩
    change s.completions.timer.map (· - 1) = none
    rw [htimer]
    rfl

/-- Settles O57: commands in ENABLED, commands outside it, fatal faults, resets and ticks, each in its turn. -/
theorem stepsKeepRingsCauseAndNotice : Obligations.StepsKeepRingsCauseAndNotice := by
  intro s t hinv hstep
  rcases step_cases hstep with ⟨c, rest, h⟩ | ⟨-, rfl⟩
  · exact exec_hostSideInv (inv_pending hinv rest) h
  · exact tick_hostSideInv hinv

end Sys2Proof.Laws
end

/-! ### Answers to payload bursts and header writes -/

section
set_option Elab.async false
namespace Sys2Proof.Laws

open Sys2Proof Sys2Proof.Machine Sys2Proof.Safety

/-- A listed record replaced by itself. -/
theorem replaceRecord_self {s : State} {x : FrameRecord} (hd : (s.records.map FrameRecord.ref).Nodup)
    (hx : x ∈ s.records) : replaceRecord s x.ref x = s := by
  refine (updateRecord_eq_replaceRecord hd hx id).symm.trans ?_
  simp [updateRecord]

/-- Damage added to a listed record replaces it. -/
theorem addDamage_eq_replaceRecord {s : State} {x : FrameRecord} (hd : (s.records.map FrameRecord.ref).Nodup)
    (hx : x ∈ s.records) (d : BitVec 8) :
    addDamage s x.ref d = replaceRecord s x.ref { x with damage := x.damage ||| d } :=
  updateRecord_eq_replaceRecord hd hx _

/-- The answer to a payload burst acts on its frame (R121, R122). -/
theorem execPayloadWriteDone_of_listed {s : State} {i : Nat} {b : PayloadBurst} {a : WriteAnswer}
    (hdev : s.window.device = .enabled) (hb : s.coder.bursts[i]? = some b) (ha : a.tracked = true) :
    exec (.payloadWriteDone i a) s =
      if writeFailed a then
        .next (drainIfDone (addDamage { s with
          coder := failPayload { s.coder with bursts := s.coder.bursts.eraseIdx i } b.ref } b.ref damageWriteError) b.ref)
      else .next (drainIfDone { s with coder := { s.coder with bursts := s.coder.bursts.eraseIdx i } } b.ref) := by
  change execPayloadWriteDone i a s = _
  have htaken : (isEnabled s && a.tracked) = true := by rw [(isEnabled_iff s).2 hdev, ha]; rfl
  unfold execPayloadWriteDone
  rw [htaken, hb]

/-- The answer to a header write ends its frame (R123, R139). -/
theorem execHeaderWriteDone_of_listed {s : State} {i : Nat} {w : HeaderWrite} {a : WriteAnswer}
    (hdev : s.window.device = .enabled) (hw : s.coder.headers[i]? = some w) (ha : a.tracked = true) :
    exec (.headerWriteDone i a) s =
      let answered := { s with coder := { s.coder with headers := s.coder.headers.eraseIdx i } }
      .next (enterReportWait (if writeFailed a then addDamage answered w.ref damageWriteError else answered) w.ref
        .frameDone) := by
  change execHeaderWriteDone i a s = _
  have htaken : (isEnabled s && a.tracked) = true := by rw [(isEnabled_iff s).2 hdev, ha]; rfl
  unfold execHeaderWriteDone
  rw [htaken, hw]

/-- A replaced record enters REPORT_WAIT (R139). -/
theorem enterReportWait_replaceRecord {s : State} {x v : FrameRecord} (hd : (s.records.map FrameRecord.ref).Nodup)
    (hx : x ∈ s.records) (href : v.ref = x.ref) (hturn : v.turn = x.turn) (kind : ReportKind) :
    enterReportWait (replaceRecord s x.ref v) x.ref kind = replaceRecord s x.ref { v with
      phase := .reportWait, reportKind := some kind, turn := nextTurn s.records } := by
  unfold enterReportWait
  rw [nextTurn_replaceRecord hd hx hturn]
  exact updateRecord_replaceRecord href _

/-- The record of an answered header waits for its report, damaged where the write failed (R123, R139). -/
theorem enterReportWait_of_header {s : State} {x : FrameRecord} (hd : (s.records.map FrameRecord.ref).Nodup)
    (hx : x ∈ s.records) (a : WriteAnswer) :
    enterReportWait (if writeFailed a then addDamage s x.ref damageWriteError else s) x.ref .frameDone =
      { s with records := withRecord s { x with
        damage := if WriteFails a then x.damage ||| 0x20 else x.damage
        phase := .reportWait, reportKind := some .frameDone, turn := nextTurn s.records } } := by
  by_cases hfails : WriteFails a
  · rw [if_pos ((writeFailed_iff a).2 hfails), if_pos hfails, addDamage_eq_replaceRecord hd hx]
    exact enterReportWait_replaceRecord (v := { x with damage := x.damage ||| 0x20 }) hd hx rfl rfl _
  · rw [if_neg (mt (writeFailed_iff a).1 hfails), if_neg hfails, enterReportWait]
    exact updateRecord_eq_replaceRecord hd hx _

/-- The drain of a listed record's frame, damaged or not, as the statements write it (R121, R122). -/
theorem drainIfDone_eq_withRecord {s : State} {x v : FrameRecord} (hd : (s.records.map FrameRecord.ref).Nodup)
    (hx : x ∈ s.records) (href : v.ref = x.ref) (hturn : v.turn = x.turn) :
    drainIfDone (replaceRecord s x.ref v) x.ref = { s with
      coder := (drained (nextTurn s.records) s.coder v).1
      records := withRecord s (drained (nextTurn s.records) s.coder v).2 } := by
  rw [drainIfDone_replaceRecord hd hx href hturn, ← replaceRecord_records, drained_ref, href]
  rfl

/-- Settles O44: the answered record is replaced, with its damage where the write failed, and drains or is reported. -/
theorem writeAnswersDrainTheFrame : Obligations.WriteAnswersDrainTheFrame := by
  refine ⟨fun s i b x a hdev hb hx href hdist ha => ?_, fun s i w x a hdev hw hx href hdist ha => ?_⟩
  · obtain ⟨hd, -⟩ := hdist
    rw [execPayloadWriteDone_of_listed hdev hb ha, ← href]
    dsimp only
    by_cases hfails : WriteFails a
    · rw [if_pos ((writeFailed_iff a).2 hfails), if_pos hfails]
      let c := failPayload { s.coder with bursts := s.coder.bursts.eraseIdx i } x.ref
      have hdamaged := addDamage_eq_replaceRecord (s := { s with coder := c }) hd hx damageWriteError
      rw [hdamaged]
      exact congrArg Host.Outcome.next (drainIfDone_eq_withRecord (s := { s with coder := c })
        (v := { x with damage := x.damage ||| damageWriteError }) hd hx rfl rfl)
    · let c := { s.coder with bursts := s.coder.bursts.eraseIdx i }
      rw [if_neg (mt (writeFailed_iff a).1 hfails), if_neg hfails,
        ← replaceRecord_self (s := { s with coder := c }) hd hx]
      exact congrArg Host.Outcome.next (drainIfDone_eq_withRecord (s := { s with coder := c }) hd hx rfl rfl)
  · obtain ⟨hd, -⟩ := hdist
    rw [execHeaderWriteDone_of_listed hdev hw ha, ← href]
    exact congrArg Host.Outcome.next (enterReportWait_of_header
      (s := { s with coder := { s.coder with headers := s.coder.headers.eraseIdx i } }) hd hx a)

end Sys2Proof.Laws
end

/-! ### The trim unit over every step -/

section
set_option Elab.async false
namespace Sys2Proof.Laws

open Sys2Proof Sys2Proof.Machine Sys2Proof.Safety

/-- The slots' fields are written in their order, and the slot-state table agrees with them (R99, R100). -/
abbrev StoreOk (t : TrimUnit) : Prop :=
  ∀ k : Fin 8, SlotShape t.slots[k] ∧ t.slotStates[k] = classifySlot t.slots[k]

/-- The store with the operations in progress on it (R99 to R107). -/
abbrev TrimOk (t : TrimUnit) : Prop := StoreOk t ∧ ProgramShape t ∧ LoadShape t

/-- No written field of a slot changes (R99). -/
abbrev SlotsKept (t u : TrimUnit) : Prop := ∀ k : Fin 8, SlotKept t.slots[k] u.slots[k]

theorem slotKept_refl (k : TrimSlot) : SlotKept k k := ⟨id, .inr rfl, .inr rfl, id⟩

theorem slotsKept_of_same {t u : TrimUnit} (h : u.slots = t.slots) : SlotsKept t u := fun k => by
  rw [h]
  exact slotKept_refl _

/-- What the trim unit's invariant asks is about the store and the operations. -/
theorem trimOk_of_same {t u : TrimUnit} (hslots : u.slots = t.slots) (hstates : u.slotStates = t.slotStates)
    (hprogram : u.program = t.program) (hload : u.load = t.load) (h : TrimOk t) : TrimOk u := by
  obtain ⟨table, origin, slots, slotStates, program, load⟩ := u
  dsimp only at hslots hstates hprogram hload
  subst hslots hstates hprogram hload
  exact h

/-- One slot has been written with its state, and no other. -/
structure SlotWritten (k : Fin 8) (v : TrimSlot) (x : SlotState) (t u : TrimUnit) : Prop where
  slot : u.slots[k] = v
  state : u.slotStates[k] = x
  others : ∀ j : Fin 8, j ≠ k → u.slots[j] = t.slots[j] ∧ u.slotStates[j] = t.slotStates[j]

theorem slotWritten_of_set {k : Fin 8} {v : TrimSlot} {x : SlotState} {t u : TrimUnit}
    (hslots : u.slots = t.slots.set k v) (hstates : u.slotStates = t.slotStates.set k x) : SlotWritten k v x t u where
  slot := by
    rw [hslots]
    exact Vector.getElem_set_self k.isLt
  state := by
    rw [hstates]
    exact Vector.getElem_set_self k.isLt
  others j hj := by
    have hne : k.val ≠ j.val := fun he => hj (Fin.ext he.symm)
    rw [hslots, hstates]
    exact ⟨Vector.getElem_set_ne k.isLt j.isLt hne, Vector.getElem_set_ne k.isLt j.isLt hne⟩

section
variable {k : Fin 8} {v : TrimSlot} {x : SlotState} {t u : TrimUnit} (h : SlotWritten k v x t u)
include h

theorem SlotWritten.storeOk (hstore : StoreOk t) (hshape : SlotShape v) (hx : x = classifySlot v) : StoreOk u := by
  intro j
  by_cases hj : j = k
  · subst hj
    rw [h.slot, h.state]
    exact ⟨hshape, hx⟩
  · rw [(h.others j hj).1, (h.others j hj).2]
    exact hstore j

theorem SlotWritten.kept (hkept : SlotKept t.slots[k] v) : SlotsKept t u := by
  intro j
  by_cases hj : j = k
  · subst hj
    rw [h.slot]
    exact hkept
  · rw [(h.others j hj).1]
    exact slotKept_refl _

/-- A slot that is not PROGRAMMED is no slot that is loaded (R106). -/
theorem SlotWritten.loaded (hne : t.slotStates[k] ≠ .programmed)
    (hloaded : ∀ j ∈ loadedSlot t.load, t.slotStates[j] = .programmed) :
    ∀ j ∈ loadedSlot t.load, u.slotStates[j] = .programmed := by
  intro j hj
  have hjk : j ≠ k := fun he => hne (he ▸ hloaded j hj)
  rw [(h.others j hjk).2]
  exact hloaded j hj

end

/-! #### The steps of a programming -/

/-- Without a TRIM_PROGRAM under way nothing is said of its slot. -/
theorem programShape_of_idle {t : TrimUnit} (h : t.program = .idle) : ProgramShape t := by
  unfold ProgramShape
  rw [h]
  exact ⟨nofun, nofun, nofun⟩

theorem loadShape_of_idle {t : TrimUnit} (h : t.load = .idle) : LoadShape t := by
  unfold LoadShape
  rw [h]
  exact ⟨nofun, nofun⟩

/-- The use mark of a BLANK slot, with no slot read in progress (R104, R107). -/
theorem writeUseMark_ok {t : TrimUnit} {k : Fin 8} {image : Record} (hstore : StoreOk t) (hblank : t.slots[k] = blankSlot)
    (hloaded : ∀ j ∈ loadedSlot t.load, t.slotStates[j] = .programmed) (hread : slotReadRuns t = false) :
    TrimOk (writeUseMark t k image) ∧ SlotsKept t (writeUseMark t k image) := by
  have hwritten : SlotWritten k { t.slots[k] with useMark := true } .defective t (writeUseMark t k image) :=
    slotWritten_of_set (by rfl) (by rfl)
  have hne : t.slotStates[k] ≠ .programmed := by
    rw [(hstore k).2, hblank]
    decide
  rw [hblank] at hwritten
  refine ⟨⟨hwritten.storeOk hstore nofun (by decide), ⟨nofun, nofun, fun j hj => ?_⟩, hwritten.loaded hne hloaded,
    fun _ => rfl⟩, hwritten.kept (by rw [hblank]; decide)⟩
  obtain rfl := Option.some.inj hj
  rw [hwritten.slot, hwritten.state]
  exact ⟨rfl, rfl, rfl, .inl rfl, rfl, hread⟩

theorem startWaitingRead_kept (t : TrimUnit) : (startWaitingRead t).slots = t.slots ∧
    (startWaitingRead t).slotStates = t.slotStates ∧ (startWaitingRead t).program = t.program := by
  unfold startWaitingRead
  split <;> exact ⟨rfl, rfl, rfl⟩

/-- A slot read that waited for the programming loads the same slot, and waits no more (R107). -/
theorem startWaitingRead_load (t : TrimUnit) :
    loadedSlot (startWaitingRead t).load = loadedSlot t.load ∧ loadWaits (startWaitingRead t).load = false := by
  unfold startWaitingRead
  cases hload : t.load with
  | waiting k => exact ⟨rfl, rfl⟩
  | idle | slotRead | hostRead =>
    dsimp only
    rw [hload]
    exact ⟨rfl, rfl⟩

theorem classifySlot_verifiedSlot (written : Record) (good : Bool) :
    classifySlot (verifiedSlot written good) = if good then .programmed else .defective := by
  cases good <;> simp [classifySlot, verifiedSlot]

/-- The verify of a slot being programmed (R104, R107). -/
theorem verifyTrim_ok {t : TrimUnit} {k : Fin 8} {written : Record} {elapsed : Nat} (good : Bool) (hok : TrimOk t)
    (hprogram : t.program = .programming k written elapsed) :
    TrimOk (verifyTrim t k written good) ∧ SlotsKept t (verifyTrim t k written good) := by
  obtain ⟨hstore, ⟨-, -, hburning⟩, hloaded, -⟩ := hok
  rw [hprogram] at hburning
  obtain ⟨huse, hcheck, hvoid, himage, hdefective, -⟩ := hburning k rfl
  have hslots := startWaitingRead_kept { setSlotState (setSlot t k (verifiedSlot written good)) k
    (if good then .programmed else .defective) with program := .idle }
  have hload := startWaitingRead_load { setSlotState (setSlot t k (verifiedSlot written good)) k
    (if good then .programmed else .defective) with program := .idle }
  have hwritten : SlotWritten k (verifiedSlot written good) (if good then .programmed else .defective) t
      (verifyTrim t k written good) :=
    slotWritten_of_set hslots.1 hslots.2.1
  refine ⟨⟨hwritten.storeOk hstore nofun (classifySlot_verifiedSlot written good).symm,
    programShape_of_idle hslots.2.2, ?_, fun hwaits => ?_⟩, hwritten.kept ⟨fun _ => rfl, ?_, .inl hcheck, ?_⟩⟩
  · change ∀ j ∈ loadedSlot (startWaitingRead _).load, _
    rw [hload.1]
    exact hwritten.loaded (by rw [hdefective]; nofun) hloaded
  · exact absurd (hload.2.symm.trans hwaits) Bool.false_ne_true
  · exact himage.imp_right fun hi => hi.symm
  · exact fun hv => absurd (hvoid.symm.trans hv) Bool.false_ne_true

/-! #### The steps of the operations on the whole unit -/

/-- The trim unit keeps its invariant from t to u, and no written field changes. -/
def TrimKeeps (t u : TrimUnit) : Prop := TrimOk t → TrimOk u ∧ SlotsKept t u

theorem TrimKeeps.of_same {t u : TrimUnit} (h : u.slots = t.slots)
    (hok : TrimOk t → ProgramShape u ∧ LoadShape u) (hstates : u.slotStates = t.slotStates := by rfl) :
    TrimKeeps t u := fun ht => by
  have hstore : StoreOk u := by
    unfold StoreOk
    rw [h, hstates]
    exact ht.1
  exact ⟨⟨hstore, hok ht⟩, slotsKept_of_same h⟩

theorem TrimKeeps.refl (t : TrimUnit) : TrimKeeps t t := fun h => ⟨h, slotsKept_of_same rfl⟩

/-- A BLANK slot has no field written (R99, R100). -/
theorem eq_blankSlot_of_classify {v : TrimSlot} (hshape : SlotShape v) (h : classifySlot v = .blank) : v = blankSlot := by
  obtain ⟨useMark, image, check, voidMark⟩ := v
  cases useMark with
  | false =>
    obtain ⟨himage, hcheck, hvoid⟩ := hshape rfl
    dsimp only at himage hcheck hvoid
    rw [himage, hcheck, hvoid]
    rfl
  | true =>
    unfold classifySlot at h
    simp only [Bool.not_true, Bool.false_eq_true, if_false] at h
    split at h
    · cases h
    · split at h
      · cases h
      · split at h <;> cases h

theorem trimProgramOwner_trim (r : Record) (s : State) : TrimKeeps s.trim (trimProgramOwner r s).state.trim := by
  unfold trimProgramOwner
  dsimp only
  split
  · exact .refl _
  · split
    · exact .refl _
    · split
      · exact .refl _
      · rename_i hidle _ k hlowest
        have hprogram : s.trim.program = .idle := not_not.1 hidle
        refine .of_same rfl fun hok => ?_
        obtain ⟨hstore, -, hloaded, hwaits⟩ := hok
        refine ⟨⟨fun j hj => ?_, nofun, nofun⟩, hloaded, fun hw => ?_⟩
        · obtain rfl := Option.some.inj hj
          have hblank : s.trim.slotStates[k] = .blank := by
            unfold lowestBlank at hlowest
            exact eq_of_beq (List.find?_some (p := fun k : Fin 8 => s.trim.slotStates[k] == .blank) hlowest)
          exact ⟨eq_blankSlot_of_classify (hstore k).1 ((hstore k).2.symm.trans hblank), hblank⟩
        · have hruns := hwaits hw
          unfold programmingRuns at hruns
          rw [hprogram] at hruns
          cases hruns

theorem slotReadRuns_iff (t : TrimUnit) : slotReadRuns t = true ↔ ∃ k elapsed, t.load = .slotRead k elapsed := by
  unfold slotReadRuns
  cases t.load <;> simp

theorem programmingRuns_iff (t : TrimUnit) :
    programmingRuns t = true ↔ ∃ k image elapsed, t.program = .programming k image elapsed := by
  unfold programmingRuns
  cases t.program <;> simp

/-- The image of a TRIM_PROGRAM has been read (R103, R104, R107). -/
theorem execTrimImageReadDone_trim {a : ReadAnswer 512} {s t : State} (h : execTrimImageReadDone a s = .next t) :
    TrimKeeps s.trim t.trim := by
  unfold execTrimImageReadDone at h
  split at h
  · rename_i k address _ hreading
    have hnot : programmingRuns s.trim = false := by
      unfold programmingRuns
      rw [hreading]
    split at h
    · obtain rfl := Host.Outcome.next.inj h
      refine .of_same rfl fun hok => ?_
      obtain ⟨-, -, hloaded, hwaits⟩ := hok
      exact ⟨programShape_of_idle rfl, hloaded, fun hw => absurd (hnot.symm.trans (hwaits hw)) Bool.false_ne_true⟩
    · split at h <;> obtain rfl := Host.Outcome.next.inj h
      · rename_i hread
        refine .of_same rfl fun hok => ?_
        obtain ⟨-, ⟨hchosen, -, -⟩, hloaded, hwaits⟩ := hok
        rw [hreading] at hchosen
        exact ⟨⟨hchosen, fun _ => hread, nofun⟩, hloaded,
          fun hw => absurd (hnot.symm.trans (hwaits hw)) Bool.false_ne_true⟩
      · rename_i hread
        intro hok
        obtain ⟨hstore, ⟨hchosen, -, -⟩, hloaded, -⟩ := hok
        rw [hreading] at hchosen
        exact writeUseMark_ok hstore (hchosen k rfl).1 hloaded (Bool.eq_false_iff.2 hread)
  · obtain rfl := Host.Outcome.next.inj h
    exact .refl _

theorem execTrimProgramVerify_trim {image : Record} {check : Half} {s t : State}
    (h : execTrimProgramVerify image check s = .next t) : TrimKeeps s.trim t.trim := by
  unfold execTrimProgramVerify at h
  split at h
  · split at h <;> obtain rfl := Host.Outcome.next.inj h
    · rename_i hprogram _
      exact fun hok => verifyTrim_ok _ hok hprogram
    · exact .refl _
  · obtain rfl := Host.Outcome.next.inj h
    exact .refl _

/-! #### The steps of a load -/

/-- What a TRIM_LOAD that is not refused has passed (R106). -/
theorem loadFault_eq_none {t : TrimUnit} {source slot : Nat} {address : Addr}
    (h : loadFault t source slot address = none) :
    t.load = .idle ∧ (source ≠ 1 → t.slotStates[Fin.ofNat 8 slot] = .programmed) := by
  unfold loadFault at h
  split_ifs at h with h1 h2 h3 h4 h5
  exact ⟨not_not.1 h4, fun hs => by_contra fun hne => h5 ⟨by omega, hne⟩⟩

/-- With no TRIM_LOAD in progress no use mark waits for one (R107). -/
theorem useMarkWaits_of_idle {t : TrimUnit} (h : ProgramShape t) (hread : slotReadRuns t = false) :
    useMarkWaits t.program = false := by
  obtain ⟨-, hwaits, -⟩ := h
  exact Bool.eq_false_iff.2 fun hw => absurd (hread.symm.trans (hwaits hw)) Bool.false_ne_true

theorem slotReadRuns_of_idle {t : TrimUnit} (h : t.load = .idle) : slotReadRuns t = false := by
  unfold slotReadRuns
  rw [h]

/-- Nothing is burning while no programming runs (R104). -/
theorem burningSlot_of_not_runs {t : TrimUnit} (h : programmingRuns t = false) : burningSlot t.program = none := by
  unfold programmingRuns at h
  cases hp : t.program with
  | programming =>
    rw [hp] at h
    cases h
  | idle | reading | held => rfl

/-- A TRIM_LOAD begins its slot read only while no programming runs (R107). -/
theorem startLoad_ok {t : TrimUnit} {load : TrimLoading} (hok : TrimOk t) (hidle : t.load = .idle)
    (hloaded : ∀ k ∈ loadedSlot load, t.slotStates[k] = .programmed)
    (hwaits : loadWaits load = true → programmingRuns t = true)
    (hreads : slotReadRuns { t with load := load } = true → programmingRuns t = false) :
    ProgramShape { t with load := load } ∧ LoadShape { t with load := load } := by
  obtain ⟨-, hshape, -⟩ := hok
  have hnot := useMarkWaits_of_idle hshape (slotReadRuns_of_idle hidle)
  obtain ⟨hchosen, -, hburning⟩ := hshape
  refine ⟨⟨hchosen, fun hw => absurd (hnot.symm.trans hw) Bool.false_ne_true, fun k hk => ?_⟩, hloaded, hwaits⟩
  obtain ⟨huse, hcheck, hvoid, himage, hdefective, -⟩ := hburning k hk
  refine ⟨huse, hcheck, hvoid, himage, hdefective, Bool.eq_false_iff.2 fun hr => ?_⟩
  exact absurd ((burningSlot_of_not_runs (hreads hr)).symm.trans hk) nofun

theorem trimLoadOwner_trim (r : Record) (s : State) : TrimKeeps s.trim (trimLoadOwner r s).state.trim := by
  unfold trimLoadOwner
  dsimp only
  split
  · exact .refl _
  · rename_i hfault
    obtain ⟨hidle, hprogrammed⟩ := loadFault_eq_none hfault
    refine .of_same rfl fun hok => startLoad_ok hok hidle ?_ ?_ ?_
    · split
      · exact nofun
      · rename_i hsource
        split <;> exact fun k hk => Option.some.inj hk ▸ hprogrammed hsource
    · split
      · exact nofun
      · split
        · exact fun _ => ‹_›
        · exact nofun
    · split
      · exact nofun
      · split
        · exact nofun
        · exact fun _ => Bool.eq_false_iff.2 ‹_›

theorem liveEdit_trim (s : State) (affects : Fin 16 → Bool) : (liveEdit s affects).trim = s.trim := by
  rcases liveEdit_cases s affects with h | ⟨ref, -, h⟩ <;> rw [h]
  rfl

/-- The trim unit once an image has been installed, but for the table and its origin (R107). -/
theorem installTrim_trim (s : State) (image : Record) (origin : TrimOrigin) (aux : Nat) :
    (installTrim s image origin aux).trim =
      { s.trim with table := imageTable image, origin := origin, load := .idle } := by
  unfold installTrim
  rw [completeWork_trim, liveEdit_trim]

/-- The end of a load leaves a use mark that waits only for the slot read that has ended (R107). -/
theorem releaseHeld_ok {t : TrimUnit} (table : TrimTable) (origin : TrimOrigin) :
    TrimKeeps t (releaseHeld { t with table := table, origin := origin, load := .idle }) := by
  unfold releaseHeld
  cases hprogram : t.program with
  | held k image =>
    intro hok
    obtain ⟨hstore, ⟨hchosen, -, -⟩, -⟩ := hok
    rw [hprogram] at hchosen
    exact writeUseMark_ok (t := { t with table := table, origin := origin, load := .idle }) hstore (hchosen k rfl).1 nofun rfl
  | idle | reading | programming =>
    dsimp only
    rw [← hprogram]
    refine .of_same rfl fun hok => ?_
    obtain ⟨-, ⟨hchosen, -, hburning⟩, -⟩ := hok
    refine ⟨⟨hchosen, fun hw => ?_, fun k hk => ?_⟩, nofun, nofun⟩
    · change useMarkWaits t.program = true at hw
      rw [hprogram] at hw
      cases hw
    · obtain ⟨huse, hcheck, hvoid, himage, hdefective, -⟩ := hburning k hk
      exact ⟨huse, hcheck, hvoid, himage, hdefective, rfl⟩

theorem execTrimSlotReadDone_trim {s t : State} (h : execTrimSlotReadDone s = .next t) :
    TrimKeeps s.trim t.trim := by
  unfold execTrimSlotReadDone at h
  split at h
  · split at h <;> obtain rfl := Host.Outcome.next.inj h
    · change TrimKeeps s.trim (releaseHeld (installTrim s _ _ _).trim)
      rw [installTrim_trim]
      exact releaseHeld_ok _ _
    · exact .refl _
  · obtain rfl := Host.Outcome.next.inj h
    exact .refl _

/-- The end of a host read, with which no slot read ends (R107). -/
theorem endHostRead_ok {t : TrimUnit} {address : Addr} (table : TrimTable) (origin : TrimOrigin)
    (hload : t.load = .hostRead address) :
    TrimKeeps t { t with table := table, origin := origin, load := .idle } := by
  refine .of_same rfl fun hok => ?_
  obtain ⟨-, hshape, -⟩ := hok
  have hread : slotReadRuns t = false := by
    unfold slotReadRuns
    rw [hload]
  have hnot := useMarkWaits_of_idle hshape hread
  obtain ⟨hchosen, -, hburning⟩ := hshape
  refine ⟨⟨hchosen, fun hw => absurd (hnot.symm.trans hw) Bool.false_ne_true, fun k hk => ?_⟩, nofun, nofun⟩
  obtain ⟨huse, hcheck, hvoid, himage, hdefective, -⟩ := hburning k hk
  exact ⟨huse, hcheck, hvoid, himage, hdefective, rfl⟩

theorem execTrimHostReadDone_trim {a : ReadAnswer 512} {s t : State} (h : execTrimHostReadDone a s = .next t) :
    TrimKeeps s.trim t.trim := by
  unfold execTrimHostReadDone at h
  split at h
  · rename_i hload
    split at h <;> obtain rfl := Host.Outcome.next.inj h
    · exact endHostRead_ok s.trim.table s.trim.origin hload
    · rw [installTrim_trim]
      exact endHostRead_ok _ _ hload
  · obtain rfl := Host.Outcome.next.inj h
    exact .refl _

/-! #### A tick -/

/-- The image of the slot being programmed may be written at a tick (R104; log 10). -/
theorem tickProgram_ok (t : TrimUnit) : TrimKeeps t (tickProgram t) := by
  unfold tickProgram
  split
  · rename_i k image elapsed hprogram
    split
    · unfold tickImage
      split
      · intro hok
        obtain ⟨hstore, ⟨-, -, hburning⟩, hloaded, hwaits⟩ := hok
        rw [hprogram] at hburning
        obtain ⟨huse, hcheck, hvoid, himage, hdefective, hread⟩ := hburning k rfl
        have hwritten : SlotWritten k { t.slots[k] with image := some image } .defective t
            (setSlot { t with program := .programming k image (elapsed + 1) } k
              { t.slots[k] with image := some image }) :=
          ⟨Vector.getElem_set_self k.isLt, hdefective, fun j hj =>
            ⟨Vector.getElem_set_ne k.isLt j.isLt fun he => hj (Fin.ext he.symm), rfl⟩⟩
        have hclass : classifySlot { t.slots[k] with image := some image } = .defective := by
          unfold classifySlot
          dsimp only
          rw [huse, hvoid, hcheck]
          rfl
        refine ⟨⟨hwritten.storeOk hstore (fun hu => absurd (huse.symm.trans hu) Bool.noConfusion) hclass.symm,
          ⟨nofun, nofun, fun j hj => ?_⟩, hloaded, fun _ => rfl⟩,
          hwritten.kept ⟨id, himage.imp_right fun hi => hi.symm, .inr rfl, id⟩⟩
        obtain rfl := Option.some.inj hj
        rw [hwritten.slot]
        exact ⟨huse, hcheck, hvoid, .inr rfl, hdefective, hread⟩
      · refine .of_same rfl fun hok => ?_
        obtain ⟨-, ⟨-, -, hburning⟩, hloaded, -⟩ := hok
        rw [hprogram] at hburning
        exact ⟨⟨nofun, nofun, hburning⟩, hloaded, fun _ => rfl⟩
    · exact .refl _
  · exact .refl _

theorem tickLoad_ok (t : TrimUnit) : TrimKeeps t (tickLoad t) := by
  unfold tickLoad
  split
  · rename_i k elapsed hload
    refine .of_same rfl fun hok => ?_
    obtain ⟨-, ⟨hchosen, -, hburning⟩, hloaded, -⟩ := hok
    rw [hload] at hloaded
    refine ⟨⟨hchosen, fun _ => rfl, fun j hj => ?_⟩, hloaded, nofun⟩
    obtain ⟨-, -, -, -, -, hread⟩ := hburning j hj
    unfold slotReadRuns at hread
    rw [hload] at hread
    cases hread
  · exact .refl _

theorem slotKept_trans {a b c : TrimSlot} (h : SlotKept a b) (h' : SlotKept b c) : SlotKept a c := by
  obtain ⟨huse, himage, hcheck, hvoid⟩ := h
  obtain ⟨huse', himage', hcheck', hvoid'⟩ := h'
  have honce {α : Type} {x y z : Option α} (h : KeptOnce x y) (h' : KeptOnce y z) : KeptOnce x z := by
    rcases h with h | rfl
    · exact .inl h
    · exact h'
  exact ⟨huse' ∘ huse, honce himage himage', honce hcheck hcheck', hvoid' ∘ hvoid⟩

theorem TrimKeeps.trans {t u v : TrimUnit} (h : TrimKeeps t u) (h' : TrimKeeps u v) : TrimKeeps t v := fun ht => by
  obtain ⟨hu, hkept⟩ := h ht
  obtain ⟨hv, hkept'⟩ := h' hu
  exact ⟨hv, fun k => slotKept_trans (hkept k) (hkept' k)⟩

/-! #### Every step -/

/-- The trim unit's invariant while ENABLED. -/
theorem trimInv_of_enabled {s : State} (hdev : s.window.device = .enabled) (h : TrimOk s.trim) : TrimInv s := by
  obtain ⟨hstore, hprogram, hload⟩ := h
  exact ⟨fun k => (hstore k).1, fun _ _ k => (hstore k).2, hprogram, hload, fun hne => absurd hdev hne⟩

theorem trimOk_of_enabled {s : State} (hdev : s.window.device = .enabled) (h : TrimInv s) : TrimOk s.trim := by
  obtain ⟨hshape, hstates, hprogram, hload, -⟩ := h
  exact ⟨fun k => ⟨hshape k, hstates (by rw [hdev]; nofun) (by rw [hdev]; nofun) k⟩, hprogram, hload⟩

/-- The trim unit's invariant with no operation in progress. -/
theorem trimInv_of_idle {s : State} (hshape : ∀ k : Fin 8, SlotShape s.trim.slots[k])
    (hstates : s.window.device ≠ .init → s.window.device ≠ .halted →
      ∀ k : Fin 8, s.trim.slotStates[k] = classifySlot s.trim.slots[k])
    (hprogram : s.trim.program = .idle) (hload : s.trim.load = .idle) : TrimInv s :=
  ⟨hshape, hstates, programShape_of_idle hprogram, loadShape_of_idle hload, fun _ => ⟨hprogram, hload⟩⟩

/-- A long request's taking changes the trim unit as its owner does. -/
theorem runLong_trim {s t : State} {test : Record → Bool} {owner : Record → State → Taken}
    (howner : ∀ r u, TrimKeeps u.trim (owner r u).state.trim) (h : runLong s test owner = .next t) :
    TrimKeeps s.trim t.trim := by
  rcases runLong_cases s test owner with ⟨-, he⟩ | ⟨r, rest, -, -, -, he⟩ <;>
    obtain rfl := Host.Outcome.next.inj (he.symm.trans h)
  · exact .refl _
  · exact howner r (advanceHead s rest)

/-- A command that changes neither the store nor the operations on it. -/
theorem ChangesOnly.trimKeeps {w : List Part} {s t : State} (h : ChangesOnly w s t)
    (hslots : w.contains .slots = false := by rfl) (hwork : w.contains .trimWork = false := by rfl) :
    TrimKeeps s.trim t.trim := fun hok => by
  have hsame := h.samePart .slots hslots
  have hworks := h.samePart .trimWork hwork
  simp only [SamePart, Prod.mk.injEq] at hworks
  obtain ⟨hstates, hprogram, hload⟩ := hworks
  exact ⟨trimOk_of_same hsame hstates hprogram hload hok, slotsKept_of_same hsame⟩

/-- A command in ENABLED that does not halt the device keeps the trim unit's invariant, and every written field. -/
theorem exec_trimKeeps {c : Instr} {s t : State} (h : exec c s = .next t) (hruns : ChangesOnly (runningParts c) s t) :
    TrimKeeps s.trim t.trim := by
  cases c with
  | trimProgram => exact runLong_trim trimProgramOwner_trim h
  | trimImageReadDone a => exact execTrimImageReadDone_trim h
  | trimProgramVerify image check => exact execTrimProgramVerify_trim h
  | trimLoad => exact runLong_trim trimLoadOwner_trim h
  | trimSlotReadDone => exact execTrimSlotReadDone_trim h
  | trimHostReadDone a => exact execTrimHostReadDone_trim h
  | _ => exact hruns.trimKeeps

/-- A fatal fault ends the operations on trim (R105). -/
theorem HaltsAt.trimInv {s t : State} (h : HaltsAt beforeHaltParts s t) (hshape : ∀ k : Fin 8, SlotShape s.trim.slots[k]) :
    TrimInv t ∧ SlotsKept s.trim t.trim := by
  obtain ⟨u, cause, detail, -, hu, rfl⟩ := h
  have hslots : (enterHalted u cause detail).trim.slots = s.trim.slots := hu.samePart .slots
  refine ⟨trimInv_of_idle (fun k => ?_) (fun _ hne => absurd rfl hne) rfl rfl, slotsKept_of_same hslots⟩
  rw [hslots]
  exact hshape k

theorem scanStore_states (t : TrimUnit) (k : Fin 8) : (scanStore t).slotStates[k] = classifySlot t.slots[k] := by
  have hstates : (scanStore t).slotStates = Vector.ofFn fun k : Fin 8 => classifySlot t.slots[k] := by
    unfold scanStore
    dsimp only
    split <;> rfl
  rw [hstates]
  exact Vector.getElem_ofFn k.isLt

/-- Outside ENABLED the trim unit changes by the scan alone (R101, R105). -/
theorem OutsideStep.trimInv {s t : State} (h : OutsideStep s t) (hdev : s.window.device ≠ .enabled) (hinv : TrimInv s) :
    TrimInv t ∧ SlotsKept s.trim t.trim := by
  obtain ⟨hshape, hstates, -, -, hidle⟩ := id hinv
  obtain ⟨hprogram, hload⟩ := hidle hdev
  have hkept (hslots : SamePart .slots s t) (hwork : SamePart .trimWork s t)
      (hdevice : SamePart .device s t ∨ s.window.device ≠ .init ∧ s.window.device ≠ .halted) :
      TrimInv t ∧ SlotsKept s.trim t.trim := by
    simp only [SamePart, Prod.mk.injEq] at hslots hwork hdevice
    obtain ⟨hstates', hprogram', hload'⟩ := hwork
    refine ⟨trimInv_of_idle (by rw [hslots]; exact hshape) (fun hne hne' => ?_) (hprogram'.trans hprogram)
      (hload'.trans hload), slotsKept_of_same hslots⟩
    rw [hstates', hslots]
    rcases hdevice with ⟨hd, -⟩ | ⟨hd, hd'⟩
    · rw [hd] at hne hne'
      exact hstates hne hne'
    · exact hstates hd hd'
  cases h with
  | same => exact hkept rfl rfl (.inl rfl)
  | registers lo hi => exact hkept rfl rfl (.inl rfl)
  | enabling hdis =>
    exact hkept ((enableAction_changes s).samePart .slots) ((enableAction_changes s).samePart .trimWork)
      (.inr (by rw [hdis]; decide))
  | refused cause detail hset hcause => exact hkept rfl rfl (.inr (by rw [hset]; decide))
  | enabled b hset hfault hholdoff => exact hkept rfl rfl (.inr (by rw [hset]; decide))
  | initEnd hinit =>
    obtain ⟨hslots, hprogram', hload'⟩ := scanStore_kept s.trim
    refine ⟨trimInv_of_idle (fun k => ?_) (fun _ _ k => ?_) (hprogram'.trans hprogram) (hload'.trans hload),
      slotsKept_of_same hslots⟩
    · change SlotShape (scanStore s.trim).slots[k]
      rw [hslots]
      exact hshape k
    · change (scanStore s.trim).slotStates[k] = classifySlot (scanStore s.trim).slots[k]
      rw [scanStore_states, hslots]
  | strobe hne =>
    have hstrobe := strobeInstant_changes { s with stream := { s.stream with maintenance := some 0 } } false false
    exact hkept (hstrobe.samePart .slots) (hstrobe.samePart .trimWork) (.inl (strobeInstant_device s).1)
  | reply p w v c htaken =>
    have hreply := reply_changes s p { s.ports[p] with window := some { w with answered := true } } w v c
    exact hkept (hreply.samePart .slots) (hreply.samePart .trimWork) (.inl (hreply.samePart .device))

theorem exec_trimInv {c : Instr} {s t : State} (hinv : Inv s) (h : exec c s = .next t) :
    TrimInv t ∧ SlotsKept s.trim t.trim := by
  by_cases hreset : isReset c = true
  · obtain ⟨hjust, hslots⟩ := justReset_of_exec hinv hreset h
    exact ⟨hjust.trimInv, slotsKept_of_same hslots⟩
  · have hreset : isReset c = false := Bool.eq_false_iff.2 hreset
    have htrim : TrimInv s := by
      obtain ⟨-, -, -, -, -, -, -, -, -, htrim, -⟩ := hinv
      exact htrim
    by_cases hdev : s.window.device = .enabled
    · rcases exec_running hdev hreset h with hhalts | hruns
      · exact hhalts.trimInv htrim.1
      · obtain ⟨hok, hkept⟩ := exec_trimKeeps h hruns (trimOk_of_enabled hdev htrim)
        have hdevice := congrArg Prod.fst (hruns.samePart .device runningParts_device)
        exact ⟨trimInv_of_enabled (hdevice.trans hdev) hok, hkept⟩
    · exact ((outOfService_of_inv hinv hdev).outsideStep hreset h).trimInv hdev htrim

theorem tick_trimInv {s : State} (hinv : TrimInv s) : TrimInv (tick s) ∧ SlotsKept s.trim (tick s).trim := by
  by_cases hdev : s.window.device = .enabled
  · obtain ⟨hok, hkept⟩ := (tickProgram_ok s.trim).trans (tickLoad_ok _) (trimOk_of_enabled hdev hinv)
    exact ⟨trimInv_of_enabled hdev hok, hkept⟩
  · obtain ⟨hshape, hstates, -, -, hidle⟩ := id hinv
    obtain ⟨hprogram, hload⟩ := hidle hdev
    have hsame : (tick s).trim = s.trim := by
      change tickLoad (tickProgram s.trim) = _
      unfold tickProgram
      rw [hprogram]
      dsimp only
      unfold tickLoad
      rw [hload]
    refine ⟨?_, slotsKept_of_same (by rw [hsame])⟩
    have hkept : TrimInv { tick s with trim := s.trim } := hinv
    rwa [← hsame] at hkept

end Sys2Proof.Laws
end

/-! ### The row in progress and the channels over every command -/

section
set_option Elab.async false
namespace Sys2Proof.Laws

open Sys2Proof Sys2Proof.Machine Sys2Proof.Safety

/-- A row still in progress is the one that was, with its frame and its fixed samples (R82, R88). -/
def RowKept (s t : State) : Prop := ∀ r ∈ t.row, ∃ x ∈ s.row, r.frame = x.frame ∧ r.fixed = x.fixed

/-- A row has been strobed: the generators have advanced, and a row in progress is of the current frame with its
samples fixed at the strobe (R82, R84, R85). -/
def RowStruck (s t : State) : Prop :=
  t.channels = (Vector.ofFn fun c : Fin 16 => advanceGenerator s.channels[c]) ∧
    ∀ r ∈ t.row, r.frame = t.stream.current ∧ r.fixed = Vector.ofFn fun c : Fin 16 => fixSample s.channels[c]

/-- Where the row in progress and the channels after a command come from. -/
def RowFrom (s t : State) : Prop := t.channels = s.channels ∧ RowKept s t ∨ RowStruck s t

theorem RowKept.refl (s : State) : RowKept s s := fun r hr => ⟨r, hr, rfl, rfl⟩

theorem rowKept_of_none {s t : State} (h : t.row = none) : RowKept s t := fun _ hr =>
  absurd (h.symm.trans hr) nofun

theorem rowKept_of_same {s t : State} (h : t.row = s.row) : RowKept s t := fun r hr => ⟨r, h ▸ hr, rfl, rfl⟩

theorem RowKept.trans {s t u : State} (h : RowKept s t) (h' : RowKept t u) : RowKept s u := fun r hr => by
  obtain ⟨x, hx, hframe, hfixed⟩ := h' r hr
  obtain ⟨y, hy, hframe', hfixed'⟩ := h x hx
  exact ⟨y, hy, hframe.trans hframe', hfixed.trans hfixed'⟩

/-- An operation that changes neither the row in progress nor the channels. -/
theorem ChangesOnly.rowKept {w : List Part} {s t : State} (h : ChangesOnly w s t)
    (hrow : w.contains .row = false := by rfl) : RowKept s t :=
  rowKept_of_same (h.samePart .row hrow)

theorem ChangesOnly.rowFrom {w : List Part} {s t : State} (h : ChangesOnly w s t)
    (hrow : w.contains .row = false := by rfl) (hchannels : w.contains .channels = false := by rfl) : RowFrom s t :=
  .inl ⟨h.samePart .channels hchannels, h.rowKept hrow⟩

/-- Before it an operation has changed neither. -/
theorem RowFrom.after {w : List Part} {s u t : State} (hu : ChangesOnly w s u) (h : RowFrom u t)
    (hrow : w.contains .row = false := by rfl) (hchannels : w.contains .channels = false := by rfl) : RowFrom s t := by
  have hsame : u.channels = s.channels := hu.samePart .channels hchannels
  refine h.imp (fun hkept => ⟨hkept.1.trans hsame, (hu.rowKept hrow).trans hkept.2⟩) fun hstruck => ?_
  unfold RowStruck at hstruck ⊢
  rwa [hsame] at hstruck

/-- After it an operation changes neither, nor the current frame. -/
theorem RowFrom.before {w : List Part} {s u t : State} (h : RowFrom s u) (ht : ChangesOnly w u t)
    (hrow : w.contains .row = false := by rfl) (hchannels : w.contains .channels = false := by rfl)
    (hcurrent : w.contains .current = false := by rfl) : RowFrom s t := by
  have hrow' : t.row = u.row := ht.samePart .row hrow
  have hchannels' : t.channels = u.channels := ht.samePart .channels hchannels
  have hcurrent' : t.stream.current = u.stream.current := ht.samePart .current hcurrent
  unfold RowFrom RowKept RowStruck at h ⊢
  rwa [hrow', hchannels', hcurrent']

/-! #### The operations of the intake -/

theorem decideCondition_rowKept (s : State) (p : Fin 4) (c : Condition) : RowKept s (decideCondition s p c) := by
  rcases decideCondition_cases s p c with h | ⟨r, hr, -, h⟩ <;> rw [h]
  · exact .refl s
  · intro x hx
    obtain rfl := Option.some.inj hx
    exact ⟨r, hr, rfl, rfl⟩

theorem finishAlign_rowKept (s : State) (p : Fin 4) (o : AlignOutcome) : RowKept s (finishAlign s p o) :=
  (finishAlign_changes s p o).rowKept

theorem applyVerdict_rowKept (s : State) (p : Fin 4) (w : ReplyWindow) (v : Verdict) (c : Condition) :
    RowKept s (applyVerdict s p w v c) := by
  unfold applyVerdict
  dsimp only
  cases s.ports[p].state with
  | up =>
    dsimp only
    split
    · exact .refl s
    · split
      · exact decideCondition_rowKept (setPort s p (judgeUp s.ports[p] v)) p c
      · exact .refl s
  | aligning =>
    dsimp only
    split
    · exact finishAlign_rowKept (setPort s p _) p _
    · exact .refl s
  | off | lost => exact .refl s

theorem cutShort_rowKept (s : State) (p : Fin 4) (w : ReplyWindow) : RowKept s (cutShort s p w) := by
  unfold cutShort
  split
  · exact finishAlign_rowKept (setPort s p _) p _
  · exact .refl s

theorem closeAtStrobe_rowKept (cut : Bool) (s : State) (p : Fin 4) : RowKept s (closeAtStrobe cut s p) := by
  unfold closeAtStrobe
  cases s.ports[p].window with
  | none => exact .refl s
  | some w =>
    dsimp only
    split
    · exact .refl s
    · split
      · exact cutShort_rowKept (setPort s p (closeWindow s.ports[p])) p w
      · exact applyVerdict_rowKept (setPort s p (closeWindow s.ports[p])) p w _ _

theorem foldl_closeAtStrobe_rowKept (cut : Bool) (l : List (Fin 4)) (s : State) :
    RowKept s (l.foldl (closeAtStrobe cut) s) := by
  induction l generalizing s with
  | nil => exact .refl s
  | cons p l ih => exact (closeAtStrobe_rowKept cut s p).trans (ih _)

theorem completeRow_row (s : State) : (completeRow s).row = none := by
  rcases completeRow_cases s with ⟨hrow, h⟩ | ⟨r, -, ⟨-, h⟩ | ⟨x, -, h⟩⟩ <;> rw [h]
  · exact hrow
  · exact (handOver_changes { s with row := none } r x).samePart .row

theorem completeRowIfDone_rowKept (s : State) : RowKept s (completeRowIfDone s) := by
  unfold completeRowIfDone
  cases s.row with
  | none => exact .refl s
  | some r =>
    dsimp only
    split
    · exact rowKept_of_none (completeRow_row s)
    · exact .refl s

/-- A strobe instant leaves no row in progress (R88). -/
theorem strobeInstant_row (s : State) (atRow cut : Bool) : (strobeInstant s atRow cut).row = none :=
  completeRow_row _

theorem rowStrobe_rowStruck (s : State) (index : Nat) (cut : Bool) : RowStruck s (rowStrobe s index cut) := by
  have hchannels : (strobeInstant s true cut).channels = s.channels :=
    (strobeInstant_changes s true cut).samePart .channels
  unfold rowStrobe
  dsimp only
  generalize strobeInstant s true cut = u at hchannels ⊢
  have hdone := completeRowIfDone_changes { u with
    row := some (rowAtStrobe u index)
    channels := Vector.ofFn fun c : Fin 16 => advanceGenerator u.channels[c] }
  have hkept := completeRowIfDone_rowKept { u with
    row := some (rowAtStrobe u index)
    channels := Vector.ofFn fun c : Fin 16 => advanceGenerator u.channels[c] }
  have hsame : (completeRowIfDone { u with
      row := some (rowAtStrobe u index)
      channels := Vector.ofFn fun c : Fin 16 => advanceGenerator u.channels[c] }).channels =
      Vector.ofFn fun c : Fin 16 => advanceGenerator u.channels[c] := hdone.samePart .channels
  have hcurrent : (completeRowIfDone { u with
      row := some (rowAtStrobe u index)
      channels := Vector.ofFn fun c : Fin 16 => advanceGenerator u.channels[c] }).stream.current =
      u.stream.current := hdone.samePart .current
  refine ⟨by rw [hsame, hchannels], fun r hr => ?_⟩
  obtain ⟨x, hx, hframe, hfixed⟩ := hkept r hr
  obtain rfl := Option.some.inj hx
  rw [hcurrent, hframe, hfixed, ← hchannels]
  exact ⟨rfl, rfl⟩

/-! #### The commands -/

theorem beginRow0_rowFrom (s : State) : RowFrom s (beginRow0 s) := by
  unfold beginRow0
  cases s.stream.setUp with
  | none => exact .inl ⟨rfl, .refl s⟩
  | some f =>
    have hopened := openFrame_changes s f
    have hbegun : ChangesOnly [.coder, .records, .streamState, .current, .setUp] s
        { openFrame s f with stream := beginStream (openFrame s f).stream f } :=
      hopened.then (.of_parts fun x => by
        cases x with
        | streamState | current | setUp => exact .inl (by decide)
        | _ => exact .inr rfl) (w' := [.streamState, .current, .setUp])
    exact .after hbegun (.inr (rowStrobe_rowStruck _ 0 _))

theorem beginRow_rowFrom (s : State) (f : SlotFrame) (index : Nat) : RowFrom s (beginRow s f index) := by
  have hstruck := rowStrobe_rowStruck
    { s with stream := { s.stream with rowIndex := index, rowTimer := 0, frameMark := false } } index false
  unfold beginRow
  dsimp only
  generalize rowStrobe
    { s with stream := { s.stream with rowIndex := index, rowTimer := 0, frameMark := false } } index false = u
    at hstruck ⊢
  have hstruck : RowFrom s u := .inr hstruck
  split
  · exact hstruck.before (frameSetup_changes _)
  · exact hstruck

/-- A drop report leaves the channels, and the row in progress or none (R181). -/
theorem reportDropped_rowFrom (s : State) (f : SlotFrame) :
    (reportDropped s f).channels = s.channels ∧ RowKept s (reportDropped s f) := by
  rcases reportDropped_cases s f with h | h
  · exact ⟨h.samePart .channels, h.rowKept⟩
  · rw [h]
    exact ⟨rfl, rowKept_of_none rfl⟩

theorem frameEnd_rowFrom (s : State) (f : SlotFrame) : RowFrom s (frameEnd s f) := by
  obtain ⟨hchannels, hkept⟩ := reportDropped_rowFrom { s with stream := { s.stream with current := none } } f
  unfold frameEnd
  dsimp only
  generalize reportDropped { s with stream := { s.stream with current := none } } f = u at hchannels hkept
  have hreleased : RowFrom s u := .inl ⟨hchannels, hkept⟩
  split
  · split
    · rcases beginRow0_rowFrom u with ⟨hsame, hrow⟩ | hstruck
      · exact .inl ⟨hsame.trans hchannels, hkept.trans hrow⟩
      · unfold RowStruck at hstruck
        rw [hchannels] at hstruck
        exact .inr hstruck
    · exact hreleased.before (setStreamState_changes u .waiting)
    · exact hreleased.before (endRun_changes u)
    · exact hreleased
  · exact hreleased

theorem execRowEnd_rowFrom {s t : State} (h : execRowEnd s = .next t) : RowFrom s t := by
  unfold execRowEnd at h
  split at h
  · obtain rfl := Host.Outcome.next.inj h
    exact .inl ⟨rfl, .refl _⟩
  · split at h <;> obtain rfl := Host.Outcome.next.inj h
    · exact beginRow_rowFrom s _ _
    · exact frameEnd_rowFrom s _

theorem startRun_rowFrom (s : State) (mode : StartMode) : RowFrom s (startRun s mode) := by
  have hready : ChangesOnly [.schedule, .pend] s
      { s with stream := { s.stream with mode := mode }, schedule := restartPosition s.schedule } :=
    .of_parts fun p => by
      cases p with
      | schedule | pend => exact .inl (by decide)
      | _ => exact .inr rfl
  have hsetup : ChangesOnly setupParts s (frameSetup
      { s with stream := { s.stream with mode := mode }, schedule := restartPosition s.schedule }) :=
    hready.then (frameSetup_changes _)
  unfold startRun
  dsimp only
  generalize frameSetup { s with stream := { s.stream with mode := mode }, schedule := restartPosition s.schedule } =
    u at hsetup ⊢
  cases mode with
  | free => exact .before (.after hsetup (beginRow0_rowFrom u)) (setPaused_changes _ false)
  | triggered =>
    refine .after hsetup (.inl ⟨rfl, rowKept_of_same rfl⟩)

/-- The end of a run by ABORT leaves no row in progress, or, in STOPPED, the row that was (R92). -/
theorem abortRun_rowKept (s : State) : RowKept s (abortRun s) := by
  unfold abortRun
  split
  · exact .refl s
  · dsimp only
    have hnone : (abortCurrent { completeStopEnd s with
        stream := { (completeStopEnd s).stream with frameMark := false }, row := none }).row = none := by
      rcases abortCurrent_cases { completeStopEnd s with
        stream := { (completeStopEnd s).stream with frameMark := false }, row := none } with h | h
      · exact h.samePart .row
      · rw [h]
        rfl
    generalize abortCurrent { completeStopEnd s with
      stream := { (completeStopEnd s).stream with frameMark := false }, row := none } = u at hnone
    refine rowKept_of_none ?_
    split
    · have hcancelled : (cancelSetUp { u with stream := { u.stream with current := none } }).row = u.row :=
        (cancelSetUp_changes _).samePart .row
      exact hcancelled.trans hnone
    · exact hnone

/-- An immediate request's taking, by what its owner does to the row. -/
theorem runImmediate_rowFrom {s t : State} {test : Record → Bool} {owner : Record → State → State × Answer}
    (howner : ∀ r u, RowFrom u (owner r u).1) (h : runImmediate s test owner = .next t) : RowFrom s t := by
  rcases runImmediate_cases s test owner with ⟨-, he⟩ | ⟨r, rest, -, -, -, he⟩ <;>
    obtain rfl := Host.Outcome.next.inj (he.symm.trans h)
  · exact .inl ⟨rfl, .refl _⟩
  · exact howner r (advanceHead s rest)

theorem startOwner_rowFrom (r : Record) (s : State) : RowFrom s (startOwner r s).1 := by
  unfold startOwner
  dsimp only
  split
  · exact .inl ⟨rfl, .refl s⟩
  · split
    · exact .inl ⟨rfl, .refl s⟩
    · exact startRun_rowFrom s _

theorem portAlignOwner_rowKept (r : Record) (s : State) : RowKept s (portAlignOwner r s).state := by
  unfold portAlignOwner
  dsimp only
  split
  · exact .refl s
  · exact (decideCondition_rowKept (setPort s _ _) _ _).trans (completeRowIfDone_rowKept _)

/-- The row after a command in ENABLED, but for SET_CHANNEL, which leaves it and writes a channel. -/
theorem exec_rowFrom {c : Instr} {s t : State} (hc : c ≠ .setChannel) (h : exec c s = .next t)
    (hruns : ChangesOnly (runningParts c) s t) : RowFrom s t := by
  have hkept (hrow : RowKept s t) (hchannels : (runningParts c).contains .channels = false) : RowFrom s t :=
    .inl ⟨hruns.samePart .channels hchannels, hrow⟩
  cases c with
  | rowEnd => exact execRowEnd_rowFrom h
  | maintenanceStrobe =>
    refine hkept ?_ rfl
    change execMaintenanceStrobe s = _ at h
    unfold execMaintenanceStrobe at h
    split at h <;> obtain rfl := Host.Outcome.next.inj h
    · exact rowKept_of_none (strobeInstant_row _ _ _)
    · exact .refl _
  | triggerEdge =>
    change execTriggerEdge s = _ at h
    unfold execTriggerEdge at h
    split at h <;> obtain rfl := Host.Outcome.next.inj h
    · exact beginRow0_rowFrom s
    · exact .inl ⟨rfl, rowKept_of_same rfl⟩
    · exact .inl ⟨rfl, .refl _⟩
  | replyReceived p own bits =>
    refine hkept ?_ rfl
    change execReplyReceived p own bits s = _ at h
    unfold execReplyReceived at h
    split at h <;> obtain rfl := Host.Outcome.next.inj h
    · exact .refl _
    · exact (applyVerdict_rowKept (setPort s p _) p _ _ _).trans (completeRowIfDone_rowKept _)
  | start => exact runImmediate_rowFrom startOwner_rowFrom h
  | stopAbort =>
    refine hkept ?_ rfl
    change execStopAbort s = _ at h
    unfold execStopAbort at h
    split at h <;> obtain rfl := Host.Outcome.next.inj h
    · exact .refl _
    · rename_i r taken htaken
      obtain ⟨rest, -, -, -, rfl⟩ := (takeImmediate_eq_some_iff s _ r taken).1 htaken
      exact abortRun_rowKept (answerImmediate r (useFree (advanceHead s rest)) _)
  | portAlign =>
    refine hkept ?_ rfl
    rcases runLong_cases s (ofKind kindPortAlign) portAlignOwner with ⟨-, he⟩ | ⟨r, rest, -, -, -, he⟩ <;>
      obtain rfl := Host.Outcome.next.inj (he.symm.trans h)
    · exact .refl _
    · exact portAlignOwner_rowKept r (advanceHead s rest)
  | setChannel => exact absurd rfl hc
  | powerOnReset straps => exact hruns.rowFrom
  | reset => exact hruns.rowFrom
  | _ => exact hruns.rowFrom

end Sys2Proof.Laws
end

/-! ### The sources over every step -/

section
set_option Elab.async false
namespace Sys2Proof.Laws

open Sys2Proof Sys2Proof.Machine Sys2Proof.Safety

/-- A channel's generators are in their ranges (R84, R85, R87). -/
abbrev ChannelOk (c : Channel) : Prop := SampleValue c.constant ∧ SampleValue c.ramp ∧ c.prbs ≠ 0

theorem nextRamp_sampleValue {v : Int} (h : SampleValue v) : SampleValue (nextRamp v) := by
  obtain ⟨hlow, hhigh⟩ := h
  unfold nextRamp SampleValue
  split <;> omega

/-- A PRBS state that is not 0 is followed by one that is not 0 (R85). -/
theorem nextPrbs_ne_zero {v : BitVec 15} (h : v ≠ 0) : nextPrbs v ≠ 0 := by
  intro hnext
  refine h (BitVec.eq_of_toNat_eq ?_)
  have hvalue := congrArg BitVec.toNat hnext
  rw [nextPrbs_eq, BitVec.toNat_ofNat] at hvalue
  have hlt := v.isLt
  have hhigh : v.getLsbD 14 = decide (2 ^ 14 ≤ v.toNat) := by
    rw [← BitVec.testBit_toNat, Nat.testBit_eq_decide_div_mod_eq]
    congr 1
    rw [eq_iff_iff]
    omega
  by_cases hsame : v.getLsbD 14 = v.getLsbD 13
  · rw [if_pos hsame] at hvalue
    have hzero : v.toNat = 0 ∨ v.toNat = 2 ^ 14 := by
      change (2 * v.toNat + 0) % 2 ^ 15 = 0 at hvalue
      omega
    refine hzero.resolve_right fun hv => ?_
    have htop : v = 16384#15 := BitVec.eq_of_toNat_eq hv
    rw [htop] at hsame
    revert hsame
    decide
  · rw [if_neg hsame] at hvalue
    change (2 * v.toNat + 1) % 2 ^ 15 = 0 at hvalue
    omega

theorem advanceGenerator_ok {c : Channel} (h : ChannelOk c) : ChannelOk (advanceGenerator c) := by
  obtain ⟨hconstant, hramp, hprbs⟩ := h
  unfold advanceGenerator
  split
  · exact ⟨hconstant, nextRamp_sampleValue hramp, hprbs⟩
  · exact ⟨hconstant, hramp, nextPrbs_ne_zero hprbs⟩
  · exact ⟨hconstant, hramp, hprbs⟩

/-- No test sample is the marker (R87). -/
theorem fixSample_testValue {c : Channel} (h : ChannelOk c) : ∀ v ∈ testValue (fixSample c), SampleValue v := by
  obtain ⟨hconstant, hramp, -⟩ := h
  intro v hv
  unfold fixSample at hv
  split at hv
  · cases hv
  · exact Option.some.inj hv ▸ hconstant
  · exact Option.some.inj hv ▸ hramp
  · obtain rfl := Option.some.inj hv
    have hlt := c.prbs.isLt
    exact ⟨by omega, by omega⟩

/-- The sources keep their ranges, whether or not a row is strobed (R84, R85, R87). -/
theorem RowFrom.sourceInv {s t : State} (h : RowFrom s t) (hinv : SourceInv s) : SourceInv t := by
  obtain ⟨hchannels, hrow⟩ := hinv
  rcases h with ⟨hsame, hkept⟩ | ⟨hadvanced, hstruck⟩
  · refine ⟨fun c => by rw [hsame]; exact hchannels c, fun r hr c v hv => ?_⟩
    obtain ⟨x, hx, -, hfixed⟩ := hkept r hr
    rw [hfixed] at hv
    exact hrow x hx c v hv
  · refine ⟨fun c => ?_, fun r hr c v hv => ?_⟩
    · have hc : t.channels[c] = advanceGenerator s.channels[c] := by
        rw [hadvanced]
        exact Vector.getElem_ofFn c.isLt
      rw [hc]
      exact advanceGenerator_ok (hchannels c)
    · have hc : r.fixed[c] = fixSample s.channels[c] := by
        rw [(hstruck r hr).2]
        exact Vector.getElem_ofFn c.isLt
      rw [hc] at hv
      exact fixSample_testValue (hchannels c) v hv

theorem editChannel_ok {c : Channel} {o : ChannelOperands} (h : ChannelOk c) (ho : SampleValue o.constant) :
    ChannelOk (editChannel c o) := by
  obtain ⟨-, hramp, hprbs⟩ := h
  unfold editChannel
  refine ⟨ho, ?_, ?_⟩ <;> dsimp only
  · split
    · exact ho
    · exact hramp
  · split
    · decide
    · exact hprbs

theorem channelFault_eq_none {s : State} {o : ChannelOperands} (h : channelFault s o = none) :
    SampleValue o.constant := by
  unfold channelFault at h
  split_ifs at h with h1 h2 h3 h4 h5
  exact (inRange_constant_iff o.constant).1 (by simpa using h4)

/-- The write of one channel entry (R83). -/
theorem setChannelEntry_sourceInv {s u : State} {new : Channel} (hinv : SourceInv s) (hu : ChangesOnly [.records] s u)
    (k : Fin 16) (hnew : ChannelOk new) : SourceInv { u with channels := u.channels.set k new } := by
  have hrow : u.row = s.row := hu.samePart .row
  have hchannels : u.channels = s.channels := hu.samePart .channels
  obtain ⟨hok, hfixed⟩ := hinv
  refine ⟨fun c => ?_, by rw [hrow]; exact hfixed⟩
  change ChannelOk (u.channels.set k new)[c]
  by_cases hc : c = k
  · subst hc
    have hself : (u.channels.set c new)[c] = new := Vector.getElem_set_self c.isLt
    rw [hself]
    exact hnew
  · have hne : (u.channels.set k new)[c] = u.channels[c] :=
      Vector.getElem_set_ne k.isLt c.isLt fun he => hc (Fin.ext he.symm)
    rw [hne, hchannels]
    exact hok c

theorem setChannelOwner_sourceInv {r : Record} {s : State} (hinv : SourceInv s) : SourceInv (setChannelOwner r s).1 := by
  unfold setChannelOwner
  dsimp only
  split
  · exact hinv
  · rename_i hfault
    exact setChannelEntry_sourceInv hinv (.ite (liveEdit_changes s _) (.refl _ s)) _
      (editChannel_ok (hinv.1 _) (channelFault_eq_none hfault))

theorem execSetChannel_sourceInv {s t : State} (hinv : SourceInv s) (h : exec .setChannel s = .next t) : SourceInv t := by
  rcases runImmediate_cases s (ofKind kindSetChannel) setChannelOwner with ⟨-, he⟩ | ⟨r, rest, -, -, -, he⟩ <;>
    obtain rfl := Host.Outcome.next.inj (he.symm.trans h)
  · exact hinv
  · exact setChannelOwner_sourceInv (r := r) (s := advanceHead s rest) hinv

theorem OutsideStep.rowFrom {s t : State} (h : OutsideStep s t) : RowFrom s t := by
  cases h with
  | same => exact .inl ⟨rfl, .refl _⟩
  | registers lo hi => exact .inl ⟨rfl, .refl _⟩
  | enabling hdis => exact (enableAction_changes s).rowFrom
  | refused cause detail hset hcause => exact .inl ⟨rfl, .refl _⟩
  | enabled b hset hfault hholdoff => exact .inl ⟨rfl, .refl _⟩
  | initEnd hinit => exact .inl ⟨rfl, .refl _⟩
  | strobe hne =>
    have hstrobe := strobeInstant_changes { s with stream := { s.stream with maintenance := some 0 } } false false
    exact .inl ⟨hstrobe.samePart .channels, rowKept_of_none (strobeInstant_row _ _ _)⟩
  | reply p w v c htaken =>
    have hreply := reply_changes s p { s.ports[p] with window := some { w with answered := true } } w v c
    exact .inl ⟨hreply.samePart .channels,
      (applyVerdict_rowKept (setPort s p _) p _ _ _).trans (completeRowIfDone_rowKept _)⟩

/-- A fatal fault ends the row in progress (R94). -/
theorem HaltsAt.rowFrom {s t : State} (h : HaltsAt beforeHaltParts s t) : RowFrom s t := by
  obtain ⟨u, cause, detail, -, hu, rfl⟩ := h
  exact .inl ⟨hu.samePart .channels, rowKept_of_none rfl⟩

theorem exec_sourceInv {c : Instr} {s t : State} (hinv : Inv s) (h : exec c s = .next t) : SourceInv t := by
  have hsource : SourceInv s := by
    obtain ⟨-, -, -, -, -, -, hsource, -⟩ := hinv
    exact hsource
  by_cases hreset : isReset c = true
  · exact (justReset_of_exec hinv hreset h).1.sourceInv
  · have hreset : isReset c = false := Bool.eq_false_iff.2 hreset
    by_cases hdev : s.window.device = .enabled
    · rcases exec_running hdev hreset h with hhalts | hruns
      · exact hhalts.rowFrom.sourceInv hsource
      · by_cases hc : c = .setChannel
        · subst hc
          exact execSetChannel_sourceInv hsource h
        · exact (exec_rowFrom hc h hruns).sourceInv hsource
    · exact ((outOfService_of_inv hinv hdev).outsideStep hreset h).rowFrom.sourceInv hsource

end Sys2Proof.Laws
end

/-! ### The ports over the operations of the intake -/

section
set_option Elab.async false
namespace Sys2Proof.Laws

open Sys2Proof Sys2Proof.Machine Sys2Proof.Safety

/-- One entry stands for each alignment in progress (R78). -/
abbrev AlignCounted (s : State) : Prop :=
  ∀ p : Fin 4, underWay s (.align p) = if s.ports[p].state = .aligning then 1 else 0

/-- What a port record asks, but for its last request. -/
abbrev PortsOk (s : State) : Prop :=
  ∀ p : Fin 4, PortShape s.ports[p] ∧ (fitted s ≤ p.val → s.ports[p] = resetPort .off)

/-- The ports' invariant outside HALTED, but for the last request of one port. -/
abbrev LinkInvBut (p : Fin 4) (s : State) : Prop :=
  PortsOk s ∧ (∀ k : Fin 4, k ≠ p → LastRequestOpen s.ports[k]) ∧ AlignCounted s

/-- The ports' invariant outside HALTED: their counts, their last requests, and the entries of their alignments. -/
abbrev LinkInv (s : State) : Prop :=
  PortsOk s ∧ (∀ p : Fin 4, LastRequestOpen s.ports[p]) ∧ AlignCounted s

/-- The port has an alignment request left, if it is ALIGNING (R77). -/
abbrev RequestLeft (q : Port) : Prop := q.state = .aligning → q.alignSpent < 512

theorem lastRequestOpen_of_left {q : Port} (h : RequestLeft q) : LastRequestOpen q := fun hstate hspent =>
  absurd (h hstate) (by rw [hspent]; exact Nat.lt_irrefl 512)

theorem LinkInv.but {s : State} (h : LinkInv s) (p : Fin 4) : LinkInvBut p s := by
  obtain ⟨hports, hlast, hcount⟩ := h
  exact ⟨hports, fun k _ => hlast k, hcount⟩

theorem LinkInvBut.whole {p : Fin 4} {s : State} (h : LinkInvBut p s) (hlast : LastRequestOpen s.ports[p]) :
    LinkInv s := by
  obtain ⟨hports, hothers, hcount⟩ := h
  refine ⟨hports, fun k => ?_, hcount⟩
  by_cases hk : k = p
  · exact hk ▸ hlast
  · exact hothers k hk

/-- An operation that changes neither the ports nor the entries of their alignments. -/
theorem ChangesOnly.linkInv {w : List Part} {s t : State} (h : ChangesOnly w s t) (hinv : LinkInv s)
    (hinputs : w.contains .inputs = false := by rfl) (hports : w.contains .ports = false := by rfl)
    (halign : w.contains .alignWork = false := by rfl) : LinkInv t := by
  have hin := h.samePart .inputs hinputs
  have hsame : t.ports = s.ports := h.samePart .ports hports
  have hcount := h.samePart .alignWork halign
  simp only [SamePart, Prod.mk.injEq] at hin hcount
  obtain ⟨-, -, hstraps⟩ := hin
  obtain ⟨hok, hlast, hcounted⟩ := hinv
  refine ⟨fun p => ?_, fun p => by rw [hsame]; exact hlast p, fun p => ?_⟩
  · unfold fitted
    rw [hsame, hstraps]
    exact hok p
  · rw [hsame, congrFun hcount p]
    exact hcounted p

theorem getElem_setPort_ne {s : State} {p k : Fin 4} (q : Port) (h : k ≠ p) : (setPort s p q).ports[k] = s.ports[k] :=
  Vector.getElem_set_ne p.isLt k.isLt fun he => h (Fin.ext he.symm)

/-- Port p of s has become q, with the entries of its alignment as q's state says, and no other port has changed. -/
structure PortBecomes (p : Fin 4) (q : Port) (s t : State) : Prop where
  port : t.ports[p] = q
  others : ∀ k : Fin 4, k ≠ p → t.ports[k] = s.ports[k]
  straps : t.window.straps = s.window.straps
  count : underWay t (.align p) = if q.state = .aligning then 1 else 0
  counts : ∀ k : Fin 4, k ≠ p → underWay t (.align k) = underWay s (.align k)

theorem PortBecomes.linkInvBut {p : Fin 4} {q : Port} {s t : State} (h : PortBecomes p q s t) (hinv : LinkInvBut p s)
    (hfit : p.val < fitted s) (hshape : PortShape q) : LinkInvBut p t := by
  obtain ⟨hports, hothers, hcount⟩ := hinv
  have hfitted : fitted t = fitted s := congrArg (fun x : BitVec 2 => x.toNat + 1) h.straps
  refine ⟨fun k => ?_, fun k hk => ?_, fun k => ?_⟩
  · rw [hfitted]
    by_cases hk : k = p
    · subst hk
      rw [h.port]
      exact ⟨hshape, fun hle => absurd hfit (Nat.not_lt.2 hle)⟩
    · rw [h.others k hk]
      exact hports k
  · rw [h.others k hk]
    exact hothers k hk
  · by_cases hk : k = p
    · subst hk
      rw [h.port]
      exact h.count
    · rw [h.others k hk, h.counts k hk]
      exact hcount k

/-- A change of a port's record that leaves it ALIGNING or not. -/
theorem setPort_becomes {s : State} {p : Fin 4} {q : Port} (hcount : AlignCounted s)
    (hstate : q.state = .aligning ↔ s.ports[p].state = .aligning) : PortBecomes p q s (setPort s p q) where
  port := getElem_setPort_self s p q
  others _ hk := getElem_setPort_ne q hk
  straps := rfl
  count := (hcount p).trans (if_congr hstate.symm rfl rfl)
  counts _ _ := rfl

/-! #### Verdicts -/

/-- What a verdict makes of an ALIGNING port: still ALIGNING with a request left, or its alignment ended (R77). -/
def AlignJudged (q : Port) (x : Port × AlignOutcome) : Prop :=
  PortShape x.1 ∧ x.1.window = q.window ∧
    (x.1.state = .aligning ∧ x.2 = .goesOn ∧ x.1.alignSpent < 512 ∨ x.1.state ≠ .aligning ∧ x.2 ≠ .goesOn)

theorem changePort_shape {q : Port} {state : PortState} {cause : PortCause} (h : PortShape q) :
    PortShape (changePort q state cause) := by
  obtain ⟨-, -, -, -, hpulse, -⟩ := h
  exact ⟨Nat.succ_pos 7, Nat.succ_pos 7, Nat.zero_le _, Nat.min_le_left _ _, hpulse, fun _ => rfl, fun _ => ⟨rfl, rfl⟩⟩

theorem spendCheck_judged {q : Port} (h : PortShape q) (hstate : q.state = .aligning) : AlignJudged q (spendCheck q) := by
  unfold spendCheck
  split
  · exact ⟨changePort_shape h, rfl, .inr ⟨nofun, nofun⟩⟩
  · exact ⟨h, rfl, .inl ⟨hstate, rfl, Nat.not_le.1 ‹_›⟩⟩

theorem judgeAligning_judged {q : Port} (h : PortShape q) (hstate : q.state = .aligning) (v : Verdict) :
    AlignJudged q (judgeAligning q v) := by
  have hshape {n : Nat} (hn : n < 8) : PortShape { q with goodAlign := n } := by
    obtain ⟨hbad, -, hspent, hchange, hpulse, hup, -⟩ := h
    exact ⟨hbad, hn, hspent, hchange, hpulse, hup, fun hne => absurd hstate hne⟩
  unfold judgeAligning
  split
  · split
    · exact ⟨changePort_shape h, rfl, .inr ⟨nofun, nofun⟩⟩
    · exact spendCheck_judged (hshape (by omega)) hstate
  · exact spendCheck_judged (hshape (by omega)) hstate

theorem judgeUp_shape {q : Port} (h : PortShape q) (hstate : q.state = .up) (v : Verdict) :
    PortShape (judgeUp q v) ∧ (judgeUp q v).window = q.window := by
  have hshape {n : Nat} (hn : n < 8) : PortShape { q with consecutiveBad := n } := by
    obtain ⟨-, hgood, hspent, hchange, hpulse, -, hclear⟩ := h
    exact ⟨hn, hgood, hspent, hchange, hpulse, fun hne => absurd hstate hne, hclear⟩
  unfold judgeUp
  split
  · exact ⟨hshape (Nat.succ_pos 7), rfl⟩
  · split
    · exact ⟨changePort_shape h, rfl⟩
    · exact ⟨hshape (by omega), rfl⟩

/-- What has been said of port p's record and window is done: the port is in order, with a request left. -/
structure PortSettled (p : Fin 4) (s t : State) : Prop where
  links : LinkInvBut p t
  left : RequestLeft t.ports[p]
  window : t.ports[p].window = s.ports[p].window
  others : ∀ k : Fin 4, k ≠ p → t.ports[k] = s.ports[k]
  device : t.window.device = s.window.device

theorem PortSettled.linkInv {p : Fin 4} {s t : State} (h : PortSettled p s t) : LinkInv t :=
  h.links.whole (lastRequestOpen_of_left h.left)

theorem PortSettled.refl {p : Fin 4} {s : State} (h : LinkInvBut p s) (hleft : RequestLeft s.ports[p]) :
    PortSettled p s s := ⟨h, hleft, rfl, fun _ _ => rfl, rfl⟩

/-- The end of an alignment answers its entry, and no other (R77). -/
theorem finishAlign_becomes {s : State} {p : Fin 4} {q : Port} {x : Port × AlignOutcome} (hcount : AlignCounted s)
    (hstate : s.ports[p].state = .aligning) (hx : AlignJudged q x) :
    PortBecomes p x.1 s (finishAlign (setPort s p x.1) p x.2) := by
  obtain ⟨-, -, hend⟩ := hx
  have hkept := finishAlign_changes (setPort s p x.1) p x.2
  have hports : (finishAlign (setPort s p x.1) p x.2).ports = (setPort s p x.1).ports := hkept.samePart .ports
  have hinputs := hkept.samePart .inputs
  simp only [SamePart, Prod.mk.injEq] at hinputs
  obtain ⟨-, -, hstraps⟩ := hinputs
  refine ⟨by rw [hports]; exact getElem_setPort_self s p _, fun k hk => by rw [hports]; exact getElem_setPort_ne _ hk,
    hstraps, ?_, fun k hk => ?_⟩
  · rcases hend with ⟨hal, hgoes, -⟩ | ⟨hal, hends⟩
    · rw [hgoes, if_pos hal]
      exact (hcount p).trans (if_pos hstate)
    · rw [if_neg hal]
      cases hout : x.2 with
      | goesOn => exact absurd hout hends
      | aligned spent => exact underWay_completeWork_self (setPort s p x.1) (.align p) _
      | failed => exact underWay_completeWork_self (setPort s p x.1) (.align p) _
  · have hne : LongWork.align k ≠ .align p := fun he => hk (LongWork.align.inj he)
    cases x.2 with
    | goesOn => rfl
    | aligned spent => exact underWay_completeWork_ne (setPort s p x.1) _ hne
    | failed => exact underWay_completeWork_ne (setPort s p x.1) _ hne

theorem finishAlign_settled {s : State} {p : Fin 4} {x : Port × AlignOutcome} (h : LinkInvBut p s)
    (hfit : p.val < fitted s) (hstate : s.ports[p].state = .aligning) (hx : AlignJudged s.ports[p] x) :
    PortSettled p s (finishAlign (setPort s p x.1) p x.2) := by
  have hbecomes := finishAlign_becomes h.2.2 hstate hx
  obtain ⟨hshape, hwindow, hend⟩ := hx
  refine ⟨hbecomes.linkInvBut h hfit hshape, ?_, ?_, hbecomes.others, ?_⟩
  · rw [hbecomes.port]
    rcases hend with ⟨-, -, hspent⟩ | ⟨hne, -⟩
    · exact fun _ => hspent
    · exact fun hal => absurd hal hne
  · rw [hbecomes.port]
    exact hwindow
  · exact congrArg Prod.fst ((finishAlign_changes (setPort s p x.1) p x.2).samePart .device)

/-- A verdict on port p, which answers the last request of an alignment (R76, R77). -/
theorem applyVerdict_settled {s : State} {p : Fin 4} {w : ReplyWindow} (v : Verdict) (c : Condition)
    (h : LinkInvBut p s) (hfit : p.val < fitted s)
    (hlast : w.alignment = false → RequestLeft s.ports[p]) : PortSettled p s (applyVerdict s p w v c) := by
  obtain ⟨hports, -, hcount⟩ := id h
  have hshape := (hports p).1
  unfold applyVerdict
  dsimp only
  cases hstate : s.ports[p].state with
  | off | lost => exact .refl h fun hal => absurd (hstate.symm.trans hal) nofun
  | aligning =>
    dsimp only
    split
    · exact finishAlign_settled h hfit hstate (judgeAligning_judged hshape hstate v)
    · exact .refl h (hlast (Bool.eq_false_iff.2 ‹_›))
  | up =>
    dsimp only
    split
    · exact .refl h fun hal => absurd (hstate.symm.trans hal) nofun
    · have hne : s.ports[p].state ≠ .aligning := fun hal => absurd (hstate.symm.trans hal) nofun
      have hne' : (judgeUp s.ports[p] v).state ≠ .aligning := judgeUp_state s.ports[p] v hne
      obtain ⟨hjudged, hwindow⟩ := judgeUp_shape hshape hstate v
      have hbecomes := setPort_becomes (q := judgeUp s.ports[p] v) hcount (iff_of_false hne' hne)
      have hsettled : PortSettled p s (setPort s p (judgeUp s.ports[p] v)) := by
        refine ⟨hbecomes.linkInvBut h hfit hjudged, ?_, ?_, hbecomes.others, rfl⟩ <;> rw [hbecomes.port]
        · exact fun hal => absurd hal hne'
        · exact hwindow
      split
      · rcases decideCondition_cases (setPort s p (judgeUp s.ports[p] v)) p c with he | ⟨r, -, -, he⟩ <;> rw [he]
        · exact hsettled
        · exact ⟨hsettled.links, hsettled.left, hsettled.window, hsettled.others, rfl⟩
      · exact hsettled

/-! #### Strobes -/

theorem closeWindow_shape {q : Port} (h : PortShape q) : PortShape (closeWindow q) := h

/-- A port with a window open is fitted (R72). -/
theorem fitted_of_window {s : State} {p : Fin 4} {w : ReplyWindow} (h : PortsOk s) (hw : s.ports[p].window = some w) :
    p.val < fitted s := by
  by_contra hnot
  rw [(h p).2 (Nat.not_lt.1 hnot)] at hw
  cases hw

/-- The closing of a window leaves the port in order, with no window, and a request left if it is ALIGNING (R73, R74). -/
theorem closeAtStrobe_settled {s : State} (cut : Bool) (p : Fin 4) (h : LinkInv s)
    (hdev : s.window.device ≠ .halted) :
    LinkInv (closeAtStrobe cut s p) ∧ RequestLeft (closeAtStrobe cut s p).ports[p] ∧
      (closeAtStrobe cut s p).ports[p].window = none ∧
      (∀ k : Fin 4, k ≠ p → (closeAtStrobe cut s p).ports[k] = s.ports[k]) ∧
      (closeAtStrobe cut s p).window.device = s.window.device := by
  obtain ⟨hports, hlast, hcount⟩ := id h
  unfold closeAtStrobe
  cases hw : s.ports[p].window with
  | none =>
    refine ⟨h, fun hal => ?_, hw, fun _ _ => rfl, rfl⟩
    have hle : s.ports[p].alignSpent ≤ 512 := (hports p).1.2.2.1
    refine lt_of_le_of_ne hle fun hspent => ?_
    obtain ⟨w, hmem, -⟩ := hlast p hal hspent
    exact absurd (hw.symm.trans hmem) nofun
  | some w =>
    have hfit := fitted_of_window hports hw
    have hbecomes := setPort_becomes (q := closeWindow s.ports[p]) hcount Iff.rfl
    have hclosed : LinkInvBut p (setPort s p (closeWindow s.ports[p])) :=
      hbecomes.linkInvBut (h.but p) hfit (closeWindow_shape (hports p).1)
    have hleft (hno : w.alignment = true → w.answered = true) :
        RequestLeft (setPort s p (closeWindow s.ports[p])).ports[p] := by
      rw [hbecomes.port]
      intro hal
      have hle : s.ports[p].alignSpent ≤ 512 := (hports p).1.2.2.1
      refine lt_of_le_of_ne hle fun hspent => ?_
      obtain ⟨x, hmem, halign, hopen⟩ := hlast p hal hspent
      obtain rfl := Option.some.inj (hw.symm.trans hmem)
      exact absurd (hopen.symm.trans (hno halign)) Bool.false_ne_true
    have hwindow : (setPort s p (closeWindow s.ports[p])).ports[p].window = none := by
      rw [hbecomes.port]
      rfl
    have hresult {t : State} (ht : PortSettled p (setPort s p (closeWindow s.ports[p])) t) :
        LinkInv t ∧ RequestLeft t.ports[p] ∧ t.ports[p].window = none ∧
          (∀ k : Fin 4, k ≠ p → t.ports[k] = s.ports[k]) ∧ t.window.device = s.window.device :=
      ⟨ht.linkInv, ht.left, ht.window.trans hwindow,
        fun k hk => (ht.others k hk).trans (hbecomes.others k hk), ht.device⟩
    have hunhalted : (s.window.device == .halted) = false := beq_false_of_ne hdev
    have hshut : (setPort s p (closeWindow s.ports[p])).ports[p] = closeWindow s.ports[p] := hbecomes.port
    dsimp only
    rw [hunhalted, Bool.or_false]
    generalize setPort s p (closeWindow s.ports[p]) = u at hclosed hleft hwindow hresult hshut hbecomes
    have hfit' : p.val < fitted u := hfit.trans_eq (congrArg (fun x : BitVec 2 => x.toNat + 1) hbecomes.straps).symm
    by_cases hanswered : w.answered = true
    · rw [if_pos hanswered]
      exact hresult (.refl hclosed (hleft fun _ => hanswered))
    · rw [if_neg hanswered]
      split
      · unfold cutShort
        split
        · rename_i hcut
          exact hresult (finishAlign_settled hclosed hfit' hcut.2 (spendCheck_judged (hclosed.1 p).1 hcut.2))
        · rename_i hcut
          refine hresult (.refl hclosed fun hal => ?_)
          exact hleft (fun halign => absurd ⟨halign, hal⟩ hcut) hal
      · refine hresult (applyVerdict_settled _ _ hclosed hfit' fun hno => hleft fun halign => ?_)
        exact absurd (hno.symm.trans halign) Bool.false_ne_true

/-- The windows of the listed ports have closed. -/
theorem foldl_closeAtStrobe_settled (cut : Bool) (closing : List (Fin 4)) {s : State} (h : LinkInv s)
    (hdev : s.window.device ≠ .halted) :
    LinkInv (closing.foldl (closeAtStrobe cut) s) ∧
      (closing.foldl (closeAtStrobe cut) s).window.device = s.window.device ∧
      ∀ p : Fin 4, p ∈ closing ∨ RequestLeft s.ports[p] →
        RequestLeft (closing.foldl (closeAtStrobe cut) s).ports[p] := by
  induction closing generalizing s with
  | nil => exact ⟨h, rfl, fun p hp => hp.resolve_left List.not_mem_nil⟩
  | cons q closing ih =>
    obtain ⟨hlinks, hleft, -, hothers, hdevice⟩ := closeAtStrobe_settled cut q h hdev
    obtain ⟨hlinks', hdevice', hleft'⟩ := ih hlinks (by rw [hdevice]; exact hdev)
    refine ⟨hlinks', hdevice'.trans hdevice, fun p hp => hleft' p ?_⟩
    by_cases hpq : p = q
    · exact .inr (hpq ▸ hleft)
    · rw [hothers p hpq]
      exact hp.imp_left fun hmem => (List.mem_cons.1 hmem).resolve_left hpq

theorem strobePort_shape {q : Port} (atRow : Bool) (h : PortShape q) (hleft : RequestLeft q) :
    PortShape (strobePort false atRow q) ∧ LastRequestOpen (strobePort false atRow q) := by
  obtain ⟨hbad, hgood, hspent, hchange, hpulse, hup, hclear⟩ := h
  unfold strobePort
  by_cases hal : q.state = .aligning
  · have hcond : (!false && q.state == .aligning) = true := by rw [hal]; rfl
    rw [if_pos hcond]
    exact ⟨⟨hbad, hgood, hleft hal, hchange, Nat.le_refl 6, hup, fun hne => absurd hal hne⟩,
      fun _ _ => ⟨_, rfl, rfl, rfl⟩⟩
  · have hcond : ¬ (!false && q.state == .aligning) = true := by simp [hal]
    rw [if_neg hcond]
    exact ⟨⟨hbad, hgood, hspent, hchange, (by decide : 2 ≤ 6), hup, hclear⟩,
      fun hal' => absurd hal' hal⟩

theorem sendStrobes_linkInv {s : State} (atRow : Bool) (h : LinkInv s) (hdev : s.window.device ≠ .halted)
    (hleft : ∀ p : Fin 4, RequestLeft s.ports[p]) : LinkInv (sendStrobes s atRow) := by
  obtain ⟨hports, hlast, hcount⟩ := h
  have hunhalted : (s.window.device == .halted) = false := beq_false_of_ne hdev
  have hsent (p : Fin 4) : (sendStrobes s atRow).ports[p] =
      if portFitted s p then strobePort (s.window.device == .halted) atRow s.ports[p] else s.ports[p] :=
    Vector.getElem_ofFn p.isLt
  rw [hunhalted] at hsent
  have hstruck (p : Fin 4) : PortShape (sendStrobes s atRow).ports[p] ∧ LastRequestOpen (sendStrobes s atRow).ports[p] := by
    rw [hsent]
    split
    · exact strobePort_shape atRow (hports p).1 (hleft p)
    · exact ⟨(hports p).1, hlast p⟩
  refine ⟨fun p => ⟨(hstruck p).1, fun hp => ?_⟩, fun p => (hstruck p).2, fun p => ?_⟩
  · have hunfit : portFitted s p = false := decide_eq_false (Nat.not_lt.2 hp)
    rw [hsent, hunfit]
    exact (hports p).2 hp
  · rw [show (sendStrobes s atRow).ports[p].state = s.ports[p].state from
      congrFun ((sendStrobes_changes s atRow).samePart .portStates) p]
    exact hcount p

theorem strobeInstant_linkInv {s : State} (atRow cut : Bool) (h : LinkInv s) (hdev : s.window.device ≠ .halted) :
    LinkInv (strobeInstant s atRow cut) := by
  obtain ⟨hlinks, hdevice, hleft⟩ := foldl_closeAtStrobe_settled cut allPorts h hdev
  have hall : ∀ p : Fin 4, p ∈ allPorts := by decide
  unfold strobeInstant
  generalize allPorts.foldl (closeAtStrobe cut) s = u at hlinks hdevice hleft
  have hcompleted := completeRow_changes u
  have hports : (completeRow u).ports = u.ports := hcompleted.samePart .ports
  refine sendStrobes_linkInv atRow (hcompleted.linkInv hlinks) ?_ fun p => ?_
  · rw [show (completeRow u).window.device = u.window.device from congrArg Prod.fst (hcompleted.samePart .device),
      hdevice]
    exact hdev
  · rw [hports]
    exact hleft p (.inl (hall p))

theorem rowStrobe_linkInv {s : State} (index : Nat) (cut : Bool) (h : LinkInv s) (hdev : s.window.device ≠ .halted) :
    LinkInv (rowStrobe s index cut) := by
  have hstruck := strobeInstant_linkInv true cut h hdev
  unfold rowStrobe
  dsimp only
  generalize strobeInstant s true cut = u at hstruck ⊢
  exact (completeRowIfDone_changes _).linkInv ((beginRowAt_changes u _ _).linkInv hstruck)

end Sys2Proof.Laws
end

/-! ### The ports over every step -/

section
set_option Elab.async false
namespace Sys2Proof.Laws

open Sys2Proof Sys2Proof.Machine Sys2Proof.Safety

theorem beginStream_changes (s : State) (f : SlotFrame) :
    ChangesOnly [.streamState, .current, .setUp] s { s with stream := beginStream s.stream f } :=
  .of_parts fun x => by
    cases x with
    | streamState | current | setUp => exact .inl (by decide)
    | _ => exact .inr rfl

theorem device_of_changes {w : List Part} {s t : State} (h : ChangesOnly w s t)
    (hdevice : w.contains .device = false := by rfl) : t.window.device = s.window.device :=
  congrArg Prod.fst (h.samePart .device hdevice)

theorem beginRow0_linkInv {s : State} (h : LinkInv s) (hdev : s.window.device ≠ .halted) : LinkInv (beginRow0 s) := by
  unfold beginRow0
  cases s.stream.setUp with
  | none => exact h
  | some f =>
    have hopened := openFrame_changes s f
    have hdev' : (openFrame s f).window.device ≠ .halted := by
      rw [device_of_changes hopened]
      exact hdev
    exact rowStrobe_linkInv 0 _ ((beginStream_changes _ f).linkInv (hopened.linkInv h)) hdev'

theorem beginRow_linkInv {s : State} (f : SlotFrame) (index : Nat) (h : LinkInv s) (hdev : s.window.device ≠ .halted) :
    LinkInv (beginRow s f index) := by
  have hstruck : LinkInv (rowStrobe
      { s with stream := { s.stream with rowIndex := index, rowTimer := 0, frameMark := false } } index false) :=
    rowStrobe_linkInv index false h hdev
  unfold beginRow
  dsimp only
  generalize rowStrobe
    { s with stream := { s.stream with rowIndex := index, rowTimer := 0, frameMark := false } } index false = u
    at hstruck ⊢
  split
  · exact (frameSetup_changes u).linkInv hstruck
  · exact hstruck

theorem frameEnd_linkInv {s : State} (f : SlotFrame) (h : LinkInv s) (hdev : s.window.device = .enabled)
    (hstay : (frameEnd s f).window.device = .enabled) : LinkInv (frameEnd s f) := by
  have hreport := reportDropped_cases { s with stream := { s.stream with current := none } } f
  unfold frameEnd at hstay ⊢
  dsimp only at hstay ⊢
  rcases hreport with hkept | hhalt
  · have hreleased : ChangesOnly [.current, .holding] s
        (reportDropped { s with stream := { s.stream with current := none } } f) := (freeCurrent_changes s).then hkept
    generalize reportDropped { s with stream := { s.stream with current := none } } f = u at hreleased
    have hlinks := hreleased.linkInv h
    have hdev' : u.window.device ≠ .halted := by
      rw [device_of_changes hreleased, hdev]
      nofun
    split
    · split
      · exact beginRow0_linkInv hlinks hdev'
      · exact (setStreamState_changes u .waiting).linkInv hlinks
      · exact (endRun_changes u).linkInv hlinks
      · exact hlinks
    · exact hlinks
  · rw [hhalt, enterHalted_isEnabled, if_neg Bool.false_ne_true] at hstay
    cases hstay

theorem execRowEnd_linkInv {s t : State} (h : execRowEnd s = .next t) (hlinks : LinkInv s)
    (hdev : s.window.device = .enabled) (hstay : t.window.device = .enabled) : LinkInv t := by
  have hunhalted : s.window.device ≠ .halted := by
    rw [hdev]
    nofun
  unfold execRowEnd at h
  split at h
  · obtain rfl := Host.Outcome.next.inj h
    exact hlinks
  · split at h <;> obtain rfl := Host.Outcome.next.inj h
    · exact beginRow_linkInv _ _ hlinks hunhalted
    · exact frameEnd_linkInv _ hlinks hdev hstay

theorem startRun_linkInv {s : State} (mode : StartMode) (h : LinkInv s) (hdev : s.window.device ≠ .halted) :
    LinkInv (startRun s mode) := by
  have hsetup := frameSetup_changes
    { s with stream := { s.stream with mode := mode }, schedule := restartPosition s.schedule }
  have hlinks := hsetup.linkInv h
  have hdev' := device_of_changes hsetup
  unfold startRun
  dsimp only
  generalize frameSetup { s with stream := { s.stream with mode := mode }, schedule := restartPosition s.schedule } =
    u at hlinks hdev' ⊢
  cases mode with
  | free => exact (setPaused_changes _ false).linkInv (beginRow0_linkInv hlinks (by rw [hdev']; exact hdev))
  | triggered => exact hlinks

theorem startOwner_linkInv {s : State} (r : Record) (h : LinkInv s) (hdev : s.window.device ≠ .halted) :
    LinkInv (startOwner r s).1 := by
  unfold startOwner
  dsimp only
  split
  · exact h
  · split
    · exact h
    · exact (useFree_changes _).linkInv (startRun_linkInv _ h hdev)

/-- A reply is taken and judged (R74 to R77). -/
theorem reply_linkInv {s : State} {p : Fin 4} {w : ReplyWindow} (v : Verdict) (c : Condition) (h : LinkInv s)
    (htaken : ReplyTaken s p w) :
    LinkInv (completeRowIfDone (applyVerdict
      (setPort s p { s.ports[p] with window := some { w with answered := true } }) p w v c)) := by
  obtain ⟨-, hfit, hwindow, -⟩ := htaken
  obtain ⟨hports, hlast, hcount⟩ := id h
  have hbecomes := setPort_becomes (q := { s.ports[p] with window := some { w with answered := true } }) hcount Iff.rfl
  have hbut := hbecomes.linkInvBut (h.but p) hfit (hports p).1
  refine (completeRowIfDone_changes _).linkInv (applyVerdict_settled v c hbut hfit fun hno => ?_).linkInv
  rw [hbecomes.port]
  intro hal
  have hle : s.ports[p].alignSpent ≤ 512 := (hports p).1.2.2.1
  refine lt_of_le_of_ne hle fun hspent => ?_
  obtain ⟨x, hmem, halign, -⟩ := hlast p hal hspent
  obtain rfl := Option.some.inj (hwindow.symm.trans hmem)
  exact absurd (hno.symm.trans halign) Bool.false_ne_true

theorem abandonRowWindow_shape {q : Port} (h : PortShape q) : PortShape (abandonRowWindow q) := by
  unfold abandonRowWindow
  split
  · split <;> exact h
  · exact h

theorem alignFault_eq_none {s : State} {p : Nat} (h : alignFault s p = none) :
    (Fin.ofNat 4 p : Fin 4).val < fitted s ∧ s.ports[(Fin.ofNat 4 p : Fin 4)].state ≠ .aligning := by
  unfold alignFault at h
  split_ifs at h with h1 h2 h3
  have hp : (Fin.ofNat 4 p : Fin 4).val = p := Nat.mod_eq_of_lt (Nat.not_le.1 h1)
  exact ⟨by omega, h3⟩

theorem underWay_enterList_self (r : Record) (s : State) (w : LongWork) :
    underWay (enterList r s w none) w = underWay s w + 1 := by
  change List.countP _ (s.requests.entries ++ [_]) = _
  rw [List.countP_append, List.countP_singleton]
  simp [longEntry]

theorem underWay_enterList_ne {v w : LongWork} (r : Record) (s : State) (h : v ≠ w) :
    underWay (enterList r s w none) v = underWay s v := by
  change List.countP _ (s.requests.entries ++ [_]) = _
  rw [List.countP_append, List.countP_singleton]
  simp [longEntry, Ne.symm h]

/-- An alignment begins, and its entry joins the list (R78). -/
theorem beginAlign_linkInv {s : State} {p : Fin 4} (r : Record) (h : LinkInv s) (hfit : p.val < fitted s)
    (hne : s.ports[p].state ≠ .aligning) :
    LinkInv (enterList r (completeRowIfDone (decideCondition
      (setPort s p (changePort (abandonRowWindow s.ports[p]) .aligning .alignRequested)) p .down)) (.align p) none) := by
  obtain ⟨hports, -, hcount⟩ := id h
  have hdecided := (decideCondition_changes
    (setPort s p (changePort (abandonRowWindow s.ports[p]) .aligning .alignRequested)) p .down).then
      (w'' := completionParts) (completeRowIfDone_changes _)
  have hstraps := hdecided.samePart .inputs
  have halign := hdecided.samePart .alignWork
  have hsame := hdecided.samePart .ports
  simp only [SamePart, Prod.mk.injEq] at hstraps halign hsame
  have hbecomes : PortBecomes p (changePort (abandonRowWindow s.ports[p]) .aligning .alignRequested) s
      (enterList r (completeRowIfDone (decideCondition
        (setPort s p (changePort (abandonRowWindow s.ports[p]) .aligning .alignRequested)) p .down)) (.align p) none) := by
    refine ⟨(congrArg (fun x : Vector Port 4 => x[p]) hsame).trans (getElem_setPort_self s p _), fun k hk =>
      (congrArg (fun x : Vector Port 4 => x[k]) hsame).trans (getElem_setPort_ne _ hk), hstraps.2.2, ?_, fun k hk => ?_⟩
    · have hzero := (congrFun halign p).trans ((hcount p).trans (if_neg hne))
      rw [underWay_enterList_self, hzero]
      rfl
    · rw [underWay_enterList_ne _ _ fun he => hk (LongWork.align.inj he)]
      exact congrFun halign k
  refine (hbecomes.linkInvBut (h.but p) hfit (changePort_shape (abandonRowWindow_shape (hports p).1))).whole
    (lastRequestOpen_of_left ?_)
  rw [hbecomes.port]
  exact fun _ => Nat.succ_pos 511

theorem execPortAlign_linkInv {s t : State} (h : execPortAlign s = .next t) (hlinks : LinkInv s) : LinkInv t := by
  rcases runLong_cases s (ofKind kindPortAlign) portAlignOwner with ⟨-, he⟩ | ⟨r, rest, -, -, -, he⟩ <;>
    obtain rfl := Host.Outcome.next.inj (he.symm.trans h)
  · exact hlinks
  · have hready : LinkInv (advanceHead s rest) := (advanceHead_changes s rest).linkInv hlinks
    unfold portAlignOwner
    dsimp only
    split
    · exact (enterList_changes_of_answered r _ _ _).linkInv hready
    · obtain ⟨hfit, hne⟩ := alignFault_eq_none ‹_›
      exact beginAlign_linkInv r hready hfit hne

/-- A port's events are reported (R81). -/
theorem execPortEvent_linkInv {s t : State} (h : execPortEvent s = .next t) (hlinks : LinkInv s) : LinkInv t := by
  unfold execPortEvent at h
  split at h <;> obtain rfl := Host.Outcome.next.inj h
  · rename_i p _
    obtain ⟨hports, hlast, hcount⟩ := hlinks
    have hplaced (c : Completion) {u : State} (hu : LinkInv u) : LinkInv (place u c) := (place_changes u c).linkInv hu
    refine hplaced _ ⟨fun k => ?_, fun k => ?_, fun k => ?_⟩ <;> by_cases hk : k = p
    · subst hk
      rw [getElem_setPort_self]
      obtain ⟨⟨hbad, hgood, hspent, -, hpulse, hup, hclear⟩, hfit⟩ := hports k
      refine ⟨⟨hbad, hgood, hspent, Nat.zero_le _, hpulse, hup, hclear⟩, fun hle => ?_⟩
      rw [hfit hle]
      rfl
    · rw [getElem_setPort_ne _ hk]
      exact hports k
    · subst hk
      rw [getElem_setPort_self]
      exact hlast k
    · rw [getElem_setPort_ne _ hk]
      exact hlast k
    · subst hk
      rw [getElem_setPort_self]
      exact hcount k
    · rw [getElem_setPort_ne _ hk]
      exact hcount k
  · exact hlinks

/-- The ports and the entries of their alignments after a command in ENABLED (R73 to R81). -/
theorem exec_linkInv {c : Instr} {s t : State} (hdev : s.window.device = .enabled) (h : exec c s = .next t)
    (hruns : ChangesOnly (runningParts c) s t) (hlinks : LinkInv s) : LinkInv t := by
  have hunhalted : s.window.device ≠ .halted := by
    rw [hdev]
    nofun
  cases c with
  | rowEnd => exact execRowEnd_linkInv h hlinks hdev ((device_of_changes hruns).trans hdev)
  | maintenanceStrobe =>
    change execMaintenanceStrobe s = _ at h
    unfold execMaintenanceStrobe at h
    split at h <;> obtain rfl := Host.Outcome.next.inj h
    · exact strobeInstant_linkInv (s := { s with stream := { s.stream with maintenance := some 0 } }) _ _ hlinks hunhalted
    · exact hlinks
  | triggerEdge =>
    change execTriggerEdge s = _ at h
    unfold execTriggerEdge at h
    split at h <;> obtain rfl := Host.Outcome.next.inj h
    · exact beginRow0_linkInv hlinks hunhalted
    · exact hlinks
    · exact hlinks
  | replyReceived p own bits =>
    change execReplyReceived p own bits s = _ at h
    unfold execReplyReceived at h
    split at h <;> obtain rfl := Host.Outcome.next.inj h
    · exact hlinks
    · exact reply_linkInv _ _ hlinks (takingWindow_eq_some.1 ‹_›).1
  | start =>
    rcases runImmediate_cases s (ofKind kindStart) startOwner with ⟨-, he⟩ | ⟨r, rest, -, -, -, he⟩ <;>
      obtain rfl := Host.Outcome.next.inj (he.symm.trans h)
    · exact hlinks
    · exact (place_changes _ _).linkInv
        (startOwner_linkInv r ((advanceHead_changes s rest).linkInv hlinks) hunhalted)
  | portAlign => exact execPortAlign_linkInv h hlinks
  | portEvent => exact execPortEvent_linkInv h hlinks
  | powerOnReset straps => exact hruns.linkInv hlinks
  | reset => exact hruns.linkInv hlinks
  | _ => exact hruns.linkInv hlinks

end Sys2Proof.Laws
end

/-! ### The entries of a STOP END and of a RECLAIM -/

section
set_option Elab.async false
namespace Sys2Proof.Laws

open Sys2Proof Sys2Proof.Machine Sys2Proof.Safety

/-- One entry stands for a STOP END in progress, which is so in DRAINING (R14). -/
abbrev StopCounted (s : State) : Prop :=
  underWay s .stopEnd = if s.stream.state = .draining then 1 else 0

/-- One entry stands for a RECLAIM in progress (R143). -/
abbrev ReclaimCounted (s : State) : Prop :=
  underWay s .reclaim = if s.buffers.reclaim = none then 0 else 1

theorem stopCounted_of_not_draining {s : State} (h : s.stream.state ≠ .draining) :
    StopCounted s ↔ underWay s .stopEnd = 0 := by
  rw [StopCounted, if_neg h]

/-- An operation that leaves the stream state and the STOP END's entry. -/
theorem ChangesOnly.stopCounted {w : List Part} {s t : State} (h : ChangesOnly w s t) (hs : StopCounted s)
    (hstate : w.contains .streamState = false := by rfl) (hwork : w.contains .stopWork = false := by rfl) :
    StopCounted t := by
  have hstate' : t.stream.state = s.stream.state := h.samePart .streamState hstate
  have hwork' : underWay t .stopEnd = underWay s .stopEnd := h.samePart .stopWork hwork
  rw [StopCounted, hstate', hwork']
  exact hs

/-- An operation that leaves the STOP END's entry, with no STOP END in progress before and after. -/
theorem ChangesOnly.stopCounted_of_not_draining {w : List Part} {s t : State} (h : ChangesOnly w s t)
    (hs : StopCounted s) (hbefore : s.stream.state ≠ .draining) (hafter : t.stream.state ≠ .draining)
    (hwork : w.contains .stopWork = false := by rfl) : StopCounted t := by
  have hwork' : underWay t .stopEnd = underWay s .stopEnd := h.samePart .stopWork hwork
  exact (Laws.stopCounted_of_not_draining hafter).2 (hwork'.trans ((Laws.stopCounted_of_not_draining hbefore).1 hs))

/-- The beginning of row 0 brings the stream into RUNNING, or, with no set-up frame, leaves it (R10). -/
theorem beginRow0_state (s : State) : (beginRow0 s).stream.state = .running ∨ beginRow0 s = s := by
  unfold beginRow0
  cases s.stream.setUp with
  | none => exact .inr rfl
  | some f =>
    refine .inl ?_
    have hstruck := rowStrobe_changes
      { openFrame s f with stream := beginStream (openFrame s f).stream f } 0 (cutsShort s.stream)
    have hstate := hstruck.samePart .streamState
    simp only [SamePart] at hstate
    exact hstate

theorem beginRow0_not_draining {s : State} (h : s.stream.state ≠ .draining) :
    (beginRow0 s).stream.state ≠ .draining := by
  rcases beginRow0_state s with hrun | hsame
  · rw [hrun]
    nofun
  · rw [hsame]
    exact h

theorem beginRow0_stopCounted {s : State} (hs : StopCounted s) (h : s.stream.state ≠ .draining) :
    StopCounted (beginRow0 s) :=
  (beginRow0_changes s).stopCounted_of_not_draining hs h (beginRow0_not_draining h)

/-- The end of the run answers the STOP END (R15). -/
theorem endRun_stopCounted (s : State) : StopCounted (endRun s) := by
  refine (stopCounted_of_not_draining (s := endRun s) nofun).2 ?_
  exact underWay_completeWork_self { s with stream := { ceaseRows s.stream .stopped with missed := 0 } } .stopEnd _

theorem frameEnd_stopCounted {s : State} (f : SlotFrame) (hs : StopCounted s)
    (hstay : (frameEnd s f).window.device = .enabled) : StopCounted (frameEnd s f) := by
  have hreport := reportDropped_cases { s with stream := { s.stream with current := none } } f
  unfold frameEnd at hstay ⊢
  dsimp only at hstay ⊢
  rcases hreport with hkept | hhalt
  · have hreleased : ChangesOnly [.current, .holding] s
        (reportDropped { s with stream := { s.stream with current := none } } f) := (freeCurrent_changes s).then hkept
    generalize reportDropped { s with stream := { s.stream with current := none } } f = u at hreleased
    have hcounted := hreleased.stopCounted hs
    have hstate : u.stream.state = s.stream.state := hreleased.samePart .streamState
    split
    · split
      · rename_i hrun _
        exact beginRow0_stopCounted hcounted (by rw [hstate, hrun]; nofun)
      · rename_i hrun _
        exact (setStreamState_changes u .waiting).stopCounted_of_not_draining hcounted (by rw [hstate, hrun]; nofun) nofun
      · exact endRun_stopCounted u
      · exact hcounted
    · exact hcounted
  · rw [hhalt, enterHalted_isEnabled, if_neg Bool.false_ne_true] at hstay
    cases hstay

theorem execRowEnd_stopCounted {s t : State} (h : execRowEnd s = .next t) (hs : StopCounted s)
    (hstay : t.window.device = .enabled) : StopCounted t := by
  unfold execRowEnd at h
  split at h
  · obtain rfl := Host.Outcome.next.inj h
    exact hs
  · split at h <;> obtain rfl := Host.Outcome.next.inj h
    · exact (beginRow_changes s _ _).stopCounted hs
    · exact frameEnd_stopCounted _ hs hstay

theorem execTriggerEdge_stopCounted {s t : State} (h : execTriggerEdge s = .next t) (hs : StopCounted s) :
    StopCounted t := by
  unfold execTriggerEdge at h
  split at h <;> obtain rfl := Host.Outcome.next.inj h
  · rename_i hwaiting
    exact beginRow0_stopCounted hs (by rw [hwaiting]; nofun)
  · exact hs
  · exact hs

theorem startRun_not_draining {s : State} (mode : StartMode) (h : s.stream.state ≠ .draining) :
    (startRun s mode).stream.state ≠ .draining := by
  have hsetup := frameSetup_changes
    { s with stream := { s.stream with mode := mode }, schedule := restartPosition s.schedule }
  have hstate := hsetup.samePart .streamState
  simp only [SamePart] at hstate
  unfold startRun
  dsimp only
  generalize frameSetup { s with stream := { s.stream with mode := mode }, schedule := restartPosition s.schedule } =
    u at hstate ⊢
  cases mode with
  | free => exact beginRow0_not_draining (by rw [hstate]; exact h)
  | triggered => exact nofun

theorem startOwner_stopCounted (r : Record) {s : State} (hs : StopCounted s) : StopCounted (startOwner r s).1 := by
  have hchanges := startOwner_changes r s
  unfold startOwner at hchanges ⊢
  dsimp only at hchanges ⊢
  split
  · exact hs
  · split
    · exact hs
    · rename_i hfree
      have hstopped : s.stream.state = .stopped := not_not.1 fun hne => hfree (.inl hne)
      have hbefore : s.stream.state ≠ .draining := by
        rw [hstopped]
        nofun
      exact ((startRun_changes s _).then (w'' := startParts) (useFree_changes _)).stopCounted_of_not_draining hs hbefore
        (startRun_not_draining _ hbefore)

/-- A STOP taken as a long request is taken in RUNNING (R14, R151). -/
theorem running_of_longStop {s : State} {r : Record} (htest : (ofKind kindStop r && stopMannerEnd r) = true)
    (hlong : isImmediate s r = false) : s.stream.state = .running := by
  simp only [Bool.and_eq_true, ofKind] at htest
  obtain ⟨⟨hkind, -⟩, hmanner⟩ := htest
  by_contra hne
  have hstop : isImmediate s r = true := by simp [isImmediate, beq_iff_eq.1 hkind, hne]
  exact absurd (hlong.symm.trans hstop) nofun

theorem stopEndImmediateOwner_stopCounted (r : Record) {s : State} (hs : StopCounted s) :
    StopCounted (stopEndImmediateOwner r s).1 := by
  unfold stopEndImmediateOwner
  split
  · exact hs
  · split
    · rename_i hwaiting
      exact ((stopWaiting_changes s).then (w'' := stopParts) (useFree_changes _)).stopCounted_of_not_draining hs
        (by rw [hwaiting]; nofun) nofun
    · exact hs
    · exact hs

theorem execStopEnd_stopCounted {s t : State} (h : execStopEnd s = .next t) (hs : StopCounted s) : StopCounted t := by
  unfold execStopEnd at h
  split at h
  · rcases runLong_cases s (fun r => ofKind kindStop r && stopMannerEnd r) stopEndLongOwner with
      ⟨-, he⟩ | ⟨r, rest, -, htest, hlong, he⟩ <;> obtain rfl := Host.Outcome.next.inj (he.symm.trans h)
    · exact hs
    · have hrun := running_of_longStop htest hlong
      have hzero : underWay s .stopEnd = 0 := (stopCounted_of_not_draining (by rw [hrun]; nofun)).1 hs
      have hbegun : underWay (beginDraining (advanceHead s rest)) .stopEnd = underWay s .stopEnd :=
        (beginDraining_changes (advanceHead s rest)).samePart .stopWork
      change underWay (enterList r (beginDraining (advanceHead s rest)) .stopEnd none) .stopEnd = 1
      rw [underWay_enterList_self, hbegun, hzero]
  · rcases runImmediate_cases s (fun r => ofKind kindStop r && !stopMannerAbort r) stopEndImmediateOwner with
      ⟨-, he⟩ | ⟨r, rest, -, -, -, he⟩ <;> obtain rfl := Host.Outcome.next.inj (he.symm.trans h)
    · exact hs
    · exact stopEndImmediateOwner_stopCounted r (s := advanceHead s rest) hs

theorem completeStopEnd_stopWork {s : State} (hs : StopCounted s) : underWay (completeStopEnd s) .stopEnd = 0 := by
  unfold completeStopEnd
  split
  · exact underWay_completeWork_self s .stopEnd _
  · exact (stopCounted_of_not_draining ‹_›).1 hs

/-- A STOP ABORT has answered a STOP END in progress, and the stream is STOPPED (R16). -/
theorem abortRun_stopCounted {s : State} (hs : StopCounted s) (hstay : (abortRun s).window.device = .enabled) :
    StopCounted (abortRun s) := by
  unfold abortRun at hstay ⊢
  by_cases hstopped : s.stream.state = .stopped
  · rw [if_pos hstopped]
    exact hs
  · rw [if_neg hstopped] at hstay ⊢
    dsimp only at hstay ⊢
    have hzero : underWay { completeStopEnd s with
        stream := { (completeStopEnd s).stream with frameMark := false }, row := none } .stopEnd = 0 :=
      completeStopEnd_stopWork hs
    generalize ({ completeStopEnd s with
        stream := { (completeStopEnd s).stream with frameMark := false }, row := none } : State) = u at hzero hstay ⊢
    rcases abortCurrent_cases u with hkept | hhalt
    · have hfreed : underWay (abortCurrent u) .stopEnd = underWay u .stopEnd := hkept.samePart .stopWork
      by_cases hen : isEnabled (abortCurrent u) = true
      · rw [if_pos hen]
        generalize abortCurrent u = v at hfreed
        have hcancelled : underWay (cancelSetUp { v with stream := { v.stream with current := none } }) .stopEnd =
            underWay v .stopEnd := (cancelSetUp_changes _).samePart .stopWork
        exact (stopCounted_of_not_draining (by nofun)).2 (hcancelled.trans (hfreed.trans hzero))
      · rw [if_neg hen] at hstay
        exact absurd ((isEnabled_iff _).2 hstay) hen
    · rw [hhalt, enterHalted_isEnabled, if_neg Bool.false_ne_true] at hstay
      cases hstay

theorem execStopAbort_stopCounted {s t : State} (h : execStopAbort s = .next t) (hs : StopCounted s)
    (hstay : t.window.device = .enabled) : StopCounted t := by
  unfold execStopAbort at h
  split at h <;> obtain rfl := Host.Outcome.next.inj h
  · exact hs
  · rename_i r taken htaken
    obtain ⟨rest, -, -, -, rfl⟩ := (takeImmediate_eq_some_iff s _ r taken).1 htaken
    exact abortRun_stopCounted (s := answerImmediate r (useFree (advanceHead s rest)) _) hs hstay

theorem exec_stopCounted {c : Instr} {s t : State} (hdev : s.window.device = .enabled) (h : exec c s = .next t)
    (hruns : ChangesOnly (runningParts c) s t) (hs : StopCounted s) : StopCounted t := by
  have hstay : t.window.device = .enabled :=
    (congrArg Prod.fst (hruns.samePart .device runningParts_device)).trans hdev
  cases c with
  | rowEnd => exact execRowEnd_stopCounted h hs hstay
  | triggerEdge => exact execTriggerEdge_stopCounted h hs
  | start =>
    rcases runImmediate_cases s (ofKind kindStart) startOwner with ⟨-, he⟩ | ⟨r, rest, -, -, -, he⟩ <;>
      obtain rfl := Host.Outcome.next.inj (he.symm.trans h)
    · exact hs
    · exact startOwner_stopCounted r (s := advanceHead s rest) hs
  | stopEnd => exact execStopEnd_stopCounted h hs
  | stopAbort => exact execStopAbort_stopCounted h hs hstay
  | powerOnReset straps => exact hruns.stopCounted hs
  | reset => exact hruns.stopCounted hs
  | _ => exact hruns.stopCounted hs

/-! #### RECLAIM -/

/-- An operation that leaves whether a RECLAIM is in progress, and its entry. -/
theorem reclaimCounted_of_same {s t : State} (hs : ReclaimCounted s) (hwork : underWay t .reclaim = underWay s .reclaim)
    (hreclaim : t.buffers.reclaim = none ↔ s.buffers.reclaim = none) : ReclaimCounted t := by
  rw [ReclaimCounted, hwork, if_congr hreclaim rfl rfl]
  exact hs

theorem ChangesOnly.reclaimCounted {w : List Part} {s t : State} (h : ChangesOnly w s t) (hs : ReclaimCounted s)
    (hfetching : w.contains .fetching = false := by rfl) (hwork : w.contains .reclaimWork = false := by rfl) :
    ReclaimCounted t := by
  have hsame := h.samePart .fetching hfetching
  simp only [SamePart, Prod.mk.injEq] at hsame
  obtain ⟨-, -, -, hreclaim⟩ := hsame
  exact reclaimCounted_of_same hs (h.samePart .reclaimWork hwork) (by rw [hreclaim])

theorem finishReclaim_reclaimCounted {s : State} (hs : ReclaimCounted s) : ReclaimCounted (finishReclaim s) := by
  rcases finishReclaim_cases s with h | ⟨r, -, -, h⟩ <;> rw [h]
  · exact hs
  · exact underWay_completeWork_self { s with buffers := { s.buffers with reclaim := none } } .reclaim _

theorem startOwner_reclaimCounted (r : Record) {s : State} (hs : ReclaimCounted s) :
    ReclaimCounted (startOwner r s).1 := by
  refine reclaimCounted_of_same hs ((startOwner_changes r s).samePart .reclaimWork) ?_
  unfold startOwner
  dsimp only
  split
  · exact Iff.rfl
  · split
    · exact Iff.rfl
    · obtain ⟨u, hu, he⟩ := startRun_begun s (startModeOf (recordNat r 0x08 1))
      have hsame := hu.samePart .fetching
      simp only [SamePart, Prod.mk.injEq] at hsame
      obtain ⟨-, -, -, hreclaim⟩ := hsame
      rw [he]
      exact iff_of_eq (congrArg (· = none) hreclaim)

theorem execReclaim_reclaimCounted {s t : State} (h : execReclaim s = .next t) (hs : ReclaimCounted s) :
    ReclaimCounted t := by
  rcases runLong_cases s (ofKind kindReclaim) reclaimOwner with ⟨-, he⟩ | ⟨r, rest, -, -, -, he⟩ <;>
    obtain rfl := Host.Outcome.next.inj (he.symm.trans h)
  · exact hs
  · have hready : ReclaimCounted (advanceHead s rest) := hs
    generalize advanceHead s rest = u at hready
    have hanswered {v : State} (w : LongWork) (a : Answer) (hv : ReclaimCounted v) :
        ReclaimCounted (enterList r v w (some a)) := (enterList_changes_of_answered r v w a).reclaimCounted hv
    unfold reclaimOwner
    dsimp only
    split
    · exact hanswered _ _ hready
    · split
      · exact hanswered _ _ hready
      · rename_i hnone
        have hnone : u.buffers.reclaim = none := by simpa using hnone
        have hzero : underWay u .reclaim = 0 := by rw [hready, if_pos hnone]
        split
        · exact hanswered _ _ hzero
        · rename_i hbusy
          change underWay (enterList r _ .reclaim none) .reclaim = 1
          rw [underWay_enterList_self]
          exact congrArg (· + 1) hzero

theorem execDescriptorFetchIssue_reclaimCounted {s t : State} (h : execDescriptorFetchIssue s = .next t)
    (hs : ReclaimCounted s) : ReclaimCounted t := by
  unfold execDescriptorFetchIssue at h
  split at h
  · obtain rfl := Host.Outcome.next.inj h
    exact hs
  · split at h <;> obtain rfl := Host.Outcome.next.inj h <;> exact hs

theorem execDescriptorFetchDone_reclaimCounted {a : ReadAnswer 128} {s t : State}
    (h : execDescriptorFetchDone a s = .next t) (hs : ReclaimCounted s) (hstay : t.window.device = .enabled) :
    ReclaimCounted t := by
  unfold execDescriptorFetchDone at h
  split at h
  · split at h <;> obtain rfl := Host.Outcome.next.inj h
    · cases hstay
    · refine finishReclaim_reclaimCounted (reclaimCounted_of_same hs rfl (iff_of_eq (congrArg (· = none) ?_)))
      change (takeDescriptor s.buffers _ _).reclaim = _
      unfold takeDescriptor
      split <;> rfl
  · obtain rfl := Host.Outcome.next.inj h
    exact hs

theorem execReclaimedReturn_reclaimCounted {s t : State} (h : execReclaimedReturn s = .next t)
    (hs : ReclaimCounted s) : ReclaimCounted t := by
  unfold execReclaimedReturn at h
  split at h
  · rename_i r _ _ hreclaim
    split at h <;> obtain rfl := Host.Outcome.next.inj h
    · exact finishReclaim_reclaimCounted (reclaimCounted_of_same hs rfl (iff_of_false nofun (by rw [hreclaim]; nofun)))
    · exact hs
  · obtain rfl := Host.Outcome.next.inj h
    exact hs

theorem exec_reclaimCounted {c : Instr} {s t : State} (hdev : s.window.device = .enabled) (h : exec c s = .next t)
    (hruns : ChangesOnly (runningParts c) s t) (hs : ReclaimCounted s) : ReclaimCounted t := by
  have hstay : t.window.device = .enabled :=
    (congrArg Prod.fst (hruns.samePart .device runningParts_device)).trans hdev
  cases c with
  | start =>
    rcases runImmediate_cases s (ofKind kindStart) startOwner with ⟨-, he⟩ | ⟨r, rest, -, -, -, he⟩ <;>
      obtain rfl := Host.Outcome.next.inj (he.symm.trans h)
    · exact hs
    · exact startOwner_reclaimCounted r (s := advanceHead s rest) hs
  | reclaim => exact execReclaim_reclaimCounted h hs
  | descriptorFetchIssue => exact execDescriptorFetchIssue_reclaimCounted h hs
  | descriptorFetchDone a => exact execDescriptorFetchDone_reclaimCounted h hs hstay
  | reclaimedReturn => exact execReclaimedReturn_reclaimCounted h hs
  | powerOnReset straps => exact hruns.reclaimCounted hs
  | reset => exact hruns.reclaimCounted hs
  | _ => exact hruns.reclaimCounted hs

end Sys2Proof.Laws
end

/-! ### Ports, trim and entries over every step -/

section
set_option Elab.async false
namespace Sys2Proof.Laws

open Sys2Proof Sys2Proof.Machine Sys2Proof.Safety

/-- One entry stands for a TRIM_PROGRAM in progress (R102). -/
abbrev ProgramCounted (s : State) : Prop :=
  underWay s .trimProgram = if s.trim.program = .idle then 0 else 1

/-- One entry stands for a TRIM_LOAD in progress (R106). -/
abbrev LoadCounted (s : State) : Prop :=
  underWay s .trimLoad = if s.trim.load = .idle then 0 else 1

theorem programCounted_of_same {s t : State} (hs : ProgramCounted s)
    (hwork : underWay t .trimProgram = underWay s .trimProgram)
    (hprogram : t.trim.program = .idle ↔ s.trim.program = .idle) : ProgramCounted t := by
  rw [ProgramCounted, hwork, if_congr hprogram rfl rfl]
  exact hs

theorem loadCounted_of_same {s t : State} (hs : LoadCounted s) (hwork : underWay t .trimLoad = underWay s .trimLoad)
    (hload : t.trim.load = .idle ↔ s.trim.load = .idle) : LoadCounted t := by
  rw [LoadCounted, hwork, if_congr hload rfl rfl]
  exact hs

theorem ChangesOnly.programCounted {w : List Part} {s t : State} (h : ChangesOnly w s t) (hs : ProgramCounted s)
    (htrim : w.contains .trimWork = false := by rfl) (hwork : w.contains .programWork = false := by rfl) :
    ProgramCounted t := by
  have hsame := h.samePart .trimWork htrim
  simp only [SamePart, Prod.mk.injEq] at hsame
  obtain ⟨-, hprogram, -⟩ := hsame
  exact programCounted_of_same hs (h.samePart .programWork hwork) (by rw [hprogram])

theorem ChangesOnly.loadCounted {w : List Part} {s t : State} (h : ChangesOnly w s t) (hs : LoadCounted s)
    (htrim : w.contains .trimWork = false := by rfl) (hwork : w.contains .loadWork = false := by rfl) :
    LoadCounted t := by
  have hsame := h.samePart .trimWork htrim
  simp only [SamePart, Prod.mk.injEq] at hsame
  obtain ⟨-, -, hload⟩ := hsame
  exact loadCounted_of_same hs (h.samePart .loadWork hwork) (by rw [hload])

/-! #### TRIM_PROGRAM -/

theorem execTrimProgram_programCounted {s t : State} (h : execTrimProgram s = .next t) (hs : ProgramCounted s) :
    ProgramCounted t := by
  rcases runLong_cases s (ofKind kindTrimProgram) trimProgramOwner with ⟨-, he⟩ | ⟨r, rest, -, -, -, he⟩ <;>
    obtain rfl := Host.Outcome.next.inj (he.symm.trans h)
  · exact hs
  · have hready : ProgramCounted (advanceHead s rest) := hs
    generalize advanceHead s rest = u at hready
    have hanswered (w : LongWork) (a : Answer) : ProgramCounted (enterList r u w (some a)) :=
      (enterList_changes_of_answered r u w a).programCounted hready
    unfold trimProgramOwner
    dsimp only
    split
    · exact hanswered _ _
    · split
      · exact hanswered _ _
      · rename_i hidle
        have hzero : underWay u .trimProgram = 0 := by rw [hready, if_pos (not_not.1 hidle)]
        split
        · exact hanswered _ _
        · change underWay (enterList r _ .trimProgram none) .trimProgram = 1
          rw [underWay_enterList_self]
          exact congrArg (· + 1) hzero

theorem execTrimImageReadDone_programCounted {a : ReadAnswer 512} {s t : State}
    (h : execTrimImageReadDone a s = .next t) (hs : ProgramCounted s) : ProgramCounted t := by
  unfold execTrimImageReadDone at h
  split at h
  · rename_i hreading
    have hbusy : ¬ s.trim.program = .idle := by
      rw [hreading]
      nofun
    split at h
    · obtain rfl := Host.Outcome.next.inj h
      exact underWay_completeWork_self { s with trim := { s.trim with program := .idle } } .trimProgram _
    · split at h <;> obtain rfl := Host.Outcome.next.inj h <;>
        exact programCounted_of_same hs rfl (iff_of_false nofun hbusy)
  · obtain rfl := Host.Outcome.next.inj h
    exact hs

theorem execTrimProgramVerify_programCounted {image : Record} {check : Half} {s t : State}
    (h : execTrimProgramVerify image check s = .next t) (hs : ProgramCounted s) : ProgramCounted t := by
  unfold execTrimProgramVerify at h
  split at h
  · rename_i k written _ _
    split at h <;> obtain rfl := Host.Outcome.next.inj h
    · have hidle : (verifyTrim s.trim k written (verifyGood written image check)).program = .idle :=
        (startWaitingRead_kept _).2.2
      exact (underWay_completeWork_self
        { s with trim := verifyTrim s.trim k written (verifyGood written image check) } .trimProgram _).trans
          (if_pos hidle).symm
    · exact hs
  · obtain rfl := Host.Outcome.next.inj h
    exact hs

/-- A TRIM_LOAD leaves the programming as it is (R107). -/
theorem trimLoadOwner_program (r : Record) (s : State) : (trimLoadOwner r s).state.trim.program = s.trim.program := by
  unfold trimLoadOwner
  dsimp only
  split <;> rfl

theorem trimProgramOwner_load (r : Record) (s : State) : (trimProgramOwner r s).state.trim.load = s.trim.load := by
  unfold trimProgramOwner
  dsimp only
  split
  · rfl
  · split
    · rfl
    · split <;> rfl

theorem releaseHeld_idle (t : TrimUnit) : (releaseHeld t).program = .idle ↔ t.program = .idle := by
  unfold releaseHeld
  split
  · rename_i hheld
    rw [hheld]
    exact iff_of_false nofun nofun
  · exact Iff.rfl

theorem execTrimSlotReadDone_idle {s t : State} (h : execTrimSlotReadDone s = .next t) :
    t.trim.program = .idle ↔ s.trim.program = .idle := by
  unfold execTrimSlotReadDone at h
  split at h
  · split at h <;> obtain rfl := Host.Outcome.next.inj h
    · dsimp only
      rw [releaseHeld_idle, installTrim_trim]
    · exact Iff.rfl
  · obtain rfl := Host.Outcome.next.inj h
    exact Iff.rfl

theorem execTrimHostReadDone_program {a : ReadAnswer 512} {s t : State} (h : execTrimHostReadDone a s = .next t) :
    t.trim.program = s.trim.program := by
  unfold execTrimHostReadDone at h
  split at h
  · split at h <;> obtain rfl := Host.Outcome.next.inj h
    · rfl
    · rw [installTrim_trim]
  · obtain rfl := Host.Outcome.next.inj h
    rfl

theorem exec_programCounted {c : Instr} {s t : State} (h : exec c s = .next t)
    (hruns : ChangesOnly (runningParts c) s t) (hs : ProgramCounted s) : ProgramCounted t := by
  cases c with
  | trimProgram => exact execTrimProgram_programCounted h hs
  | trimImageReadDone a => exact execTrimImageReadDone_programCounted h hs
  | trimProgramVerify image check => exact execTrimProgramVerify_programCounted h hs
  | trimLoad =>
    refine programCounted_of_same hs (hruns.samePart .programWork) ?_
    rcases runLong_cases s (ofKind kindTrimLoad) trimLoadOwner with ⟨-, he⟩ | ⟨r, rest, -, -, -, he⟩ <;>
      obtain rfl := Host.Outcome.next.inj (he.symm.trans h)
    · exact Iff.rfl
    · rw [enterList_trim, trimLoadOwner_program, advanceHead_trim]
  | trimSlotReadDone =>
    exact programCounted_of_same hs (hruns.samePart .programWork) (execTrimSlotReadDone_idle h)
  | trimHostReadDone a =>
    exact programCounted_of_same hs (hruns.samePart .programWork) (by rw [execTrimHostReadDone_program h])
  | powerOnReset straps => exact hruns.programCounted hs
  | reset => exact hruns.programCounted hs
  | _ => exact hruns.programCounted hs

/-! #### TRIM_LOAD -/

theorem execTrimLoad_loadCounted {s t : State} (h : execTrimLoad s = .next t) (hs : LoadCounted s) :
    LoadCounted t := by
  rcases runLong_cases s (ofKind kindTrimLoad) trimLoadOwner with ⟨-, he⟩ | ⟨r, rest, -, -, -, he⟩ <;>
    obtain rfl := Host.Outcome.next.inj (he.symm.trans h)
  · exact hs
  · have hready : LoadCounted (advanceHead s rest) := hs
    generalize advanceHead s rest = u at hready
    unfold trimLoadOwner
    dsimp only
    split
    · exact (enterList_changes_of_answered r u _ _).loadCounted hready
    · rename_i hfault
      have hzero : underWay u .trimLoad = 0 := by rw [hready, if_pos (loadFault_eq_none hfault).1]
      refine (underWay_enterList_self r _ .trimLoad).trans ((congrArg (· + 1) hzero).trans (if_neg ?_).symm)
      change ¬ (if _ then _ else if _ then _ else _) = TrimLoading.idle
      split
      · nofun
      · split <;> nofun

/-- The install of an image answers the TRIM_LOAD (R107). -/
theorem installTrim_work (s : State) (image : Record) (origin : TrimOrigin) (aux : Nat) :
    underWay (installTrim s image origin aux) .trimLoad = 0 :=
  underWay_completeWork_self _ .trimLoad _

theorem execTrimSlotReadDone_loadCounted {s t : State} (h : execTrimSlotReadDone s = .next t) (hs : LoadCounted s) :
    LoadCounted t := by
  unfold execTrimSlotReadDone at h
  split at h
  · rename_i k _ _
    split at h <;> obtain rfl := Host.Outcome.next.inj h
    · have hidle : (releaseHeld (installTrim s (slotImage s.trim k) (.slot k) k.val).trim).load = .idle := by
        rw [installTrim_trim]
        unfold releaseHeld
        split <;> rfl
      exact (installTrim_work s _ _ _).trans (if_pos hidle).symm
    · exact hs
  · obtain rfl := Host.Outcome.next.inj h
    exact hs

theorem execTrimHostReadDone_loadCounted {a : ReadAnswer 512} {s t : State} (h : execTrimHostReadDone a s = .next t)
    (hs : LoadCounted s) : LoadCounted t := by
  unfold execTrimHostReadDone at h
  split at h
  · split at h <;> obtain rfl := Host.Outcome.next.inj h
    · exact underWay_completeWork_self { s with trim := { s.trim with load := .idle } } .trimLoad _
    · exact (installTrim_work s _ _ _).trans (if_pos (by rw [installTrim_trim])).symm
  · obtain rfl := Host.Outcome.next.inj h
    exact hs

theorem execTrimImageReadDone_load {a : ReadAnswer 512} {s t : State} (h : execTrimImageReadDone a s = .next t) :
    t.trim.load = s.trim.load := by
  unfold execTrimImageReadDone at h
  split at h
  · split at h
    · obtain rfl := Host.Outcome.next.inj h
      rfl
    · split at h <;> obtain rfl := Host.Outcome.next.inj h <;> rfl
  · obtain rfl := Host.Outcome.next.inj h
    rfl

theorem execTrimProgramVerify_idle {image : Record} {check : Half} {s t : State}
    (h : execTrimProgramVerify image check s = .next t) : t.trim.load = .idle ↔ s.trim.load = .idle := by
  unfold execTrimProgramVerify at h
  split at h
  · split at h <;> obtain rfl := Host.Outcome.next.inj h
    · rw [completeWork_trim]
      unfold verifyTrim startWaitingRead
      split
      · rename_i hwaiting
        exact iff_of_false nofun fun hidle => absurd (hidle.symm.trans hwaiting) nofun
      · exact Iff.rfl
    · exact Iff.rfl
  · obtain rfl := Host.Outcome.next.inj h
    exact Iff.rfl

theorem exec_loadCounted {c : Instr} {s t : State} (h : exec c s = .next t)
    (hruns : ChangesOnly (runningParts c) s t) (hs : LoadCounted s) : LoadCounted t := by
  cases c with
  | trimLoad => exact execTrimLoad_loadCounted h hs
  | trimSlotReadDone => exact execTrimSlotReadDone_loadCounted h hs
  | trimHostReadDone a => exact execTrimHostReadDone_loadCounted h hs
  | trimProgram =>
    refine loadCounted_of_same hs (hruns.samePart .loadWork) ?_
    rcases runLong_cases s (ofKind kindTrimProgram) trimProgramOwner with ⟨-, he⟩ | ⟨r, rest, -, -, -, he⟩ <;>
      obtain rfl := Host.Outcome.next.inj (he.symm.trans h)
    · exact Iff.rfl
    · rw [enterList_trim, trimProgramOwner_load, advanceHead_trim]
  | trimImageReadDone a =>
    exact loadCounted_of_same hs (hruns.samePart .loadWork) (by rw [execTrimImageReadDone_load h])
  | trimProgramVerify image check =>
    exact loadCounted_of_same hs (hruns.samePart .loadWork) (execTrimProgramVerify_idle h)
  | powerOnReset straps => exact hruns.loadCounted hs
  | reset => exact hruns.loadCounted hs
  | _ => exact hruns.loadCounted hs

end Sys2Proof.Laws
end

/-! ### The ports, the trim unit and the entries over every step -/

section
set_option Elab.async false
namespace Sys2Proof.Laws

open Sys2Proof Sys2Proof.Machine Sys2Proof.Safety

/-! #### The ports -/

/-- The ports outside HALTED. -/
theorem portInv_of_links {s : State} (h : LinkInv s) (hdev : s.window.device ≠ .halted)
    (hinit : s.window.device = .init → ∀ p : Fin 4, s.ports[p].window = none) : PortInv s := by
  obtain ⟨hports, hlast, -⟩ := h
  exact fun p => ⟨(hports p).1, fun _ => hlast p, (hports p).2, fun hi => hinit hi p, fun hh => absurd hh hdev⟩

/-- The ports in HALTED (R94). -/
theorem portInv_of_halted {s : State} (h : PortsOk s) (hdev : s.window.device = .halted)
    (hwindow : ∀ p : Fin 4, ∀ w ∈ s.ports[p].window, w = maintenanceWindow) : PortInv s := fun p =>
  ⟨(h p).1, fun hne => absurd hdev hne, (h p).2, fun hi => absurd (hdev.symm.trans hi) nofun, fun _ => hwindow p⟩

theorem portsOk_of_inv {s : State} (h : PortInv s) : PortsOk s := fun p => by
  obtain ⟨hshape, -, hfit, -⟩ := h p
  exact ⟨hshape, hfit⟩

theorem linkInv_of_inv {s : State} (hinv : Inv s) (hdev : s.window.device ≠ .halted) : LinkInv s := by
  obtain ⟨-, -, -, -, -, hports, -, -, -, -, ⟨hcounted, -⟩, -⟩ := hinv
  obtain ⟨-, halign, -⟩ := hcounted hdev
  exact ⟨portsOk_of_inv hports, fun p => (hports p).2.1 hdev, halign⟩

theorem portsOk_of_same {s t : State} (h : PortsOk s) (hstraps : t.window.straps = s.window.straps)
    (hports : ∀ p : Fin 4, PortShape s.ports[p] → PortShape t.ports[p] ∧
      (s.ports[p] = resetPort .off → p.val < fitted s ∨ t.ports[p] = resetPort .off)) : PortsOk t := fun p => by
  obtain ⟨hshape, hfit⟩ := h p
  obtain ⟨hshape', hreset⟩ := hports p hshape
  refine ⟨hshape', fun hle => ?_⟩
  have hle' : fitted s ≤ p.val := by
    unfold fitted at hle ⊢
    rwa [hstraps] at hle
  exact (hreset (hfit hle')).resolve_left (Nat.not_lt.2 hle')

/-- A fatal fault closes the windows (R94). -/
theorem HaltsAt.portInv {s t : State} (h : HaltsAt beforeHaltParts s t) (hports : PortsOk s) : PortInv t := by
  obtain ⟨u, cause, detail, -, hu, rfl⟩ := h
  have hinputs := hu.samePart .inputs
  have hsame := hu.samePart .ports
  simp only [SamePart, Prod.mk.injEq] at hinputs hsame
  have hclosed (p : Fin 4) : (enterHalted u cause detail).ports[p] = closeWindow s.ports[p] := by
    rw [← hsame]
    exact Vector.getElem_ofFn p.isLt
  refine portInv_of_halted (portsOk_of_same hports hinputs.2.2 fun p hshape => ?_) rfl fun p w hw => ?_
  · rw [hclosed]
    exact ⟨hshape, fun hreset => .inr (by rw [hreset]; rfl)⟩
  · rw [hclosed] at hw
    cases hw

/-- Outside ENABLED the ports act as their strobes and replies say. -/
theorem OutsideStep.portInv {s t : State} (h : OutsideStep s t) (hinv : Inv s) : PortInv t := by
  have hports : PortInv s := by
    obtain ⟨-, -, -, -, -, hports, -⟩ := hinv
    exact hports
  have hrow : s.window.device = .halted → s.row = none := by
    obtain ⟨-, -, -, -, -, -, -, ⟨-, -, -, -, -, hrow⟩, -⟩ := hinv
    exact hrow
  have hkept (hin : SamePart .inputs s t) (hsame : SamePart .ports s t)
      (hdevice : SamePart .device s t ∨ t.window.device ≠ .halted ∧ t.window.device ≠ .init ∧ s.window.device ≠ .halted) :
      PortInv t := by
    simp only [SamePart, Prod.mk.injEq] at hin hsame hdevice
    have hfitted : fitted t = fitted s := congrArg (fun x : BitVec 2 => x.toNat + 1) hin.2.2
    intro p
    obtain ⟨hshape, hlast, hfit, hinit, hhalt⟩ := hports p
    rw [hsame, hfitted]
    rcases hdevice with ⟨hd, -⟩ | ⟨hd, hd', hd''⟩
    · rw [hd]
      exact ⟨hshape, hlast, hfit, hinit, hhalt⟩
    · exact ⟨hshape, fun _ => hlast hd'', hfit, fun hi => absurd hi hd', fun hh => absurd hh hd⟩
  cases h with
  | same => exact hports
  | registers lo hi => exact hkept rfl rfl (.inl rfl)
  | enabling hdis =>
    refine hkept ((enableAction_changes s).samePart .inputs) ((enableAction_changes s).samePart .ports) (.inr ?_)
    unfold enableAction
    rw [if_pos hdis, hdis]
    dsimp only
    split <;> exact ⟨nofun, nofun, nofun⟩
  | refused cause detail hset hcause => exact hkept rfl rfl (.inr ⟨nofun, nofun, by rw [hset]; nofun⟩)
  | enabled b hset hfault hholdoff => exact hkept rfl rfl (.inr ⟨nofun, nofun, by rw [hset]; nofun⟩)
  | initEnd hinit => exact hkept rfl rfl (.inr ⟨nofun, nofun, by rw [hinit]; nofun⟩)
  | strobe hne =>
    have hdevice := congrArg Prod.fst (strobeInstant_device s).1
    dsimp only at hdevice
    by_cases hhalt : s.window.device = .halted
    · rw [strobeInstant_of_halted (s := { s with stream := { s.stream with maintenance := some 0 } }) hhalt (hrow hhalt)]
      have hstruck (p : Fin 4) : (Vector.ofFn fun p : Fin 4 =>
          if p.val < s.window.straps.toNat + 1 then { s.ports[p] with pulse := 2, window := some maintenanceWindow }
          else { s.ports[p] with window := none })[p] =
          if p.val < s.window.straps.toNat + 1 then { s.ports[p] with pulse := 2, window := some maintenanceWindow }
          else { s.ports[p] with window := none } := Vector.getElem_ofFn p.isLt
      refine portInv_of_halted (portsOk_of_same (portsOk_of_inv hports) rfl fun p hshape => ?_) hhalt fun p w hw => ?_
      · dsimp only
        rw [hstruck]
        obtain ⟨hbad, hgood, hspent, hchange, hpulse, hup, hclear⟩ := hshape
        split
        · exact ⟨⟨hbad, hgood, hspent, hchange, (by decide : 2 ≤ 6), hup, hclear⟩, fun _ => .inl ‹_›⟩
        · exact ⟨⟨hbad, hgood, hspent, hchange, hpulse, hup, hclear⟩, fun hreset => .inr (by rw [hreset]; rfl)⟩
      · dsimp only at hw
        rw [hstruck] at hw
        split at hw
        · exact (Option.some.inj hw).symm
        · cases hw
    · have hready : LinkInv s := linkInv_of_inv hinv hhalt
      have hlinks := strobeInstant_linkInv (s := { s with stream := { s.stream with maintenance := some 0 } }) false false
        hready hhalt
      exact portInv_of_links hlinks (by rw [hdevice]; exact hhalt) fun hi => absurd (hdevice.symm.trans hi) hne
  | reply p w v c htaken =>
    have hreply := reply_changes s p { s.ports[p] with window := some { w with answered := true } } w v c
    have hdevice := device_of_changes hreply
    obtain ⟨hunhalted, -, hwindow, -⟩ := id htaken
    refine portInv_of_links (reply_linkInv v c (linkInv_of_inv hinv hunhalted) htaken) (by rw [hdevice]; exact hunhalted)
      fun hi => ?_
    obtain ⟨-, -, -, hnone, -⟩ := hports p
    exact absurd ((hnone (hdevice.symm.trans hi)).symm.trans hwindow) nofun

/-! #### The entries -/

/-- No refusal waits for its answer (R155). -/
theorem refusals_iff (s : State) :
    (∀ e ∈ s.requests.entries, e.work = .refused → e.answer.isSome = true) ↔ underWay s .refused = 0 := by
  rw [underWay, List.countP_eq_zero]
  refine forall₂_congr fun e _ => ?_
  cases e.answer <;> simp

theorem runningParts_refusals {c : Instr} : (runningParts c).contains .refusals = false := by
  cases c <;> rfl

theorem runningParts_inputs {c : Instr} : (runningParts c).contains .inputs = false := by
  cases c <;> rfl

/-- With an empty pending list and no long operation in progress the entries are in order. -/
theorem entriesInv_of_none {s : State} (hentries : s.requests.entries = []) (hstate : s.stream.state = .stopped)
    (hports : ∀ p : Fin 4, s.ports[p].state ≠ .aligning) (hprogram : s.trim.program = .idle)
    (hload : s.trim.load = .idle) (hreclaim : s.buffers.reclaim = none) : EntriesInv s := by
  have hnone (w : LongWork) : underWay s w = 0 := by
    unfold underWay
    rw [hentries]
    rfl
  refine ⟨fun _ => ⟨?_, fun p => ?_, ?_, ?_, ?_⟩, by rw [hentries]; exact nofun⟩
  · rw [hnone, if_neg (by rw [hstate]; nofun)]
  · rw [hnone, if_neg (hports p)]
  · rw [hnone, if_pos hprogram]
  · rw [hnone, if_pos hload]
  · rw [hnone, if_pos hreclaim]

/-- The entries in HALTED. -/
theorem entriesInv_of_halted {s : State} (hdev : s.window.device = .halted) (h : underWay s .refused = 0) :
    EntriesInv s :=
  ⟨fun hne => absurd hdev hne, (refusals_iff s).2 h⟩

theorem exec_entriesInv {c : Instr} {s t : State} (hdev : s.window.device = .enabled) (h : exec c s = .next t)
    (hruns : ChangesOnly (runningParts c) s t) (hinv : EntriesInv s) (hlinks : LinkInv t) : EntriesInv t := by
  obtain ⟨hcounted, hrefused⟩ := hinv
  obtain ⟨hstop, -, hprogram, hload, hreclaim⟩ := hcounted (by rw [hdev]; nofun)
  obtain ⟨-, -, halign⟩ := hlinks
  refine ⟨fun _ => ⟨exec_stopCounted hdev h hruns hstop, halign, exec_programCounted h hruns hprogram,
    exec_loadCounted h hruns hload, exec_reclaimCounted hdev h hruns hreclaim⟩, (refusals_iff t).2 ?_⟩
  exact Eq.trans (hruns.samePart .refusals runningParts_refusals) ((refusals_iff s).1 hrefused)

theorem OutsideStep.streamState {s t : State} (h : OutsideStep s t) : t.stream.state = s.stream.state := by
  cases h with
  | same => rfl
  | registers lo hi => rfl
  | enabling hdis => exact (enableAction_changes s).samePart .streamState
  | refused cause detail hset hcause => rfl
  | enabled b hset hfault hholdoff => rfl
  | initEnd hinit => rfl
  | strobe hne =>
    exact (strobeInstant_changes { s with stream := { s.stream with maintenance := some 0 } } false false).samePart
      .streamState
  | reply p w v c htaken =>
    exact (reply_changes s p { s.ports[p] with window := some { w with answered := true } } w v c).samePart .streamState

/-- Outside ENABLED no long operation is in progress. -/
theorem OutsideStep.entriesInv {s t : State} (h : OutsideStep s t) (hinv : Inv s) (hdev : s.window.device ≠ .enabled)
    (htrim : TrimInv t) (hhalted : s.window.device = .halted →
      t.window.device = .halted ∧ t.requests = s.requests) : EntriesInv t := by
  obtain ⟨-, -, ⟨-, -, -, hstopped, -⟩, -, -, -, -, -, -, htrim', ⟨-, hrefused⟩, ⟨-, hheld, -⟩, -⟩ := hinv
  have hstate : t.stream.state = .stopped := h.streamState.trans (hstopped hdev)
  have hbefore (hb : BeforeEnabled t) (hs : BeforeEnabled s) : EntriesInv t := by
    obtain ⟨-, -, -, -, hbuffers, hrequests, -, -, -, -, hports, -⟩ := h.nothingHeld (hheld hs) hb
    obtain ⟨-, -, -, -, hidle⟩ := htrim
    obtain ⟨hprogram, hload⟩ := hidle (by rcases hb with hb | hb | hb <;> rw [hb] <;> nofun)
    exact entriesInv_of_none (by rw [hrequests]; rfl) hstate hports hprogram hload (by rw [hbuffers]; rfl)
  cases hs : s.window.device with
  | enabled => exact absurd hs hdev
  | halted =>
    obtain ⟨hhalt, hrequests⟩ := hhalted hs
    refine entriesInv_of_halted hhalt ?_
    unfold underWay
    rw [hrequests]
    exact (refusals_iff s).1 hrefused
  | init | disabled | setup =>
    have hsb : BeforeEnabled s := by
      unfold BeforeEnabled
      rw [hs]
      decide
    by_cases hb : BeforeEnabled t
    · exact hbefore hb hsb
    · cases h with
      | enabled b hset hfault hholdoff =>
        obtain ⟨-, -, -, -, hbuffers, hrequests, -, -, -, -, hports, -⟩ := hheld hsb
        obtain ⟨-, -, -, -, hidle⟩ := htrim'
        obtain ⟨hprogram, hload⟩ := hidle hdev
        refine entriesInv_of_none ?_ hstate hports hprogram hload ?_
        · change s.requests.entries = []
          rw [hrequests]
          rfl
        · change s.buffers.reclaim = none
          rw [hbuffers]
          rfl
      | same => exact absurd hsb hb
      | registers lo hi => exact absurd hsb hb
      | enabling hdis =>
        refine absurd ?_ hb
        unfold BeforeEnabled enableAction
        rw [if_pos hdis]
        dsimp only
        split
        · exact .inr (.inr rfl)
        · exact .inr (.inl rfl)
      | refused cause detail hset hcause => exact absurd (.inr (.inl rfl)) hb
      | initEnd hinit => exact absurd (.inr (.inl rfl)) hb
      | strobe hne =>
        have hdevice := congrArg Prod.fst (strobeInstant_device s).1
        dsimp only at hdevice
        unfold BeforeEnabled at hb hsb
        rw [hdevice] at hb
        exact absurd hsb hb
      | reply p w v c htaken =>
        have hdevice := device_of_changes
          (reply_changes s p { s.ports[p] with window := some { w with answered := true } } w v c)
        unfold BeforeEnabled at hb hsb
        rw [hdevice] at hb
        exact absurd hsb hb

/-! #### Every step -/

/-- Every command keeps the ports and the entries. -/
theorem exec_portsAndEntries {c : Instr} {s t : State} (hinv : Inv s) (h : exec c s = .next t) :
    PortInv t ∧ EntriesInv t := by
  by_cases hreset : isReset c = true
  · obtain ⟨hjust, -⟩ := justReset_of_exec hinv hreset h
    exact ⟨hjust.portInv, hjust.entriesInv⟩
  · have hreset : isReset c = false := Bool.eq_false_iff.2 hreset
    have hentries : EntriesInv s := by
      obtain ⟨-, -, -, -, -, -, -, -, -, -, hentries, -⟩ := hinv
      exact hentries
    have hports : PortInv s := by
      obtain ⟨-, -, -, -, -, hports, -⟩ := hinv
      exact hports
    by_cases hdev : s.window.device = .enabled
    · rcases exec_running hdev hreset h with hhalts | hruns
      · refine ⟨hhalts.portInv (portsOk_of_inv hports), ?_⟩
        obtain ⟨u, cause, detail, -, hu, rfl⟩ := hhalts
        exact entriesInv_of_halted rfl (Eq.trans (hu.samePart .refusals) ((refusals_iff s).1 hentries.2))
      · have hlinks := exec_linkInv hdev h hruns (linkInv_of_inv hinv (by rw [hdev]; nofun))
        have hstay : t.window.device = .enabled :=
          (congrArg Prod.fst (hruns.samePart .device runningParts_device)).trans hdev
        exact ⟨portInv_of_links hlinks (by rw [hstay]; nofun) fun hi => absurd (hstay.symm.trans hi) nofun,
          exec_entriesInv hdev h hruns hentries hlinks⟩
    · have hout := outOfService_of_inv hinv hdev
      have houtside := hout.outsideStep hreset h
      refine ⟨houtside.portInv hinv, houtside.entriesInv hinv hdev (exec_trimInv hinv h).1 fun hhalt => ?_⟩
      have hrow : s.row = none := by
        obtain ⟨-, -, -, -, -, -, -, ⟨-, -, -, -, -, hrow⟩, -⟩ := hinv
        exact hrow hhalt
      obtain ⟨lo, hi, m, ports, rfl, -⟩ := exec_of_halted hout hhalt hrow hreset h
      exact ⟨hhalt, rfl⟩

theorem getElem_tick_ports (s : State) (p : Fin 4) : (tick s).ports[p] = tickPort s.ports[p] :=
  Vector.getElem_ofFn p.isLt

theorem tick_portInv {s : State} (h : PortInv s) : PortInv (tick s) := by
  intro p
  obtain ⟨⟨hbad, hgood, hspent, hchange, hpulse, hup, hclear⟩, hlast, hfit, hinit, hhalt⟩ := h p
  rw [getElem_tick_ports]
  refine ⟨⟨hbad, hgood, hspent, hchange, (Nat.sub_le _ 1).trans hpulse, hup, hclear⟩, hlast, fun hle => ?_, hinit, hhalt⟩
  rw [hfit hle]
  rfl

theorem tickProgram_idle (t : TrimUnit) : (tickProgram t).program = .idle ↔ t.program = .idle := by
  unfold tickProgram
  split
  · rename_i hprogram
    have hbusy : ¬ t.program = .idle := by
      rw [hprogram]
      nofun
    split
    · refine iff_of_false ?_ hbusy
      unfold tickImage
      split <;> nofun
    · exact Iff.rfl
  · exact Iff.rfl

theorem tickProgram_load (t : TrimUnit) : (tickProgram t).load = t.load := by
  unfold tickProgram
  split
  · split
    · unfold tickImage
      split <;> rfl
    · rfl
  · rfl

theorem tickLoad_program (t : TrimUnit) : (tickLoad t).program = t.program := by
  unfold tickLoad
  split <;> rfl

theorem tickLoad_idle (t : TrimUnit) : (tickLoad t).load = .idle ↔ t.load = .idle := by
  unfold tickLoad
  split
  · rename_i hload
    exact iff_of_false nofun (by rw [hload]; nofun)
  · exact Iff.rfl

theorem tick_entriesInv {s : State} (h : EntriesInv s) : EntriesInv (tick s) := by
  obtain ⟨hcounted, hrefused⟩ := h
  refine ⟨fun hne => ?_, hrefused⟩
  obtain ⟨hstop, halign, hprogram, hload, hreclaim⟩ := hcounted hne
  refine ⟨hstop, fun p => ?_, programCounted_of_same hprogram rfl ?_, loadCounted_of_same hload rfl ?_, hreclaim⟩
  · rw [getElem_tick_ports]
    exact halign p
  · change (tickLoad (tickProgram s.trim)).program = .idle ↔ _
    rw [tickLoad_program]
    exact tickProgram_idle s.trim
  · change (tickLoad (tickProgram s.trim)).load = .idle ↔ _
    rw [tickLoad_idle, tickProgram_load]

/-- Settles O56: commands in ENABLED, commands outside it, fatal faults, resets and ticks, each in its turn. -/
theorem stepsKeepPortsTrimAndEntries : Obligations.StepsKeepPortsTrimAndEntries := by
  intro s t hinv hstep
  rcases step_cases hstep with ⟨c, rest, h⟩ | ⟨-, rfl⟩
  · have hinv' := inv_pending hinv rest
    obtain ⟨hports, hentries⟩ := exec_portsAndEntries hinv' h
    obtain ⟨htrim, hkept⟩ := exec_trimInv hinv' h
    exact ⟨hports, exec_sourceInv hinv' h, htrim, hentries, hkept⟩
  · obtain ⟨-, -, -, -, -, hports, hsource, -, -, htrim, hentries, -⟩ := hinv
    obtain ⟨htrim', hkept⟩ := tick_trimInv htrim
    exact ⟨tick_portInv hports, hsource, htrim', tick_entriesInv hentries, hkept⟩

end Sys2Proof.Laws
end

/-! ### Frame setup, and the lists it lengthens -/

section
set_option Elab.async false
namespace Sys2Proof.Laws

open Sys2Proof Sys2Proof.Machine Sys2Proof.Safety

/-! #### Frame setup -/

/-- What frame setup makes of the parts of the state, each from the state before (R7, R50, R66, R67, R134). -/
theorem frameSetup_fields (s : State) :
    (frameSetup s).profiles = Vector.ofFn (landedCopies s) ∧ (frameSetup s).commits = s.commits.map (landedGroup s) ∧
      (frameSetup s).schedule = steppedSchedule (landedSchedule s s.schedule) ∧
      (frameSetup s).stream.next = s.stream.next + 1 ∧ (frameSetup s).stream.setUp = some (frameOf s s.schedule) ∧
      (frameSetup s).records = s.records ++ recordsMade s s.schedule := by
  rw [frameSetup_eq]
  exact ⟨rfl, rfl, rfl, rfl, rfl, rfl⟩

/-- The frame that setup makes has the next number and an active copy, and is buffered only with a record free (R134). -/
theorem frameOf_made (s : State) (u : ScheduleUnit) : (frameOf s u).sequence = s.stream.next ∧
    (∃ p, (frameOf s u).bound = (landedCopies s p).active) ∧
      (isBuffered (frameOf s u) = true → s.records.length < 4) := by
  unfold frameOf
  dsimp only
  unfold stageFour
  split
  · exact ⟨rfl, ⟨_, rfl⟩, nofun⟩
  · split
    · exact ⟨rfl, ⟨_, rfl⟩, nofun⟩
    · rename_i hroom
      split
      · exact ⟨rfl, ⟨_, rfl⟩, nofun⟩
      · exact ⟨rfl, ⟨_, rfl⟩, fun _ => Nat.not_le.1 hroom⟩

/-- Setup makes at most one record, when there is room for it, with the frame's copy (R127, R134). -/
theorem recordsMade_made (s : State) (u : ScheduleUnit) :
    (s.records.length ≤ 4 → s.records.length + (recordsMade s u).length ≤ 4) ∧
      ∀ r ∈ recordsMade s u, r.bound = (frameOf s u).bound := by
  obtain ⟨-, -, hroom⟩ := frameOf_made s u
  unfold recordsMade
  dsimp only
  split
  · rename_i hbuffered
    refine ⟨fun _ => ?_, fun r hr => ?_⟩
    · have hlt := hroom hbuffered
      rw [List.length_map]
      cases s.buffers.list.head? <;> simp <;> omega
    · obtain ⟨d, -, rfl⟩ := List.mem_map.1 hr
      rfl
  · exact ⟨id, nofun⟩

/-! #### The commands that set a frame up -/

/-- What a row end may change beside frame setup. -/
abbrev rowEndOtherParts : List Part := rowParts ++ frameEndParts

/-- A row end begins a row, ends the frame, or sets a frame up at the setup row in RUNNING (R1, R2, R3). -/
theorem execRowEnd_forms {s t : State} (h : execRowEnd s = .next t) :
    (ChangesOnly rowParts s t ∨ ∃ f, t = frameEnd s f) ∨
      ∃ f u, rowDue s = some f ∧ isSetupRow f.bound (s.stream.rowIndex + 1) = true ∧ s.stream.state = .running ∧
        ChangesOnly rowParts s u ∧ t = frameSetup u := by
  unfold execRowEnd at h
  split at h
  · obtain rfl := Host.Outcome.next.inj h
    exact .inl (.inl (.refl _ _))
  · rename_i f hdue
    split at h <;> obtain rfl := Host.Outcome.next.inj h
    · have hstream : ChangesOnly [] s { s with stream :=
          { s.stream with rowIndex := s.stream.rowIndex + 1, rowTimer := 0, frameMark := false } } :=
        fun x _ => by cases x <;> rfl
      have hstrobed : ChangesOnly rowParts s _ := hstream.then (rowStrobe_changes _ (s.stream.rowIndex + 1) false)
      unfold beginRow
      dsimp only
      generalize rowStrobe { s with stream :=
          { s.stream with rowIndex := s.stream.rowIndex + 1, rowTimer := 0, frameMark := false } }
        (s.stream.rowIndex + 1) false = u at hstrobed
      split
      · rename_i hcond
        obtain ⟨hrow, hrun⟩ := Bool.and_eq_true_iff.1 hcond
        exact .inr ⟨f, u, hdue, hrow, beq_iff_eq.1 hrun, hstrobed, rfl⟩
      · exact .inl (.inl hstrobed)
    · exact .inl (.inr ⟨f, rfl⟩)

/-- A row end that sets no frame up (R3). -/
theorem execRowEnd_setup {s t : State} (h : execRowEnd s = .next t) :
    ChangesOnly rowEndOtherParts s t ∨
      ∃ f u, rowDue s = some f ∧ isSetupRow f.bound (s.stream.rowIndex + 1) = true ∧ s.stream.state = .running ∧
        ChangesOnly rowParts s u ∧ t = frameSetup u := by
  refine (execRowEnd_forms h).imp_left fun hother => ?_
  rcases hother with hrow | ⟨f, rfl⟩
  · exact hrow.mono
  · exact (frameEnd_changes s f).mono

/-- The machine that a run's first frame is set up from (R13, R69). -/
def startReady (s : State) (mode : StartMode) : State :=
  { s with stream := { s.stream with mode := mode }, schedule := restartPosition s.schedule }

theorem startReady_changes (s : State) (mode : StartMode) : ChangesOnly [.schedule] s (startReady s mode) :=
  .of_parts fun p => by
    cases p with
    | schedule => exact .inl (by decide)
    | _ => exact .inr rfl

theorem startRun_begins (s : State) (mode : StartMode) :
    ChangesOnly (.fetching :: beginParts) (frameSetup (startReady s mode)) (startRun s mode) := by
  have hwaiting (u : State) : ChangesOnly [.streamState] u
      { u with stream := { u.stream with state := .waiting } } :=
    .of_parts fun p => by
      cases p with
      | streamState => exact .inl (by decide)
      | _ => exact .inr rfl
  cases mode with
  | free => exact (beginRow0_changes _).then (setPaused_changes _ false)
  | triggered => exact (hwaiting _).then (setPaused_changes _ false)

/-- A START is refused, or runs in STOPPED (R13). -/
theorem startOwner_forms (r : Record) (s : State) : (startOwner r s).1 = useFree s ∨
    s.stream.state = .stopped ∧ ∃ mode, (startOwner r s).1 = useFree (startRun s mode) := by
  unfold startOwner
  dsimp only
  split
  · exact .inl rfl
  · split
    · exact .inl rfl
    · rename_i hfree
      exact .inr ⟨not_not.1 fun hne => hfree (.inl hne), _, rfl⟩

/-- A START sets the run's first frame up and begins it or waits, or is refused (R13). -/
theorem startOwner_setup (r : Record) (s : State) :
    (startOwner r s).1 = useFree s ∨ s.stream.state = .stopped ∧ ∃ mode,
      ChangesOnly (.fetching :: beginParts) (frameSetup (startReady s mode)) (startOwner r s).1 := by
  refine (startOwner_forms r s).imp_right fun ⟨hstopped, mode, hruns⟩ => ⟨hstopped, mode, ?_⟩
  rw [hruns]
  exact (startRun_begins s mode).then (useFree_changes _)

/-! #### The commit list -/

theorem length_insertGroup (next : Word) (g : CommitGroup) (l : List CommitGroup) :
    (insertGroup next g l).length = l.length + 1 := by
  induction l with
  | nil => rfl
  | cons x l ih =>
    unfold insertGroup
    split
    · rfl
    · rw [List.length_cons, ih, List.length_cons]

theorem commitFault_length {s : State} {c : CommitOperands} (h : commitFault s c = none) : s.commits.length < 4 := by
  unfold commitFault at h
  split at h
  · cases h
  · split at h
    · cases h
    · split at h
      · cases h
      · exact Nat.not_le.1 ‹_›

theorem commitOwner_commits_le (r : Record) {s : State} (h : s.commits.length ≤ 4) :
    (commitOwner r s).1.commits.length ≤ 4 := by
  unfold commitOwner
  dsimp only
  split
  · exact h
  · rename_i hfault
    split
    · exact h
    · change (insertGroup _ _ s.commits).length ≤ 4
      rw [length_insertGroup]
      exact commitFault_length hfault

theorem withdrawOwner_commits_le (r : Record) {s : State} (h : s.commits.length ≤ 4) :
    (withdrawOwner r s).1.commits.length ≤ 4 := by
  unfold withdrawOwner
  split
  · exact h
  · exact (List.length_erase_le ..).trans h

theorem frameSetup_commits_le {s : State} (h : s.commits.length ≤ 4) : (frameSetup s).commits.length ≤ 4 := by
  obtain ⟨-, hcommits, -⟩ := frameSetup_fields s
  rw [hcommits, List.length_map]
  exact h

theorem startOwner_commits_le (r : Record) {s : State} (h : s.commits.length ≤ 4) :
    (startOwner r s).1.commits.length ≤ 4 := by
  rcases startOwner_setup r s with he | ⟨-, mode, hbegun⟩
  · rw [he]
    exact h
  · rw [show (startOwner r s).1.commits = _ from hbegun.samePart .commits]
    exact frameSetup_commits_le h

/-- An immediate request's taking, by what its owner makes of a property that does not regard the intake and the
queue. -/
theorem runImmediate_keeps {P : State → Prop} {s t : State} {test : Record → Bool}
    {owner : Record → State → State × Answer} (hs : P s) (howner : ∀ r u, P u → P (owner r u).1)
    (hready : ∀ rest, P s → P (advanceHead s rest)) (hplace : ∀ u c, P u → P (place u c))
    (h : runImmediate s test owner = .next t) : P t := by
  rcases runImmediate_cases s test owner with ⟨-, he⟩ | ⟨r, rest, -, -, -, he⟩ <;>
    obtain rfl := Host.Outcome.next.inj (he.symm.trans h)
  · exact hs
  · exact hplace _ _ (howner r _ (hready rest hs))

theorem execCommitLanded_commits {s t : State} (h : execCommitLanded s = .next t) :
    t = s ∨ ∃ g c, waitingGroup s = some g ∧ t = place { s with commits := s.commits.erase g } c := by
  unfold execCommitLanded at h
  split at h <;> obtain rfl := Host.Outcome.next.inj h
  · exact .inr ⟨_, _, ‹_›, rfl⟩
  · exact .inl rfl

theorem exec_commits_le {c : Instr} {s t : State} (hreset : isReset c = false) (h : exec c s = .next t)
    (hs : s.commits.length ≤ 4) : t.commits.length ≤ 4 := by
  have hkept (hcommits : (commandParts c).contains .commits = false) : t.commits.length ≤ 4 := by
    rw [show t.commits = s.commits from (exec_changes hreset h).samePart .commits hcommits]
    exact hs
  cases c with
  | powerOnReset straps => cases hreset
  | reset => cases hreset
  | commit =>
    exact runImmediate_keeps (P := fun s => s.commits.length ≤ 4) hs (fun r _ => commitOwner_commits_le r)
      (fun _ => id) (fun _ _ => id) h
  | withdraw =>
    exact runImmediate_keeps (P := fun s => s.commits.length ≤ 4) hs (fun r _ => withdrawOwner_commits_le r)
      (fun _ => id) (fun _ _ => id) h
  | start =>
    exact runImmediate_keeps (P := fun s => s.commits.length ≤ 4) hs (fun r _ => startOwner_commits_le r)
      (fun _ => id) (fun _ _ => id) h
  | commitLanded =>
    rcases execCommitLanded_commits h with rfl | ⟨g, c, -, rfl⟩
    · exact hs
    · exact (List.length_erase_le (a := g) (l := s.commits)).trans hs
  | rowEnd =>
    rcases execRowEnd_setup h with hother | ⟨f, u, -, -, -, hu, rfl⟩
    · rw [show t.commits = s.commits from hother.samePart .commits]
      exact hs
    · refine frameSetup_commits_le ?_
      rw [show u.commits = s.commits from hu.samePart .commits]
      exact hs
  | _ => exact hkept rfl

/-! #### The frame record table -/

theorem length_of_recordKeys {s t : State} (h : SamePart .recordKeys s t) : t.records.length = s.records.length := by
  have hlen := congrArg List.length (show t.records.map recordKey = s.records.map recordKey from h)
  rwa [List.length_map, List.length_map] at hlen

theorem frameSetup_records_le {s : State} (h : s.records.length ≤ 4) : (frameSetup s).records.length ≤ 4 := by
  obtain ⟨-, -, -, -, -, hrecords⟩ := frameSetup_fields s
  rw [hrecords, List.length_append]
  exact (recordsMade_made s s.schedule).1 h

theorem startOwner_records_le (r : Record) {s : State} (h : s.records.length ≤ 4) :
    (startOwner r s).1.records.length ≤ 4 := by
  rcases startOwner_setup r s with he | ⟨-, mode, hbegun⟩
  · rw [he]
    exact h
  · rw [length_of_recordKeys (hbegun.samePart .recordKeys)]
    exact frameSetup_records_le h

theorem exec_records_le {c : Instr} {s t : State} (hreset : isReset c = false) (h : exec c s = .next t)
    (hs : s.records.length ≤ 4) : t.records.length ≤ 4 := by
  have hkept (hkeys : (commandParts c).contains .recordKeys = false) : t.records.length ≤ 4 := by
    rw [length_of_recordKeys ((exec_changes hreset h).samePart .recordKeys hkeys)]
    exact hs
  cases c with
  | powerOnReset straps => cases hreset
  | reset => cases hreset
  | start =>
    exact runImmediate_keeps (P := fun s => s.records.length ≤ 4) hs (fun r _ => startOwner_records_le r)
      (fun _ => id) (fun _ _ => id) h
  | frameReportGrant =>
    change execFrameReportGrant s = _ at h
    unfold execFrameReportGrant at h
    split at h <;> obtain rfl := Host.Outcome.next.inj h
    · exact (List.length_filter_le ..).trans hs
    · exact hs
  | rowEnd =>
    rcases execRowEnd_setup h with hother | ⟨f, u, -, -, -, hu, rfl⟩
    · rw [length_of_recordKeys (hother.samePart .recordKeys)]
      exact hs
    · refine frameSetup_records_le ?_
      rw [length_of_recordKeys (hu.samePart .recordKeys)]
      exact hs
  | _ => exact hkept rfl

end Sys2Proof.Laws
end

/-! ### The capacities over every step -/

section
set_option Elab.async false
namespace Sys2Proof.Laws

open Sys2Proof Sys2Proof.Machine Sys2Proof.Safety

/-- The buffer list has its four places, and one for a descriptor being fetched (R128, R129). -/
abbrev BufferRoom (s : State) : Prop :=
  s.buffers.list.length ≤ 4 ∧ (s.buffers.fetch.isSome = true → s.buffers.list.length < 4)

/-- The intake has its four places, and one for a record being fetched (R149). -/
abbrev IntakeRoom (s : State) : Prop :=
  s.requests.intake.length ≤ 4 ∧ (s.requests.fetch.isSome = true → s.requests.intake.length < 4)

/-- The staging store has its size (R118). -/
abbrev StoreFits (s : State) : Prop := storeHeld s.coder ≤ 8192

/-! #### The holding queue -/

theorem exec_holding_le {c : Instr} {s t : State} (hreset : isReset c = false) (h : exec c s = .next t)
    (hs : s.completions.holding.length ≤ 8) : t.completions.holding.length ≤ 8 := by
  by_cases hpost : ∃ a, c = .completionWriteDone a
  · obtain ⟨a, rfl⟩ := hpost
    change execCompletionWriteDone a s = _ at h
    unfold execCompletionWriteDone at h
    split at h
    · dsimp only at h
      split at h <;> obtain rfl := Host.Outcome.next.inj h
      · exact hs
      · rw [show (noticeAtPosting (postHead s) _).completions.holding = s.completions.holding.tail from
          (noticeAtPosting_changes _ _).samePart .holding, List.length_tail]
        exact (Nat.sub_le _ 1).trans hs
    · obtain rfl := Host.Outcome.next.inj h
      exact hs
  · exact (exec_queueGrows hreset (fun a ha => hpost ⟨a, ha⟩) h).2 hs

/-! #### The buffer list -/

theorem bufferRoom_of_shorter {s t : State} (hs : BufferRoom s) (hlist : t.buffers.list.length ≤ s.buffers.list.length)
    (hfetch : t.buffers.fetch.isSome = true → s.buffers.fetch.isSome = true) : BufferRoom t := by
  obtain ⟨hlen, hroom⟩ := hs
  exact ⟨hlist.trans hlen, fun hf => lt_of_le_of_lt hlist (hroom (hfetch hf))⟩

theorem startOwner_bufferRoom (r : Record) {s : State} (hs : BufferRoom s) : BufferRoom (startOwner r s).1 := by
  rcases startOwner_buffers r s with he | ⟨hshrinks, -, -, -, hfetch⟩
  · rw [he]
    exact hs
  · exact bufferRoom_of_shorter hs hshrinks.1.length_le (by rw [hfetch]; exact id)

theorem reclaimOwner_buffers (r : Record) (s : State) : (reclaimOwner r s).state.buffers.list = s.buffers.list ∧
    (reclaimOwner r s).state.buffers.fetch = s.buffers.fetch := by
  unfold reclaimOwner
  dsimp only
  split
  · exact ⟨rfl, rfl⟩
  · split
    · exact ⟨rfl, rfl⟩
    · split <;> exact ⟨rfl, rfl⟩

theorem finishReclaim_buffers (s : State) : (finishReclaim s).buffers.list = s.buffers.list ∧
    (finishReclaim s).buffers.fetch = s.buffers.fetch := by
  rcases finishReclaim_cases s with h | ⟨r, -, -, h⟩ <;> rw [h] <;> exact ⟨rfl, rfl⟩

/-- A descriptor in hand takes the place that its fetch kept (R129). -/
theorem takeDescriptor_room {b : Buffers} (forReclaim : Bool) (d : Descriptor) (h : b.list.length < 4) :
    (takeDescriptor b forReclaim d).list.length ≤ 4 ∧ (takeDescriptor b forReclaim d).fetch = none := by
  unfold takeDescriptor
  split
  · refine ⟨?_, rfl⟩
    change (b.list ++ [d]).length ≤ 4
    rw [List.length_append]
    exact h
  · exact ⟨h.le, rfl⟩

theorem execDescriptorFetchDone_bufferRoom {a : ReadAnswer 128} {s t : State}
    (h : execDescriptorFetchDone a s = .next t) (hs : BufferRoom s) : BufferRoom t := by
  unfold execDescriptorFetchDone at h
  split at h
  · rename_i f _ hfetch
    split at h <;> obtain rfl := Host.Outcome.next.inj h
    · exact ⟨hs.1, nofun⟩
    · obtain ⟨hlen, hnone⟩ := takeDescriptor_room f.forReclaim (descriptorOf a.data) (hs.2 (by rw [hfetch]; rfl))
      obtain ⟨hlist, hfetch'⟩ := finishReclaim_buffers
        { s with buffers := takeDescriptor s.buffers f.forReclaim (descriptorOf a.data) }
      exact ⟨(congrArg List.length hlist).trans_le hlen,
        fun hsome => absurd ((congrArg Option.isSome (hfetch'.trans hnone)).symm.trans hsome) Bool.false_ne_true⟩
  · obtain rfl := Host.Outcome.next.inj h
    exact hs

theorem execDescriptorFetchIssue_bufferRoom {s t : State} (h : execDescriptorFetchIssue s = .next t)
    (hs : BufferRoom s) : BufferRoom t := by
  unfold execDescriptorFetchIssue at h
  split at h
  · rename_i hdue
    obtain rfl := Host.Outcome.next.inj h
    unfold reclaimFetchDue at hdue
    split at hdue
    · have hroom : s.buffers.list.length < 4 := of_decide_eq_true (Bool.and_eq_true_iff.1 hdue).2
      exact ⟨hroom.le, fun _ => hroom⟩
    · cases hdue
  · split at h <;> obtain rfl := Host.Outcome.next.inj h
    · rename_i hdue
      have hroom : s.buffers.list.length < 4 :=
        of_decide_eq_true (Bool.and_eq_true_iff.1 (Bool.and_eq_true_iff.1 hdue).1).2
      exact ⟨hroom.le, fun _ => hroom⟩
    · exact hs

theorem execReclaimedReturn_bufferRoom {s t : State} (h : execReclaimedReturn s = .next t) (hs : BufferRoom s) :
    BufferRoom t := by
  unfold execReclaimedReturn at h
  split at h
  · rename_i d rest r _ hlist _
    split at h <;> obtain rfl := Host.Outcome.next.inj h
    · obtain ⟨hlist', hfetch'⟩ := finishReclaim_buffers (place
        { s with buffers := { s.buffers with list := rest, reclaim := some (countReturn r) } }
        (.bufferReturned d.tag .reclaimed))
      refine bufferRoom_of_shorter hs ?_ (by rw [hfetch']; exact id)
      rw [hlist', hlist]
      exact Nat.le_succ _
    · exact hs
  · obtain rfl := Host.Outcome.next.inj h
    exact hs

theorem exec_bufferRoom {c : Instr} {s t : State} (hreset : isReset c = false) (h : exec c s = .next t)
    (hs : BufferRoom s) : BufferRoom t := by
  have hchanges := exec_changes hreset h
  have hkept (hlist : (commandParts c).contains .descriptors = false) (hfetch : (commandParts c).contains .fetching = false) :
      BufferRoom t := by
    have hsame := hchanges.samePart .descriptors hlist
    have hsame' := hchanges.samePart .fetching hfetch
    simp only [SamePart, Prod.mk.injEq] at hsame hsame'
    obtain ⟨hl, -⟩ := hsame
    obtain ⟨-, hf, -⟩ := hsame'
    exact bufferRoom_of_shorter hs (by rw [hl]) (by rw [hf]; exact id)
  cases c with
  | powerOnReset straps => cases hreset
  | reset => cases hreset
  | setupBlockReadDone a =>
    change execSetupBlockReadDone a s = _ at h
    unfold execSetupBlockReadDone at h
    split at h
    · split at h
      · obtain rfl := Host.Outcome.next.inj h
        exact hs
      · split at h <;> obtain rfl := Host.Outcome.next.inj h <;> exact hs
    · obtain rfl := Host.Outcome.next.inj h
      exact hs
  | start =>
    exact runImmediate_keeps (P := BufferRoom) hs (fun r _ => startOwner_bufferRoom r) (fun _ => id) (fun _ _ => id) h
  | reclaim =>
    rcases runLong_cases s (ofKind kindReclaim) reclaimOwner with ⟨-, he⟩ | ⟨r, rest, -, -, -, he⟩ <;>
      obtain rfl := Host.Outcome.next.inj (he.symm.trans h)
    · exact hs
    · obtain ⟨hlist, hfetch⟩ := reclaimOwner_buffers r (advanceHead s rest)
      exact bufferRoom_of_shorter (t := enterList r _ _ _) hs (congrArg List.length hlist).le
        fun hsome => (congrArg Option.isSome hfetch).symm.trans hsome
  | rowEnd =>
    have hsame' := hchanges.samePart .fetching
    simp only [SamePart, Prod.mk.injEq] at hsame'
    obtain ⟨-, hf, -⟩ := hsame'
    exact bufferRoom_of_shorter hs (execRowEnd_listShrinks h).1.length_le (by rw [hf]; exact id)
  | descriptorFetchIssue => exact execDescriptorFetchIssue_bufferRoom h hs
  | descriptorFetchDone a => exact execDescriptorFetchDone_bufferRoom h hs
  | reclaimedReturn => exact execReclaimedReturn_bufferRoom h hs
  | rejectedReturn =>
    change execRejectedReturn s = _ at h
    unfold execRejectedReturn at h
    split at h <;> obtain rfl := Host.Outcome.next.inj h <;> exact hs
  | _ => exact hkept rfl rfl

/-! #### The intake -/

theorem exec_intakeRoom {c : Instr} {s t : State} (hreset : isReset c = false) (h : exec c s = .next t)
    (hs : IntakeRoom s) : IntakeRoom t := by
  have hkept (hfetch : fetchesRecords c = false) : IntakeRoom t := by
    obtain ⟨hlen, hroom⟩ := hs
    rcases exec_intake hreset hfetch h with hsame | ⟨r, rest, hintake, hsame⟩ <;>
      simp only [SamePart, Prod.mk.injEq] at hsame <;> obtain ⟨-, -, hf, hi⟩ := hsame
    · exact ⟨by rw [hi]; exact hlen, fun hsome => by rw [hi]; exact hroom (hf ▸ hsome)⟩
    · rw [hintake, List.length_cons] at hlen
      have hrest : t.requests.intake.length < 4 := by
        rw [hi]
        exact hlen
      exact ⟨hrest.le, fun _ => hrest⟩
  cases c with
  | requestFetchIssue =>
    change execRequestFetchIssue s = _ at h
    unfold execRequestFetchIssue at h
    split at h <;> obtain rfl := Host.Outcome.next.inj h
    · rename_i hdue
      have hroom : s.requests.intake.length < 4 :=
        of_decide_eq_true (Bool.and_eq_true_iff.1 (Bool.and_eq_true_iff.1 hdue).1).2
      exact ⟨hroom.le, fun _ => hroom⟩
    · exact hs
  | requestFetchDone a =>
    change execRequestFetchDone a s = _ at h
    unfold execRequestFetchDone at h
    split at h
    · rename_i hfetch
      dsimp only at h
      split at h <;> obtain rfl := Host.Outcome.next.inj h
      · exact ⟨hs.1, nofun⟩
      · refine ⟨?_, nofun⟩
        change (s.requests.intake ++ [a.data]).length ≤ 4
        rw [List.length_append]
        exact hs.2 (by rw [hfetch]; rfl)
    · obtain rfl := Host.Outcome.next.inj h
      exact hs
  | setupBlockReadDone a =>
    change execSetupBlockReadDone a s = _ at h
    unfold execSetupBlockReadDone at h
    split at h
    · split at h
      · obtain rfl := Host.Outcome.next.inj h
        exact hs
      · split at h <;> obtain rfl := Host.Outcome.next.inj h <;> exact hs
    · obtain rfl := Host.Outcome.next.inj h
      exact hs
  | _ => exact hkept rfl

/-! #### The pending list -/

/-- The taking of a long request finds a free entry (R153). -/
theorem runLong_entries_le {s t : State} {test : Record → Bool} {owner : Record → State → Taken}
    (howner : ∀ r u, (owner r u).state.requests.entries.length = u.requests.entries.length)
    (h : runLong s test owner = .next t) (hs : s.requests.entries.length ≤ 4) : t.requests.entries.length ≤ 4 := by
  rcases runLong_cases s test owner with ⟨-, he⟩ | ⟨r, rest, ⟨-, hroom, -⟩, -, -, he⟩ <;>
    obtain rfl := Host.Outcome.next.inj (he.symm.trans h)
  · exact hs
  · change ((owner r (advanceHead s rest)).state.requests.entries ++ [_]).length ≤ 4
    rw [List.length_append, howner]
    exact hroom

theorem LongOwner.entryCount {w : List Part} {work : LongWork} {s : State} {d : Taken} (h : LongOwner w work s d)
    (hw : w.contains .entryCount = false := by rfl) :
    d.state.requests.entries.length = s.requests.entries.length :=
  h.1.samePart .entryCount hw

theorem execStopEnd_entries_le {s t : State} (h : execStopEnd s = .next t) (hs : s.requests.entries.length ≤ 4) :
    t.requests.entries.length ≤ 4 := by
  unfold execStopEnd at h
  split at h
  · exact runLong_entries_le (fun r u => (stopEndLongOwner_long r u).entryCount) h hs
  · have hkept := runImmediate_changes (w' := .requests :: .holding :: stopParts) stopEndImmediateOwner_changes h
    rw [show t.requests.entries.length = s.requests.entries.length from hkept.samePart .entryCount]
    exact hs

theorem execLongRequestDone_entries_le {s t : State} (h : execLongRequestDone s = .next t)
    (hs : s.requests.entries.length ≤ 4) : t.requests.entries.length ≤ 4 := by
  unfold execLongRequestDone at h
  split at h
  · split at h
    · split at h <;> obtain rfl := Host.Outcome.next.inj h
      · exact (List.length_eraseIdx_le ..).trans hs
      · exact hs
    · obtain rfl := Host.Outcome.next.inj h
      exact hs
  · obtain rfl := Host.Outcome.next.inj h
    exact hs

theorem exec_entries_le {c : Instr} {s t : State} (hreset : isReset c = false) (h : exec c s = .next t)
    (hs : s.requests.entries.length ≤ 4) : t.requests.entries.length ≤ 4 := by
  have hkept (hcount : (commandParts c).contains .entryCount = false) : t.requests.entries.length ≤ 4 := by
    rw [show t.requests.entries.length = s.requests.entries.length from
      (exec_changes hreset h).samePart .entryCount hcount]
    exact hs
  cases c with
  | powerOnReset straps => cases hreset
  | reset => cases hreset
  | stopEnd => exact execStopEnd_entries_le h hs
  | portAlign => exact runLong_entries_le (fun r u => (portAlignOwner_changes r u).samePart .entryCount) h hs
  | trimProgram => exact runLong_entries_le (fun r u => (trimProgramOwner_long r u).entryCount) h hs
  | trimLoad => exact runLong_entries_le (fun r u => (trimLoadOwner_long r u).entryCount) h hs
  | readOut => exact runLong_entries_le (fun r u => by rw [(readOutOwner_changes r u).1]) h hs
  | reclaim => exact runLong_entries_le (fun r u => (reclaimOwner_long r u).entryCount) h hs
  | longRequestDone => exact execLongRequestDone_entries_le h hs
  | _ => exact hkept rfl

/-! #### The staging store -/

theorem ChangesOnly.storeFits {w : List Part} {s t : State} (h : ChangesOnly w s t) (hs : StoreFits s)
    (hcoder : w.contains .coder = false := by rfl) : StoreFits t := by
  rw [StoreFits, show t.coder = s.coder from h.samePart .coder hcoder]
  exact hs

theorem takeRow_storeFits {s : State} (x : FrameRecord) (h : Handover) (hs : StoreFits s) : StoreFits (takeRow s x h) := by
  rcases takeRow_cases s x h with ⟨-, he⟩ | ⟨-, -, he⟩ | ⟨-, -, -, he⟩ | ⟨-, -, hfits, he⟩ <;> rw [he]
  · exact hs
  · exact hs
  · exact hs
  · rw [StoreFits] at hs
    change (s.coder.unissued ++ stageBytes x.ref s.coder.cursor _).length +
      (s.coder.bursts.map fun b => b.data.length).sum ≤ 8192
    have hlen : (stageBytes x.ref s.coder.cursor (codeRow x.bound s.coder.preds h)).length =
        (codeRow x.bound s.coder.preds h).length := List.length_mapIdx
    rw [List.length_append, hlen]
    have hsize : storeSize = 8192 := rfl
    unfold storeHeld at hfits hs
    omega

theorem drainIfDone_storeHeld (s : State) (ref : Nat) : storeHeld (drainIfDone s ref).coder = storeHeld s.coder := by
  rcases drainIfDone_cases s ref with h | ⟨r, -, -, -, h | h⟩ <;> rw [h] <;> rfl

theorem endCapture_storeHeld (s : State) (ref : Nat) : storeHeld (endCapture s ref).coder = storeHeld s.coder :=
  drainIfDone_storeHeld _ ref

theorem completeRow_storeFits {s : State} (hs : StoreFits s) : StoreFits (completeRow s) := by
  rcases completeRow_cases s with ⟨-, h⟩ | ⟨r, -, ⟨-, h⟩ | ⟨x, -, h⟩⟩ <;> rw [h]
  · exact hs
  · exact hs
  · have hcoded := takeRow_storeFits (s := addDamage { s with row := none } x.ref (rowDamage r x.bound.channelMask)) x
      (handoverOf r x.bound) hs
    unfold handOver
    dsimp only
    split
    · rw [StoreFits, endCapture_storeHeld]
      exact hcoded
    · exact hcoded

theorem completeRowIfDone_storeFits {s : State} (hs : StoreFits s) : StoreFits (completeRowIfDone s) := by
  unfold completeRowIfDone
  cases s.row with
  | none => exact hs
  | some r =>
    dsimp only
    split
    · exact completeRow_storeFits hs
    · exact hs

theorem strobeInstant_storeFits {s : State} (atRow cut : Bool) (hs : StoreFits s) :
    StoreFits (strobeInstant s atRow cut) :=
  (sendStrobes_changes _ atRow).storeFits
    (completeRow_storeFits ((foldl_closeAtStrobe_changes cut allPorts s).storeFits hs))

theorem rowStrobe_storeFits {s : State} (index : Nat) (cut : Bool) (hs : StoreFits s) :
    StoreFits (rowStrobe s index cut) := by
  have hstruck := strobeInstant_storeFits true cut hs
  unfold rowStrobe
  dsimp only
  generalize strobeInstant s true cut = u at hstruck ⊢
  exact completeRowIfDone_storeFits hstruck

theorem openFrame_storeHeld (s : State) (f : SlotFrame) : storeHeld (openFrame s f).coder = storeHeld s.coder := by
  cases f <;> rfl

theorem beginRow0_storeFits {s : State} (hs : StoreFits s) : StoreFits (beginRow0 s) := by
  unfold beginRow0
  cases s.stream.setUp with
  | none => exact hs
  | some f =>
    refine rowStrobe_storeFits 0 _ ?_
    rw [StoreFits, show storeHeld _ = _ from openFrame_storeHeld s f]
    exact hs

theorem frameEnd_storeFits {s : State} (f : SlotFrame) (hs : StoreFits s) : StoreFits (frameEnd s f) := by
  have hreleased : StoreFits (reportDropped { s with stream := { s.stream with current := none } } f) :=
    (reportDropped_changes { s with stream := { s.stream with current := none } } f).storeFits hs
  unfold frameEnd
  dsimp only
  generalize reportDropped { s with stream := { s.stream with current := none } } f = u at hreleased
  split
  · split
    · exact beginRow0_storeFits hreleased
    · exact hreleased
    · exact (endRun_changes u).storeFits hreleased
    · exact hreleased
  · exact hreleased

theorem execRowEnd_storeFits {s t : State} (h : execRowEnd s = .next t) (hs : StoreFits s) : StoreFits t := by
  unfold execRowEnd at h
  split at h
  · obtain rfl := Host.Outcome.next.inj h
    exact hs
  · split at h <;> obtain rfl := Host.Outcome.next.inj h
    · have hstruck := rowStrobe_storeFits (s := { s with stream :=
        { s.stream with rowIndex := s.stream.rowIndex + 1, rowTimer := 0, frameMark := false } })
        (s.stream.rowIndex + 1) false hs
      unfold beginRow
      dsimp only
      generalize rowStrobe { s with stream :=
        { s.stream with rowIndex := s.stream.rowIndex + 1, rowTimer := 0, frameMark := false } }
        (s.stream.rowIndex + 1) false = u at hstruck
      split
      · exact (frameSetup_changes u).storeFits hstruck
      · exact hstruck
    · exact frameEnd_storeFits _ hs

theorem startOwner_storeFits (r : Record) {s : State} (hs : StoreFits s) : StoreFits (startOwner r s).1 := by
  have hready (mode : StartMode) : StoreFits (frameSetup (startReady s mode)) :=
    (frameSetup_changes (startReady s mode)).storeFits hs
  have hrun (mode : StartMode) : StoreFits (startRun s mode) := by
    cases mode with
    | free => exact beginRow0_storeFits (hready .free)
    | triggered => exact hready .triggered
  unfold startOwner
  dsimp only
  split
  · exact hs
  · split
    · exact hs
    · exact hrun _

theorem abortCurrent_storeFits {s : State} (hs : StoreFits s) : StoreFits (abortCurrent s) := by
  unfold abortCurrent
  split
  · unfold abortRecord
    split
    · rw [StoreFits, endCapture_storeHeld]
      exact hs
    · exact hs
  · rename_i q p b reason _
    exact (reportDropped_changes s (.dropped q p b reason)).storeFits hs
  · exact hs

theorem abortRun_storeFits {s : State} (hs : StoreFits s) : StoreFits (abortRun s) := by
  unfold abortRun
  split
  · exact hs
  · have hmarked : StoreFits (completeStopEnd s) := (completeStopEnd_changes s).storeFits hs
    dsimp only
    have haborted : StoreFits (abortCurrent { completeStopEnd s with
        stream := { (completeStopEnd s).stream with frameMark := false }, row := none }) := abortCurrent_storeFits hmarked
    generalize abortCurrent { completeStopEnd s with
      stream := { (completeStopEnd s).stream with frameMark := false }, row := none } = u at haborted
    split
    · exact (cancelSetUp_changes { u with stream := { u.stream with current := none } }).storeFits haborted
    · exact haborted

theorem execStopAbort_storeFits {s t : State} (h : execStopAbort s = .next t) (hs : StoreFits s) : StoreFits t := by
  unfold execStopAbort at h
  split at h <;> obtain rfl := Host.Outcome.next.inj h
  · exact hs
  · rename_i r taken htaken
    obtain ⟨rest, -, -, -, rfl⟩ := (takeImmediate_eq_some_iff s _ r taken).1 htaken
    exact abortRun_storeFits (s := answerImmediate r (useFree (advanceHead s rest)) _) hs

/-- A burst's bytes stay in the store until its answer (R120, R121). -/
theorem execPayloadBurstIssue_storeFits {s t : State} (h : execPayloadBurstIssue s = .next t) (hs : StoreFits s) :
    StoreFits t := by
  unfold execPayloadBurstIssue at h
  split at h <;> obtain rfl := Host.Outcome.next.inj h
  · rename_i b rest _ hburst
    have hheld : rest.length + b.data.length = s.coder.unissued.length := by
      unfold nextBurst at hburst
      split at hburst
      · cases hburst
      · split at hburst
        · cases hburst
        · dsimp only at hburst
          split at hburst
          · obtain ⟨rfl, rfl⟩ := Prod.mk.inj (Option.some.inj hburst)
            dsimp only
            rw [List.length_map, List.length_drop]
            exact Nat.sub_add_cancel ((List.length_take_le' _ _).trans (List.takeWhile_sublist _).length_le)
          · cases hburst
    rw [StoreFits] at hs ⊢
    unfold storeHeld at hs ⊢
    dsimp only
    rw [List.map_append, List.sum_append]
    simp only [List.map_cons, List.map_nil, List.sum_cons, List.sum_nil]
    omega
  · exact hs

theorem sum_eraseIdx_le (l : List Nat) (i : Nat) : (l.eraseIdx i).sum ≤ l.sum :=
  (List.eraseIdx_sublist l i).sum_le_sum fun _ _ => Nat.zero_le _

/-- An answered burst leaves the store, and so may the rest of its frame's bytes (R121). -/
theorem execPayloadWriteDone_storeFits {burst : Nat} {a : WriteAnswer} {s t : State}
    (h : execPayloadWriteDone burst a s = .next t) (hs : StoreFits s) : StoreFits t := by
  have herased : ((s.coder.bursts.eraseIdx burst).map fun b => b.data.length).sum ≤
      (s.coder.bursts.map fun b => b.data.length).sum := by
    rw [← List.eraseIdx_map]
    exact sum_eraseIdx_le _ _
  rw [StoreFits] at hs ⊢
  unfold storeHeld at hs
  unfold execPayloadWriteDone at h
  split at h
  · rename_i b _ _
    dsimp only at h
    split at h <;> obtain rfl := Host.Outcome.next.inj h
    · refine (drainIfDone_storeHeld _ _).trans_le ?_
      have hfiltered := List.length_filter_le (fun y : StagedByte => y.ref != b.ref) s.coder.unissued
      change (s.coder.unissued.filter fun y => y.ref != b.ref).length +
        ((s.coder.bursts.eraseIdx burst).map fun b => b.data.length).sum ≤ 8192
      omega
    · refine (drainIfDone_storeHeld _ _).trans_le ?_
      change s.coder.unissued.length + ((s.coder.bursts.eraseIdx burst).map fun b => b.data.length).sum ≤ 8192
      omega
  · obtain rfl := Host.Outcome.next.inj h
    exact hs

theorem execHeaderWriteDone_storeFits {write : Nat} {a : WriteAnswer} {s t : State}
    (h : execHeaderWriteDone write a s = .next t) (hs : StoreFits s) : StoreFits t := by
  unfold execHeaderWriteDone at h
  split at h
  · dsimp only at h
    obtain rfl := Host.Outcome.next.inj h
    rw [StoreFits, enterReportWait_coder]
    split <;> exact hs
  · obtain rfl := Host.Outcome.next.inj h
    exact hs

theorem exec_storeFits {c : Instr} {s t : State} (hreset : isReset c = false) (h : exec c s = .next t)
    (hs : StoreFits s) : StoreFits t := by
  have hchanges := exec_changes hreset h
  cases c with
  | powerOnReset straps => cases hreset
  | reset => cases hreset
  | rowEnd => exact execRowEnd_storeFits h hs
  | maintenanceStrobe =>
    change execMaintenanceStrobe s = _ at h
    unfold execMaintenanceStrobe at h
    split at h <;> obtain rfl := Host.Outcome.next.inj h
    · exact strobeInstant_storeFits (s := { s with stream := { s.stream with maintenance := some 0 } }) _ _ hs
    · exact hs
  | triggerEdge =>
    change execTriggerEdge s = _ at h
    unfold execTriggerEdge at h
    split at h <;> obtain rfl := Host.Outcome.next.inj h
    · exact beginRow0_storeFits hs
    · exact hs
    · exact hs
  | replyReceived p own bits =>
    change execReplyReceived p own bits s = _ at h
    unfold execReplyReceived at h
    split at h <;> obtain rfl := Host.Outcome.next.inj h
    · exact hs
    · exact completeRowIfDone_storeFits ((applyVerdict_changes _ _ _ _ _).storeFits hs)
  | start =>
    exact runImmediate_keeps (P := StoreFits) hs (fun r _ => startOwner_storeFits r) (fun _ => id) (fun _ _ => id) h
  | stopAbort => exact execStopAbort_storeFits h hs
  | portAlign =>
    rcases runLong_cases s (ofKind kindPortAlign) portAlignOwner with ⟨-, he⟩ | ⟨r, rest, -, -, -, he⟩ <;>
      obtain rfl := Host.Outcome.next.inj (he.symm.trans h)
    · exact hs
    · have htaken : StoreFits (portAlignOwner r (advanceHead s rest)).state := by
        unfold portAlignOwner
        dsimp only
        split
        · exact hs
        · exact completeRowIfDone_storeFits ((decideCondition_changes _ _ _).storeFits hs)
      exact htaken
  | payloadBurstIssue => exact execPayloadBurstIssue_storeFits h hs
  | payloadWriteDone burst a => exact execPayloadWriteDone_storeFits h hs
  | headerWriteDone write a => exact execHeaderWriteDone_storeFits h hs
  | _ => exact hchanges.storeFits hs

/-! #### All of them -/

theorem exec_capacityInv {c : Instr} {s t : State} (hinv : Inv s) (h : exec c s = .next t) : CapacityInv t := by
  by_cases hreset : isReset c = true
  · exact (justReset_of_exec hinv hreset h).1.capacityInv
  · have hreset : isReset c = false := Bool.eq_false_iff.2 hreset
    obtain ⟨⟨hholding, hcommits, hrecords, hlist, hfetch, hintake, hread, hentries, hstore⟩, -⟩ := hinv
    obtain ⟨hlist', hfetch'⟩ := exec_bufferRoom hreset h ⟨hlist, hfetch⟩
    obtain ⟨hintake', hread'⟩ := exec_intakeRoom hreset h ⟨hintake, hread⟩
    exact ⟨exec_holding_le hreset h hholding, exec_commits_le hreset h hcommits, exec_records_le hreset h hrecords,
      hlist', hfetch', hintake', hread', exec_entries_le hreset h hentries, exec_storeFits hreset h hstore⟩

end Sys2Proof.Laws
end

/-! ### The schedule over every step -/

section
set_option Elab.async false
namespace Sys2Proof.Laws

open Sys2Proof Sys2Proof.Machine Sys2Proof.Safety

/-- What the schedule unit's invariant asks of it (R60, R67). -/
abbrev ScheduleOk (u : ScheduleUnit) : Prop :=
  ScheduleSound u.staged ∧ (∀ e ∈ u.pend, ScheduleSound e) ∧ ScheduleSound u.active ∧ PositionSound u

/-- A STAGE_SCHEDULE body without a fault has entries that pass their checks (R63). -/
theorem entryOk_of_no_fault {entries : List (Nat × Nat)} {n : Nat} (h : entryFault n entries = none) :
    ∀ x ∈ entries, EntryOk x := by
  induction entries generalizing n with
  | nil => exact nofun
  | cons x entries ih =>
    unfold entryFault at h
    split at h
    · split at h
      · exact List.forall_mem_cons.2 ⟨⟨‹_›, ‹_›⟩, ih h⟩
      · cases h
    · cases h

theorem scheduleSound_of_no_fault {r : Record} {count : Nat} (h : scheduleFault count (scheduleBody r count) = none) :
    ScheduleSound ((scheduleBody r count).map scheduleEntryOf) := by
  have hlength : ((scheduleBody r count).map scheduleEntryOf).length = count := by simp [scheduleBody]
  unfold scheduleFault at h
  split at h
  · rename_i hcount
    refine ⟨by rw [hlength]; exact hcount.1, by rw [hlength]; exact hcount.2, fun e he => ?_⟩
    obtain ⟨x, hx, rfl⟩ := List.mem_map.1 he
    exact (entryOk_of_no_fault h x hx).2
  · cases h

/-- The position at an entry of a sound schedule with its full repeat (R66, R67, R69). -/
theorem positionSound_at {u : ScheduleUnit} (h : ScheduleSound u.active) (hentry : u.entry < u.active.length)
    (hremaining : u.remaining = repeatAt u.active u.entry) : PositionSound u := by
  obtain ⟨-, -, hrepeats⟩ := h
  have hget : u.active[u.entry]? = some u.active[u.entry] := List.getElem?_eq_getElem hentry
  have hrepeat : u.remaining = u.active[u.entry].repeats := by
    rw [hremaining, repeatAt, hget]
    rfl
  exact ⟨_, hget, by rw [hrepeat]; exact (hrepeats _ (List.getElem_mem hentry)).1, hrepeat.le⟩

theorem restartPosition_ok {u : ScheduleUnit} (h : ScheduleOk u) : ScheduleOk (restartPosition u) := by
  obtain ⟨hstaged, hpend, hactive, -⟩ := h
  exact ⟨hstaged, hpend, hactive, positionSound_at hactive hactive.1 (scheduleEntryAt_repeats u.active 0)⟩

theorem activateSchedule_ok {u : ScheduleUnit} {entries : List ScheduleEntry} (h : ScheduleOk u)
    (hentries : ScheduleSound entries) : ScheduleOk (activateSchedule u entries) := by
  obtain ⟨hstaged, hpend, -⟩ := h
  exact ⟨hstaged, hpend, hentries, positionSound_at hentries hentries.1 (scheduleEntryAt_repeats entries 0)⟩

theorem landedSchedule_ok {s : State} {u : ScheduleUnit} (h : ScheduleOk u) : ScheduleOk (landedSchedule s u) := by
  unfold landedSchedule
  split
  · split
    · rename_i e hpend
      have he : ScheduleSound e := h.2.1 e hpend
      exact ⟨h.1, nofun, he, positionSound_at he he.1 rfl⟩
    · exact h
  · exact h

theorem steppedSchedule_ok {u : ScheduleUnit} (h : ScheduleOk u) : ScheduleOk (steppedSchedule u) := by
  obtain ⟨hstaged, hpend, hactive, e, he, hlow, hhigh⟩ := h
  unfold steppedSchedule
  split
  · refine ⟨hstaged, hpend, hactive, positionSound_at hactive ?_ rfl⟩
    dsimp only
    split
    · assumption
    · exact hactive.1
  · rename_i hmore
    have hlow : 1 ≤ u.remaining - 1 := by omega
    have hhigh : u.remaining - 1 ≤ e.repeats := by omega
    exact ⟨hstaged, hpend, hactive, e, he, hlow, hhigh⟩

theorem frameSetup_scheduleInv {s : State} (h : ScheduleInv s) : ScheduleInv (frameSetup s) := by
  obtain ⟨-, -, hschedule, -⟩ := frameSetup_fields s
  unfold ScheduleInv
  rw [hschedule]
  exact steppedSchedule_ok (landedSchedule_ok h)

theorem ChangesOnly.scheduleInv {w : List Part} {s t : State} (h : ChangesOnly w s t) (hs : ScheduleInv s)
    (hschedule : w.contains .schedule = false := by rfl) : ScheduleInv t := by
  unfold ScheduleInv
  rw [show t.schedule = s.schedule from h.samePart .schedule hschedule]
  exact hs

theorem stageScheduleOwner_scheduleInv (r : Record) {s : State} (hs : ScheduleInv s) :
    ScheduleInv (stageScheduleOwner r s).1 := by
  unfold stageScheduleOwner
  dsimp only
  split
  · exact hs
  · exact ⟨scheduleSound_of_no_fault ‹_›, hs.2⟩

theorem commitOwner_scheduleInv (r : Record) {s : State} (hs : ScheduleInv s) : ScheduleInv (commitOwner r s).1 := by
  unfold commitOwner
  dsimp only
  split
  · exact hs
  · split
    · change ScheduleOk (if _ then _ else _)
      split
      · exact activateSchedule_ok hs hs.1
      · exact hs
    · change ScheduleOk (if _ then _ else _)
      split
      · exact ⟨hs.1, fun e he => Option.some.inj he ▸ hs.1, hs.2.2⟩
      · exact hs

theorem withdrawOwner_scheduleInv (r : Record) {s : State} (hs : ScheduleInv s) : ScheduleInv (withdrawOwner r s).1 := by
  unfold withdrawOwner
  split
  · exact hs
  · change ScheduleOk (if _ then _ else _)
    split
    · exact ⟨hs.1, nofun, hs.2.2⟩
    · exact hs

theorem startOwner_scheduleInv (r : Record) {s : State} (hs : ScheduleInv s) : ScheduleInv (startOwner r s).1 := by
  rcases startOwner_setup r s with he | ⟨-, mode, hbegun⟩
  · rw [he]
    exact hs
  · exact hbegun.scheduleInv (frameSetup_scheduleInv (s := startReady s mode) (restartPosition_ok hs))

theorem exec_scheduleInv {c : Instr} {s t : State} (hinv : Inv s) (h : exec c s = .next t) : ScheduleInv t := by
  have hs : ScheduleInv s := by
    obtain ⟨-, -, -, -, hs, -⟩ := hinv
    exact hs
  by_cases hreset : isReset c = true
  · exact (justReset_of_exec hinv hreset h).1.scheduleInv
  · have hreset : isReset c = false := Bool.eq_false_iff.2 hreset
    have hchanges := exec_changes hreset h
    cases c with
    | powerOnReset straps => cases hreset
    | reset => cases hreset
    | stageSchedule =>
      exact runImmediate_keeps (P := ScheduleInv) hs (fun r _ => stageScheduleOwner_scheduleInv r) (fun _ => id)
        (fun _ _ => id) h
    | commit =>
      exact runImmediate_keeps (P := ScheduleInv) hs (fun r _ => commitOwner_scheduleInv r) (fun _ => id)
        (fun _ _ => id) h
    | withdraw =>
      exact runImmediate_keeps (P := ScheduleInv) hs (fun r _ => withdrawOwner_scheduleInv r) (fun _ => id)
        (fun _ _ => id) h
    | start =>
      exact runImmediate_keeps (P := ScheduleInv) hs (fun r _ => startOwner_scheduleInv r) (fun _ => id)
        (fun _ _ => id) h
    | rowEnd =>
      rcases execRowEnd_setup h with hother | ⟨f, u, -, -, -, hu, rfl⟩
      · exact hother.scheduleInv hs
      · exact frameSetup_scheduleInv (hu.scheduleInv hs)
    | _ => exact hchanges.scheduleInv hs

end Sys2Proof.Laws
end

/-! ### The two frame slots over every command, and the commands that set a frame up -/

section
set_option Elab.async false
namespace Sys2Proof.Laws

open Sys2Proof Sys2Proof.Machine Sys2Proof.Safety

/-- No frame has come into the slots: the set-up frame is the one that was, or gone, and the current frame was in one
of the slots (R2, R10, R17). -/
def SlotsFrom (s t : State) : Prop :=
  (t.stream.setUp = none ∨ t.stream.setUp = s.stream.setUp) ∧
    ∀ f, t.stream.current = some f → s.stream.current = some f ∨ s.stream.setUp = some f

theorem slotsFrom_of_same {s t : State} (hsetUp : t.stream.setUp = s.stream.setUp)
    (hcurrent : t.stream.current = s.stream.current) : SlotsFrom s t :=
  ⟨.inr hsetUp, fun _ hf => .inl (hcurrent ▸ hf)⟩

theorem slotsFrom_of_none {s t : State} (hsetUp : t.stream.setUp = none) (hcurrent : t.stream.current = none) :
    SlotsFrom s t :=
  ⟨.inl hsetUp, fun _ hf => absurd (hcurrent.symm.trans hf) nofun⟩

theorem SlotsFrom.refl (s : State) : SlotsFrom s s := slotsFrom_of_same rfl rfl

theorem SlotsFrom.trans {s t u : State} (h : SlotsFrom s t) (h' : SlotsFrom t u) : SlotsFrom s u := by
  obtain ⟨hsetUp, hcurrent⟩ := h
  obtain ⟨hsetUp', hcurrent'⟩ := h'
  refine ⟨?_, fun f hf => ?_⟩
  · rcases hsetUp' with hnone | hsame
    · exact .inl hnone
    · rwa [hsame]
  · rcases hcurrent' f hf with hwas | hwas
    · exact hcurrent f hwas
    · rcases hsetUp with hnone | hsame
      · exact absurd (hnone.symm.trans hwas) nofun
      · exact .inr (hsame.symm.trans hwas)

/-- An operation that changes neither slot. -/
theorem ChangesOnly.slotsFrom {w : List Part} {s t : State} (h : ChangesOnly w s t)
    (hcurrent : w.contains .current = false := by rfl) (hsetUp : w.contains .setUp = false := by rfl) : SlotsFrom s t :=
  slotsFrom_of_same (h.samePart .setUp hsetUp) (h.samePart .current hcurrent)

/-- A fatal fault empties both slots (R18). -/
theorem HaltsAt.slotsFrom {w : List Part} {s t : State} (h : HaltsAt w s t) : SlotsFrom s t := by
  obtain ⟨u, cause, detail, -, -, rfl⟩ := h
  exact slotsFrom_of_none rfl rfl

/-! #### The stream controller's operations -/

theorem freeCurrent_slotsFrom (s : State) :
    SlotsFrom s { s with stream := { s.stream with current := none } } :=
  ⟨.inr rfl, nofun⟩

theorem cancelSetUp_slotsFrom (s : State) : SlotsFrom s (cancelSetUp s) := by
  rw [cancelSetUp_eq]
  exact ⟨.inl rfl, fun _ => .inl⟩

/-- The beginning of row 0 moves the set-up frame into the current slot (R10). -/
theorem beginRow0_slotsFrom (s : State) : SlotsFrom s (beginRow0 s) := by
  unfold beginRow0
  cases hslot : s.stream.setUp with
  | none => exact .refl s
  | some f =>
    have hbegun : SlotsFrom s { openFrame s f with stream := beginStream (openFrame s f).stream f } :=
      ⟨.inl rfl, fun _ hg => .inr (hslot.trans hg)⟩
    exact hbegun.trans (rowStrobe_changes _ 0 _).slotsFrom

theorem reportDropped_slotsFrom (s : State) (f : SlotFrame) : SlotsFrom s (reportDropped s f) := by
  rcases reportDropped_cases s f with h | h
  · exact h.slotsFrom
  · rw [h]
    exact slotsFrom_of_none rfl rfl

theorem frameEnd_slotsFrom (s : State) (f : SlotFrame) : SlotsFrom s (frameEnd s f) := by
  have hreleased : SlotsFrom s (reportDropped { s with stream := { s.stream with current := none } } f) :=
    (freeCurrent_slotsFrom s).trans (reportDropped_slotsFrom _ f)
  unfold frameEnd
  dsimp only
  generalize reportDropped { s with stream := { s.stream with current := none } } f = u at hreleased
  split
  · split
    · exact hreleased.trans (beginRow0_slotsFrom u)
    · exact hreleased.trans (setStreamState_changes u .waiting).slotsFrom
    · exact hreleased.trans (endRun_changes u).slotsFrom
    · exact hreleased
  · exact hreleased

theorem startRun_slotsFrom (s : State) (mode : StartMode) :
    SlotsFrom (frameSetup (startReady s mode)) (startRun s mode) := by
  cases mode with
  | free => exact beginRow0_slotsFrom (frameSetup (startReady s .free))
  | triggered => exact slotsFrom_of_same rfl rfl

theorem abortCurrent_slotsFrom (s : State) : SlotsFrom s (abortCurrent s) := by
  rcases abortCurrent_cases s with h | h
  · exact h.slotsFrom
  · rw [h]
    exact slotsFrom_of_none rfl rfl

theorem abortRun_slotsFrom (s : State) : SlotsFrom s (abortRun s) := by
  unfold abortRun
  split
  · exact .refl s
  · dsimp only
    have hended : SlotsFrom s (abortCurrent { completeStopEnd s with
        stream := { (completeStopEnd s).stream with frameMark := false }, row := none }) :=
      ((completeStopEnd_changes s).slotsFrom.trans (ceaseMark_changes _).slotsFrom).trans (abortCurrent_slotsFrom _)
    generalize abortCurrent { completeStopEnd s with
      stream := { (completeStopEnd s).stream with frameMark := false }, row := none } = u at hended
    split
    · exact ((hended.trans (freeCurrent_slotsFrom u)).trans (cancelSetUp_slotsFrom _)).trans
        (stopStream_changes _ _).slotsFrom
    · exact hended

theorem stopWaiting_slotsFrom (s : State) : SlotsFrom s (stopWaiting s) :=
  (cancelSetUp_slotsFrom s).trans (slotsFrom_of_same rfl rfl)

theorem beginDraining_slotsFrom (s : State) : SlotsFrom s (beginDraining s) :=
  (cancelSetUp_slotsFrom s).trans (slotsFrom_of_same rfl rfl)

theorem stopEndImmediateOwner_slotsFrom (r : Record) (s : State) : SlotsFrom s (stopEndImmediateOwner r s).1 := by
  unfold stopEndImmediateOwner
  split
  · exact (useFree_changes s).slotsFrom
  · split
    · exact (stopWaiting_slotsFrom s).trans (useFree_changes _).slotsFrom
    · exact (useFree_changes s).slotsFrom
    · exact (useFree_changes s).slotsFrom

/-! #### The commands that set no frame up -/

theorem OutsideStep.slotsFrom {s t : State} (h : OutsideStep s t) : SlotsFrom s t := by
  cases h with
  | same => exact .refl s
  | registers lo hi => exact slotsFrom_of_same rfl rfl
  | enabling hdev => exact (enableAction_changes s).slotsFrom
  | refused cause detail hdev hcause => exact slotsFrom_of_same rfl rfl
  | enabled b hdev hfault hholdoff => exact slotsFrom_of_same rfl rfl
  | initEnd hdev => exact slotsFrom_of_same rfl rfl
  | strobe hdev =>
    have hstrobe := strobeInstant_changes { s with stream := { s.stream with maintenance := some 0 } } false false
    exact slotsFrom_of_same (hstrobe.samePart .setUp) (hstrobe.samePart .current)
  | reply p w v c htaken => exact (reply_changes s p _ w v c).slotsFrom

theorem execStopEnd_slotsFrom {s t : State} (h : execStopEnd s = .next t) : SlotsFrom s t := by
  unfold execStopEnd at h
  split at h
  · rcases runLong_cases s (fun r => ofKind kindStop r && stopMannerEnd r) stopEndLongOwner with
      ⟨-, he⟩ | ⟨r, rest, -, -, -, he⟩ <;> obtain rfl := Host.Outcome.next.inj (he.symm.trans h)
    · exact .refl _
    · exact ((advanceHead_changes s rest).slotsFrom.trans (beginDraining_slotsFrom _)).trans
        (slotsFrom_of_same rfl rfl)
  · rcases runImmediate_cases s (fun r => ofKind kindStop r && !stopMannerAbort r) stopEndImmediateOwner with
      ⟨-, he⟩ | ⟨r, rest, -, -, -, he⟩ <;> obtain rfl := Host.Outcome.next.inj (he.symm.trans h)
    · exact .refl _
    · exact ((advanceHead_changes s rest).slotsFrom.trans (stopEndImmediateOwner_slotsFrom r _)).trans
        (slotsFrom_of_same rfl rfl)

theorem execStopAbort_slotsFrom {s t : State} (h : execStopAbort s = .next t) : SlotsFrom s t := by
  unfold execStopAbort at h
  split at h <;> obtain rfl := Host.Outcome.next.inj h
  · exact .refl _
  · rename_i r taken htaken
    obtain ⟨rest, -, -, -, rfl⟩ := (takeImmediate_eq_some_iff s _ r taken).1 htaken
    exact (slotsFrom_of_same rfl rfl).trans (abortRun_slotsFrom _)

theorem execTriggerEdge_slotsFrom {s t : State} (h : execTriggerEdge s = .next t) : SlotsFrom s t := by
  unfold execTriggerEdge at h
  split at h <;> obtain rfl := Host.Outcome.next.inj h
  · exact beginRow0_slotsFrom s
  · exact slotsFrom_of_same rfl rfl
  · exact .refl _

/-- No command but ROW_END and START brings a frame into the slots (R3, R13). -/
theorem exec_slotsFrom {c : Instr} {s t : State} (hinv : Inv s) (hreset : isReset c = false)
    (h : exec c s = .next t) (hrow : c ≠ .rowEnd) (hstart : c ≠ .start) : SlotsFrom s t := by
  by_cases hdev : s.window.device = .enabled
  · rcases exec_running hdev hreset h with hhalts | hruns
    · exact hhalts.slotsFrom
    · cases c with
      | powerOnReset straps => cases hreset
      | reset => cases hreset
      | rowEnd => exact absurd rfl hrow
      | start => exact absurd rfl hstart
      | stopEnd => exact execStopEnd_slotsFrom h
      | stopAbort => exact execStopAbort_slotsFrom h
      | triggerEdge => exact execTriggerEdge_slotsFrom h
      | _ => exact hruns.slotsFrom
  · exact ((outOfService_of_inv hinv hdev).outsideStep hreset h).slotsFrom

/-! #### The commands that set a frame up -/

/-- What may change before a frame setup in its command. -/
abbrev beforeSetupParts : List Part := [.requests, .schedule] ++ rowParts

/-- What may change after a frame setup in its command. -/
abbrev afterSetupParts : List Part := [.holding, .fetching] ++ beginParts

/-- A command has set a frame up in the empty set-up slot (R8). -/
def SetsUp (s t : State) : Prop :=
  s.stream.setUp = none ∧ ∃ u, ChangesOnly beforeSetupParts s u ∧ ChangesOnly afterSetupParts (frameSetup u) t ∧
    SlotsFrom (frameSetup u) t

/-- What a ROW_END or a START that sets no frame up may change. -/
abbrev noSetupParts : List Part := [.requests, .holding] ++ rowEndOtherParts

theorem execRowEnd_setsUp {s t : State} (hinv : Inv s) (h : execRowEnd s = .next t) :
    SetsUp s t ∨ ChangesOnly noSetupParts s t ∧ SlotsFrom s t := by
  rcases execRowEnd_forms h with (hrow | ⟨f, rfl⟩) | ⟨f, u, hdue, hsetup, hrun, hu, rfl⟩
  · exact .inr ⟨hrow.mono, hrow.slotsFrom⟩
  · exact .inr ⟨(frameEnd_changes s f).mono, frameEnd_slotsFrom s f⟩
  · obtain ⟨-, -, hcurrent, -⟩ := rowDue_eq_some.1 hdue
    obtain ⟨-, -, ⟨⟨-, -, hrows, -⟩, -⟩, -⟩ := hinv
    obtain ⟨-, -, -, hframe⟩ := hrows (.inl hrun)
    obtain ⟨-, -, hslot⟩ := hframe f hcurrent
    have hindex : s.stream.rowIndex + 1 + 4 = f.bound.frameRows := beq_iff_eq.1 hsetup
    have hempty : s.stream.setUp = none := by
      rw [← Option.not_isSome_iff_eq_none, hslot hrun]
      omega
    exact .inl ⟨hempty, u, hu.mono, .refl _ _, .refl _⟩

theorem startOwner_setsUp (r : Record) {s : State} (hempty : s.stream.state = .stopped → s.stream.setUp = none) :
    (startOwner r s).1 = useFree s ∨ s.stream.setUp = none ∧ ∃ mode,
      ChangesOnly (.fetching :: beginParts) (frameSetup (startReady s mode)) (startOwner r s).1 ∧
        SlotsFrom (frameSetup (startReady s mode)) (startOwner r s).1 := by
  refine (startOwner_forms r s).imp_right fun ⟨hstopped, mode, hruns⟩ => ⟨hempty hstopped, mode, ?_⟩
  rw [hruns]
  exact ⟨(startRun_begins s mode).then (useFree_changes _),
    (startRun_slotsFrom s mode).trans (useFree_changes _).slotsFrom⟩

theorem execStart_setsUp {s t : State} (hinv : Inv s) (h : execStart s = .next t) :
    SetsUp s t ∨ ChangesOnly noSetupParts s t ∧ SlotsFrom s t := by
  have hempty : s.stream.state = .stopped → s.stream.setUp = none := by
    obtain ⟨-, -, ⟨⟨hstopped, -⟩, -⟩, -⟩ := hinv
    exact fun hstate => (hstopped hstate).2.1
  rcases runImmediate_cases s (ofKind kindStart) startOwner with ⟨-, he⟩ | ⟨r, rest, -, -, -, he⟩ <;>
    obtain rfl := Host.Outcome.next.inj (he.symm.trans h)
  · exact .inr ⟨.refl _ _, .refl _⟩
  · have hhead := advanceHead_changes s rest
    have hplaced (u : State) (a : Answer) : ChangesOnly [.holding] u (answerImmediate r u a) :=
      (place_changes_of_no_tag u rfl).mono
    rcases startOwner_setsUp r (s := advanceHead s rest) hempty with hrefused | ⟨hnone, mode, hbegun, hslots⟩
    · have hrefusal : ChangesOnly [] (advanceHead s rest) (startOwner r (advanceHead s rest)).1 := by
        rw [hrefused]
        exact useFree_changes _
      have hall := (hhead.then (w'' := [.requests]) hrefusal).then (w'' := [.requests, .holding])
        (hplaced _ (startOwner r (advanceHead s rest)).2)
      exact .inr ⟨hall.mono, hall.slotsFrom⟩
    · exact .inl ⟨hnone, _, hhead.then (startReady_changes _ mode), hbegun.then (hplaced _ _),
        hslots.trans (hplaced _ _).slotsFrom⟩

end Sys2Proof.Laws
end

/-! ### The copies of the profiles over every command -/

section
set_option Elab.async false
namespace Sys2Proof.Laws

open Sys2Proof Sys2Proof.Machine Sys2Proof.Safety

/-- The three copies of a profile, for a machine with the fitted ports of s (R21, 2.5). -/
abbrev CopySound (s : State) (c : ProfileCopies) : Prop :=
  WithinLimits c.staged ∧ (∀ x ∈ c.pend, Sound s x) ∧ Sound s c.active

/-- The copies of every profile (R21, 2.5). -/
def CopiesSound (s : State) : Prop := ∀ p : Fin 4, CopySound s s.profiles[p]

theorem ChangesOnly.fitted {w : List Part} {s t : State} (h : ChangesOnly w s t)
    (hinputs : w.contains .inputs = false := by rfl) : fitted t = fitted s := by
  have hsame : (t.pending, t.stream.timeCounter, t.window.straps) =
      (s.pending, s.stream.timeCounter, s.window.straps) := h.samePart .inputs hinputs
  exact congrArg (fun x => x.2.2.toNat + 1) hsame

/-- What is sound depends on the fitted ports only (R47). -/
theorem sound_of_fitted {s t : State} (h : fitted t = fitted s) {p : Profile} (hp : Sound s p) : Sound t p := by
  unfold Sound
  rw [h]
  exact hp

theorem copiesSound_of_same {s t : State} (h : CopiesSound s) (hprofiles : t.profiles = s.profiles)
    (hfitted : fitted t = fitted s) : CopiesSound t := fun p => by
  obtain ⟨hstaged, hpend, hactive⟩ := h p
  rw [hprofiles]
  exact ⟨hstaged, fun x hx => sound_of_fitted hfitted (hpend x hx), sound_of_fitted hfitted hactive⟩

theorem ChangesOnly.copiesSound {w : List Part} {s t : State} (h : ChangesOnly w s t) (hs : CopiesSound s)
    (hprofiles : w.contains .profiles = false := by rfl) (hinputs : w.contains .inputs = false := by rfl) :
    CopiesSound t :=
  copiesSound_of_same hs (h.samePart .profiles hprofiles) (h.fitted hinputs)

/-! #### STAGE -/

theorem pairOk_of_no_fault {pairs : List (Nat × Nat)} {n : Nat} (h : pairFault n pairs = none) :
    ∀ x ∈ pairs, PairOk x := by
  induction pairs generalizing n with
  | nil => exact nofun
  | cons x pairs ih =>
    unfold pairFault at h
    split at h
    · rename_i hfield
      split at h
      · exact List.forall_mem_cons.2 ⟨(inRange_iff_pairOk x.2 hfield).1 ‹_›, ih h⟩
      · cases h
    · cases h

/-- A pair that passes its checks leaves a profile within its limits (R32). -/
theorem writeField_withinLimits {p : Profile} {x : Nat × Nat} (hx : PairOk x) (hp : WithinLimits p) :
    WithinLimits (writeField p x.1 x.2) := by
  obtain ⟨field, value⟩ := x
  obtain ⟨hperiod, hrows, hfirst, hlast, hstep, hmask⟩ := hp
  obtain ⟨hlow, hhigh⟩ := of_decide_eq_true (isProfileField_of_pairOk hx)
  interval_cases field <;> simp only [PairOk, fieldRange, Option.mem_some_iff, exists_eq_left'] at hx
  · exact ⟨hx, hrows, hfirst, hlast, hstep, hmask⟩
  · exact ⟨hperiod, hx, hfirst, hlast, hstep, hmask⟩
  · exact ⟨hperiod, hrows, hx.2, hlast, hstep, hmask⟩
  · exact ⟨hperiod, hrows, hfirst, hx.2, hstep, hmask⟩
  · exact ⟨hperiod, hrows, hfirst, hlast, hx, hmask⟩
  · have hne : BitVec.ofNat 16 value ≠ 0 := by
      intro hzero
      have hnat := congrArg BitVec.toNat hzero
      rw [BitVec.toNat_ofNat, Nat.mod_eq_of_lt (by omega)] at hnat
      exact absurd (hnat.symm ▸ hx.1) (by decide)
    exact ⟨hperiod, hrows, hfirst, hlast, hstep, hne⟩
  all_goals exact ⟨hperiod, hrows, hfirst, hlast, hstep, hmask⟩

theorem applyPairs_withinLimits {p : Profile} {pairs : List (Nat × Nat)} (h : ∀ x ∈ pairs, PairOk x)
    (hp : WithinLimits p) : WithinLimits (applyPairs p pairs) := by
  unfold applyPairs
  induction pairs generalizing p with
  | nil => exact hp
  | cons x pairs ih =>
    obtain ⟨hx, hpairs⟩ := List.forall_mem_cons.1 h
    exact ih hpairs (writeField_withinLimits hx hp)

theorem setCopies_copiesSound {s : State} {p : Fin 4} {c : ProfileCopies} (hs : CopiesSound s) (hc : CopySound s c) :
    CopiesSound (setCopies s p c) := fun q => by
  change CopySound s (s.profiles.set p c)[q]
  by_cases hq : q = p
  · subst hq
    rw [show (s.profiles.set q c)[q] = c from Vector.getElem_set_self q.isLt]
    exact hc
  · have hne : p.val ≠ q.val := fun he => hq (Fin.ext he.symm)
    rw [show (s.profiles.set p c)[q] = s.profiles[q] from Vector.getElem_set_ne p.isLt q.isLt hne]
    exact hs q

theorem stageOwner_copiesSound (r : Record) {s : State} (hs : CopiesSound s) : CopiesSound (stageOwner r s).1 := by
  unfold stageOwner
  dsimp only
  split
  · exact hs
  · rename_i hfault
    have hpairs : ∀ x ∈ stagePairs r (recordNat r 0x09 1), PairOk x := by
      unfold stageFault at hfault
      split at hfault
      · split at hfault
        · exact pairOk_of_no_fault hfault
        · cases hfault
      · cases hfault
    obtain ⟨hstaged, hpend, hactive⟩ := hs (Fin.ofNat 4 (recordNat r 0x08 1))
    exact setCopies_copiesSound hs ⟨applyPairs_withinLimits hpairs hstaged, hpend, hactive⟩

/-! #### COMMIT, WITHDRAW and the landings -/

/-- A change of the copies of the profiles in a set. -/
theorem mapSet_copiesSound {s : State} {set : BitVec 4} {f : ProfileCopies → ProfileCopies} (hs : CopiesSound s)
    (hf : ∀ p : Fin 4, inSet set p = true → CopySound s (f s.profiles[p])) (p : Fin 4) :
    CopySound s (mapSet s.profiles set f)[p] := by
  have hmap : (mapSet s.profiles set f)[p] = if inSet set p then f s.profiles[p] else s.profiles[p] :=
    Vector.getElem_ofFn p.isLt
  rw [hmap]
  split
  · exact hf p ‹_›
  · exact hs p

theorem withdrawOwner_copiesSound (r : Record) {s : State} (hs : CopiesSound s) :
    CopiesSound (withdrawOwner r s).1 := by
  unfold withdrawOwner
  split
  · exact hs
  · exact mapSet_copiesSound hs fun p _ => ⟨(hs p).1, nofun, (hs p).2.2⟩

theorem commitPasses_of_no_fault {s : State} {c : CommitOperands} (h : commitFault s c = none) : CommitPasses s c := by
  have hcommits : s.commits.length ≤ 4 := (commitFault_length h).le
  rwa [commitFault_eq_commitRefusal hcommits, commitRefusal_eq_none_iff hcommits] at h

theorem commitOwner_copiesSound (r : Record) {s : State} (hs : CopiesSound s) : CopiesSound (commitOwner r s).1 := by
  unfold commitOwner
  dsimp only
  split
  · exact hs
  · rename_i hfault
    obtain ⟨⟨-, -, -, hlist, -⟩, -, -, -, -, hchecked⟩ := commitPasses_of_no_fault hfault
    have hstaged (p : Fin 4) (hp : inSet (profileSetOf (commitOperands r).list) p = true) :
        Sound s s.profiles[p].staged := by
      have hcross := hchecked p.val (of_decide_eq_true ((inSet_profileSetOf hlist p).symm.trans hp))
      have hprofile : profileOf p.val = p := Fin.ext (Nat.mod_eq_of_lt p.isLt)
      have hcopy : s.profiles[profileOf p.val].staged = s.profiles[p].staged :=
        congrArg (fun q : Fin 4 => s.profiles[q].staged) hprofile
      rw [hcopy] at hcross
      exact ⟨(hs p).1, hcross⟩
    split
    · exact mapSet_copiesSound hs fun p hp => ⟨(hs p).1, (hs p).2.1, hstaged p hp⟩
    · exact mapSet_copiesSound hs fun p hp =>
        ⟨(hs p).1, fun x hx => Option.some.inj hx ▸ hstaged p hp, (hs p).2.2⟩

/-- The landings of a setup leave the copies sound (R25, R50). -/
theorem landedCopies_sound {s : State} (hs : CopiesSound s) (p : Fin 4) : CopySound s (landedCopies s p) := by
  obtain ⟨hstaged, hpend, hactive⟩ := hs p
  unfold landedCopies
  split
  · refine ⟨hstaged, nofun, ?_⟩
    dsimp only
    cases hcopy : s.profiles[p].pend with
    | none => exact hactive
    | some x => exact hpend x hcopy
  · exact ⟨hstaged, hpend, hactive⟩

theorem frameSetup_copiesSound {s : State} (hs : CopiesSound s) : CopiesSound (frameSetup s) := fun p => by
  obtain ⟨hprofiles, -⟩ := frameSetup_fields s
  have hcopy : (frameSetup s).profiles[p] = landedCopies s p := by
    rw [hprofiles]
    exact Vector.getElem_ofFn p.isLt
  obtain ⟨hstaged, hpend, hactive⟩ := landedCopies_sound hs p
  have hfitted : fitted (frameSetup s) = fitted s := (frameSetup_changes s).fitted
  rw [hcopy]
  exact ⟨hstaged, fun x hx => sound_of_fitted hfitted (hpend x hx), sound_of_fitted hfitted hactive⟩

theorem SetsUp.copiesSound {s t : State} (h : SetsUp s t) (hs : CopiesSound s) : CopiesSound t := by
  obtain ⟨-, u, hu, ht, -⟩ := h
  exact ht.copiesSound (frameSetup_copiesSound (hu.copiesSound hs))

theorem exec_copiesSound {c : Instr} {s t : State} (hinv : Inv s) (hreset : isReset c = false)
    (h : exec c s = .next t) : CopiesSound t := by
  have hs : CopiesSound s := by
    obtain ⟨-, ⟨hcopies, -⟩, -⟩ := hinv
    exact hcopies
  have hchanges := exec_changes hreset h
  cases c with
  | powerOnReset straps => cases hreset
  | reset => cases hreset
  | stage =>
    exact runImmediate_keeps (P := CopiesSound) hs (fun r _ => stageOwner_copiesSound r) (fun _ => id)
      (fun _ _ => id) h
  | commit =>
    exact runImmediate_keeps (P := CopiesSound) hs (fun r _ => commitOwner_copiesSound r) (fun _ => id)
      (fun _ _ => id) h
  | withdraw =>
    exact runImmediate_keeps (P := CopiesSound) hs (fun r _ => withdrawOwner_copiesSound r) (fun _ => id)
      (fun _ _ => id) h
  | start =>
    rcases execStart_setsUp hinv h with hsetup | ⟨hother, -⟩
    · exact hsetup.copiesSound hs
    · exact hother.copiesSound hs
  | rowEnd =>
    rcases execRowEnd_setsUp hinv h with hsetup | ⟨hother, -⟩
    · exact hsetup.copiesSound hs
    · exact hother.copiesSound hs
  | _ => exact hchanges.copiesSound hs

end Sys2Proof.Laws
end

/-! ### The bound copies of the frames over every command -/

section
set_option Elab.async false
namespace Sys2Proof.Laws

open Sys2Proof Sys2Proof.Machine Sys2Proof.Safety

theorem mem_slotFrames (s : State) (f : SlotFrame) : f ∈ slotFrames s ↔
    s.stream.current = some f ∨ s.stream.setUp = some f ∨ ∃ r, s.row = some r ∧ r.frame = some f := by
  unfold slotFrames
  rw [List.mem_append, List.mem_append, Option.mem_toList, Option.mem_toList, or_assoc]
  refine or_congr Iff.rfl (or_congr Iff.rfl ?_)
  cases s.row <;> simp

/-- The row in progress is of a frame that it was of before, or of the current frame (R82). -/
def RowFrameFrom (s t : State) : Prop :=
  ∀ r, t.row = some r → r.frame = t.stream.current ∨ ∃ x, s.row = some x ∧ r.frame = x.frame

theorem RowFrom.rowFrameFrom {s t : State} (h : RowFrom s t) : RowFrameFrom s t := fun r hr => by
  rcases h with ⟨-, hkept⟩ | ⟨-, hstruck⟩
  · obtain ⟨x, hx, hframe, -⟩ := hkept r hr
    exact .inr ⟨x, hx, hframe⟩
  · exact .inl (hstruck r hr).1

theorem exec_rowFrameFrom {c : Instr} {s t : State} (hinv : Inv s) (hreset : isReset c = false)
    (h : exec c s = .next t) : RowFrameFrom s t := by
  by_cases hdev : s.window.device = .enabled
  · rcases exec_running hdev hreset h with hhalts | hruns
    · exact hhalts.rowFrom.rowFrameFrom
    · by_cases hc : c = .setChannel
      · subst hc
        exact fun r hr => .inr ⟨r, (show t.row = s.row from hruns.samePart .row).symm.trans hr, rfl⟩
      · exact (exec_rowFrom hc h hruns).rowFrameFrom
  · exact ((outOfService_of_inv hinv hdev).outsideStep hreset h).rowFrom.rowFrameFrom

/-- The bound copies of the frames in the slots and in the row (2.5). -/
def FramesSound (s : State) : Prop := ∀ f ∈ slotFrames s, Sound s f.bound

/-- The frames in the slots of t, and so the one of the row, have sound copies (2.5). -/
theorem framesSound_of_slots {s t : State} (hs : FramesSound s) (hfitted : fitted t = fitted s)
    (hsetUp : ∀ f, t.stream.setUp = some f → Sound s f.bound)
    (hcurrent : ∀ f, t.stream.current = some f → Sound s f.bound) (hrow : RowFrameFrom s t) : FramesSound t := by
  intro f hf
  refine sound_of_fitted hfitted ?_
  rcases (mem_slotFrames t f).1 hf with hslot | hslot | ⟨r, hr, hframe⟩
  · exact hcurrent f hslot
  · exact hsetUp f hslot
  · rcases hrow r hr with hnow | ⟨x, hx, hwas⟩
    · exact hcurrent f (hnow.symm.trans hframe)
    · exact hs f ((mem_slotFrames s f).2 (.inr (.inr ⟨x, hx, hwas.symm.trans hframe⟩)))

theorem SlotsFrom.sound {s t : State} (h : SlotsFrom s t) (hsetUp : ∀ f, s.stream.setUp = some f → Sound s f.bound)
    (hcurrent : ∀ f, s.stream.current = some f → Sound s f.bound) :
    (∀ f, t.stream.setUp = some f → Sound s f.bound) ∧ ∀ f, t.stream.current = some f → Sound s f.bound := by
  obtain ⟨hfrom, hmoved⟩ := h
  refine ⟨fun f hf => ?_, fun f hf => (hmoved f hf).elim (hcurrent f) (hsetUp f)⟩
  rcases hfrom with hnone | hsame
  · exact absurd (hnone.symm.trans hf) nofun
  · exact hsetUp f (hsame.symm.trans hf)

/-- The frame that a setup makes has a sound copy (R67, R134). -/
theorem frameOf_sound {s : State} (hs : CopiesSound s) (u : ScheduleUnit) : Sound s (frameOf s u).bound := by
  obtain ⟨-, ⟨p, hbound⟩, -⟩ := frameOf_made s u
  rw [hbound]
  exact (landedCopies_sound hs p).2.2

theorem SetsUp.slots_sound {s t : State} (h : SetsUp s t) (hs : CopiesSound s)
    (hcurrent : ∀ f, s.stream.current = some f → Sound s f.bound) :
    (∀ f, t.stream.setUp = some f → Sound s f.bound) ∧ ∀ f, t.stream.current = some f → Sound s f.bound := by
  obtain ⟨-, u, hu, -, hslots⟩ := h
  have hmade : Sound u (frameOf u u.schedule).bound := frameOf_sound (hu.copiesSound hs) u.schedule
  have hfitted : fitted (frameSetup u) = fitted s := (frameSetup_changes u).fitted.trans hu.fitted
  have hback {f : SlotFrame} (hf : Sound (frameSetup u) f.bound) : Sound s f.bound := sound_of_fitted hfitted.symm hf
  obtain ⟨-, -, -, -, hsetUp, -⟩ := frameSetup_fields u
  have hkept : (frameSetup u).stream.current = s.stream.current :=
    Eq.trans ((frameSetup_changes u).samePart .current) (hu.samePart .current)
  have hslot (f : SlotFrame) (hf : (frameSetup u).stream.setUp = some f) : Sound (frameSetup u) f.bound := by
    obtain rfl := Option.some.inj (hsetUp.symm.trans hf)
    exact sound_of_fitted (frameSetup_changes u).fitted hmade
  have hcur (f : SlotFrame) (hf : (frameSetup u).stream.current = some f) : Sound (frameSetup u) f.bound :=
    sound_of_fitted hfitted (hcurrent f (hkept.symm.trans hf))
  obtain ⟨hsetUp', hcurrent'⟩ := hslots.sound hslot hcur
  exact ⟨fun f hf => hback (hsetUp' f hf), fun f hf => hback (hcurrent' f hf)⟩

theorem exec_slots_sound {c : Instr} {s t : State} (hinv : Inv s) (hreset : isReset c = false)
    (h : exec c s = .next t) :
    (∀ f, t.stream.setUp = some f → Sound s f.bound) ∧ ∀ f, t.stream.current = some f → Sound s f.bound := by
  obtain ⟨hcopies, hframes, -⟩ : ProfileInv s := by
    obtain ⟨-, hprofiles, -⟩ := hinv
    exact hprofiles
  have hsetUp (f : SlotFrame) (hf : s.stream.setUp = some f) : Sound s f.bound :=
    hframes f ((mem_slotFrames s f).2 (.inr (.inl hf)))
  have hcurrent (f : SlotFrame) (hf : s.stream.current = some f) : Sound s f.bound :=
    hframes f ((mem_slotFrames s f).2 (.inl hf))
  by_cases hrow : c = .rowEnd
  · subst hrow
    rcases execRowEnd_setsUp hinv h with hmade | ⟨-, hslots⟩
    · exact hmade.slots_sound hcopies hcurrent
    · exact hslots.sound hsetUp hcurrent
  · by_cases hstart : c = .start
    · subst hstart
      rcases execStart_setsUp hinv h with hmade | ⟨-, hslots⟩
      · exact hmade.slots_sound hcopies hcurrent
      · exact hslots.sound hsetUp hcurrent
    · exact (exec_slotsFrom hinv hreset h hrow hstart).sound hsetUp hcurrent

/-! #### The frame record table -/

/-- Every record's bound copy is sound (2.5). -/
def RecordsSound (s : State) : Prop := ∀ r ∈ s.records, Sound s r.bound

theorem recordsSound_of_keys {s t : State} (hs : RecordsSound s) (hkeys : SamePart .recordKeys s t)
    (hfitted : fitted t = fitted s) : RecordsSound t := by
  intro r hr
  have hmem : recordKey r ∈ t.records.map recordKey := List.mem_map_of_mem hr
  rw [show t.records.map recordKey = s.records.map recordKey from hkeys] at hmem
  obtain ⟨x, hx, hkey⟩ := List.mem_map.1 hmem
  have hbound : x.bound = r.bound := congrArg (fun k => k.2.1) hkey
  exact sound_of_fitted hfitted (hbound ▸ hs x hx)

theorem ChangesOnly.recordsSound {w : List Part} {s t : State} (h : ChangesOnly w s t) (hs : RecordsSound s)
    (hkeys : w.contains .recordKeys = false := by rfl) (hinputs : w.contains .inputs = false := by rfl) :
    RecordsSound t :=
  recordsSound_of_keys hs (h.samePart .recordKeys hkeys) (h.fitted hinputs)

theorem frameSetup_recordsSound {s : State} (hcopies : CopiesSound s) (hs : RecordsSound s) :
    RecordsSound (frameSetup s) := by
  obtain ⟨-, -, -, -, -, hrecords⟩ := frameSetup_fields s
  intro r hr
  refine sound_of_fitted (frameSetup_changes s).fitted ?_
  rw [hrecords] at hr
  rcases List.mem_append.1 hr with hold | hmade
  · exact hs r hold
  · rw [(recordsMade_made s s.schedule).2 r hmade]
    exact frameOf_sound hcopies s.schedule

theorem SetsUp.recordsSound {s t : State} (h : SetsUp s t) (hcopies : CopiesSound s) (hs : RecordsSound s) :
    RecordsSound t := by
  obtain ⟨-, u, hu, ht, -⟩ := h
  exact ht.recordsSound (frameSetup_recordsSound (hu.copiesSound hcopies) (hu.recordsSound hs))

theorem exec_recordsSound {c : Instr} {s t : State} (hinv : Inv s) (hreset : isReset c = false)
    (h : exec c s = .next t) : RecordsSound t := by
  obtain ⟨hcopies, -, hs⟩ : ProfileInv s := by
    obtain ⟨-, hprofiles, -⟩ := hinv
    exact hprofiles
  have hchanges := exec_changes hreset h
  cases c with
  | powerOnReset straps => cases hreset
  | reset => cases hreset
  | start =>
    rcases execStart_setsUp hinv h with hmade | ⟨hother, -⟩
    · exact hmade.recordsSound hcopies hs
    · exact hother.recordsSound hs
  | rowEnd =>
    rcases execRowEnd_setsUp hinv h with hmade | ⟨hother, -⟩
    · exact hmade.recordsSound hcopies hs
    · exact hother.recordsSound hs
  | frameReportGrant =>
    change execFrameReportGrant s = _ at h
    unfold execFrameReportGrant at h
    split at h <;> obtain rfl := Host.Outcome.next.inj h
    · exact fun r hr => hs r (List.mem_of_mem_filter hr)
    · exact hs
  | _ => exact hchanges.recordsSound hs

theorem exec_profileInv {c : Instr} {s t : State} (hinv : Inv s) (h : exec c s = .next t) : ProfileInv t := by
  by_cases hreset : isReset c = true
  · exact (justReset_of_exec hinv hreset h).1.profileInv
  · have hreset : isReset c = false := Bool.eq_false_iff.2 hreset
    have hframes : FramesSound s := by
      obtain ⟨-, ⟨-, hframes, -⟩, -⟩ := hinv
      exact hframes
    have hfitted : fitted t = fitted s := (exec_changes hreset h).fitted (commandParts_inputs c)
    obtain ⟨hsetUp, hcurrent⟩ := exec_slots_sound hinv hreset h
    exact ⟨exec_copiesSound hinv hreset h,
      framesSound_of_slots hframes hfitted hsetUp hcurrent (exec_rowFrameFrom hinv hreset h),
      exec_recordsSound hinv hreset h⟩

end Sys2Proof.Laws
end

/-! ### The commit list under its own requests and the cancellation of a set-up frame -/

section
set_option Elab.async false
namespace Sys2Proof.Laws

open Sys2Proof Sys2Proof.Machine Sys2Proof.Safety

/-- The rules on a list of groups, but for the counts of PENDING groups (R39 to R41, R44, R46). -/
abbrev GroupsOk (s : State) (groups : List CommitGroup) : Prop :=
  (groups.map CommitGroup.tag).Nodup ∧
    (∀ g ∈ groups, (g.profileSet ≠ 0 ∨ g.scheduleFlag = true) ∧ (g.state = .pending → g.landedFrame = none) ∧
      (g.state = .landedUnreported → g.landedFrame = some g.landingFrame)) ∧
    groups.Pairwise (InLandingOrder s) ∧
    ∀ g ∈ groups, g.state = .pending → distance s g + (if s.stream.setUp.isSome then 1 else 0) ≤ 2147483648

/-- The number of PENDING groups of a list that touch something. -/
abbrev pendingCount (groups : List CommitGroup) (touches : CommitGroup → Bool) : Nat :=
  groups.countP fun g => g.state == .pending && touches g

/-- One PENDING group for each pending copy (R23, R41). -/
abbrev CountsOk (s : State) : Prop :=
  (∀ p : Fin 4, pendingNaming s p = if s.profiles[p].pend.isSome then 1 else 0) ∧
    pendingCarrying s = if s.schedule.pend.isSome then 1 else 0

theorem commitInv_iff (s : State) : CommitInv s ↔ GroupsOk s s.commits ∧ CountsOk s := by
  unfold CommitInv GroupsOk CountsOk
  simp only [and_assoc]

/-- A list without some of its groups keeps the rules. -/
theorem GroupsOk.sublist {s : State} {groups fewer : List CommitGroup} (h : GroupsOk s groups)
    (hsub : fewer.Sublist groups) : GroupsOk s fewer := by
  obtain ⟨htags, hshape, horder, hnear⟩ := h
  exact ⟨(hsub.map _).nodup htags, fun g hg => hshape g (hsub.subset hg), horder.sublist hsub,
    fun g hg => hnear g (hsub.subset hg)⟩

/-! #### Operations that leave the list and the pending copies -/

/-- What the count of PENDING groups regards is the same. -/
theorem countsOk_of_same {s t : State} (h : CountsOk s) (hcommits : t.commits = s.commits)
    (hpend : SamePart .pend s t) : CountsOk t := by
  obtain ⟨hnaming, hcarrying⟩ := h
  obtain ⟨hcopies, hschedule⟩ := Prod.mk.inj hpend
  refine ⟨fun p => ?_, ?_⟩
  · have hcopy : t.profiles[p].pend = s.profiles[p].pend := congrFun hcopies p
    unfold pendingNaming
    rw [hcommits, hcopy]
    exact hnaming p
  · unfold pendingCarrying
    rw [hcommits, hschedule]
    exact hcarrying

/-- The bound on the distances is weaker with no frame set up (R57). -/
theorem groupsOk_of_next {s t : State} {groups : List CommitGroup} (h : GroupsOk s groups)
    (hnext : t.stream.next = s.stream.next)
    (hsetUp : t.stream.setUp = none ∨ t.stream.setUp = s.stream.setUp) : GroupsOk t groups := by
  obtain ⟨htags, hshape, horder, hnear⟩ := h
  have hdistance (g : CommitGroup) : distance t g = distance s g := by rw [distance, hnext]
  refine ⟨htags, hshape, horder.imp fun hgh => ?_, fun g hg hpending => ?_⟩
  · unfold InLandingOrder
    rw [hdistance, hdistance]
    exact hgh
  · have hbound := hnear g hg hpending
    rw [hdistance]
    rcases hsetUp with hnone | hsame
    · rw [hnone]
      exact (Nat.le_add_right _ _).trans hbound
    · rwa [hsame]

theorem commitInv_of_same {s t : State} (h : CommitInv s) (hcommits : t.commits = s.commits)
    (hnext : t.stream.next = s.stream.next) (hpend : SamePart .pend s t)
    (hsetUp : t.stream.setUp = none ∨ t.stream.setUp = s.stream.setUp) : CommitInv t := by
  obtain ⟨hgroups, hcounts⟩ := (commitInv_iff s).1 h
  refine (commitInv_iff t).2 ⟨?_, countsOk_of_same hcounts hcommits hpend⟩
  rw [hcommits]
  exact groupsOk_of_next hgroups hnext hsetUp

theorem ChangesOnly.commitInv {w : List Part} {s t : State} (h : ChangesOnly w s t) (hs : CommitInv s)
    (hslots : SlotsFrom s t) (hcommits : w.contains .commits = false := by rfl)
    (hnext : w.contains .next = false := by rfl) (hpend : w.contains .pend = false := by rfl) : CommitInv t :=
  commitInv_of_same hs (h.samePart .commits hcommits) (h.samePart .next hnext) (h.samePart .pend hpend) hslots.1

theorem HaltsAt.commitInv {w : List Part} {s t : State} (h : HaltsAt w s t) (hs : CommitInv s)
    (hcommits : w.contains .commits = false := by rfl) (hnext : w.contains .next = false := by rfl)
    (hpend : w.contains .pend = false := by rfl) : CommitInv t := by
  obtain ⟨u, cause, detail, -, hu, rfl⟩ := h
  exact commitInv_of_same hs (hu.samePart .commits hcommits) (hu.samePart .next hnext) (hu.samePart .pend hpend)
    (.inl rfl)

/-! #### The cancellation of a set-up frame -/

/-- With the next number one less, a landing frame is one further, for it is not a whole turn away (R7, R57). -/
theorem distance_step_back {landing frame : Word} (h : (landing - (frame + 1#32)).toNat + 1 ≤ 2147483648) :
    (landing - frame).toNat = (landing - (frame + 1#32)).toNat + 1 := by
  bv_omega

/-- The cancellation of the set-up frame sets the next number back to it (R17, R57). -/
theorem cancelSetUp_commitInv {s : State} (h : CommitInv s)
    (hseq : ∀ f, s.stream.setUp = some f → s.stream.next = f.sequence + 1#32) : CommitInv (cancelSetUp s) := by
  obtain ⟨⟨htags, hshape, horder, hnear⟩, hcounts⟩ := (commitInv_iff s).1 h
  rw [cancelSetUp_eq]
  cases hslot : s.stream.setUp with
  | none => exact commitInv_of_same h rfl (by simp [cancelledStream, hslot]) rfl (.inl rfl)
  | some f =>
    have hdistance (g : CommitGroup) (hg : g ∈ s.commits) (hpending : g.state = .pending) :
        distance { s with stream := cancelledStream s.stream, records := recordsAfterCancel s } g =
          distance s g + 1 := by
      have hbound := hnear g hg hpending
      rw [hslot] at hbound
      unfold distance at hbound ⊢
      rw [hseq f hslot] at hbound ⊢
      simpa [cancelledStream, hslot] using distance_step_back hbound
    refine (commitInv_iff _).2 ⟨⟨htags, hshape, ?_, fun g hg hpending => ?_⟩, hcounts⟩
    · refine horder.imp_of_mem fun {g x} hg hx hgx hpending => ?_
      obtain ⟨hpending', hle⟩ := hgx hpending
      rw [hdistance g hg hpending, hdistance x hx hpending']
      exact ⟨hpending', Nat.add_le_add_right hle 1⟩
    · rw [hdistance g hg hpending]
      have hbound := hnear g hg hpending
      rw [hslot] at hbound
      exact hbound

/-! #### WITHDRAW and the report of a landing -/

/-- The count of PENDING groups without a listed group. -/
theorem pendingCount_erase {groups : List CommitGroup} {g : CommitGroup} (hg : g ∈ groups)
    (touches : CommitGroup → Bool) : pendingCount (groups.erase g) touches =
      pendingCount groups touches - if g.state = .pending ∧ touches g = true then 1 else 0 := by
  unfold pendingCount
  rw [List.countP_erase]
  simp [hg]

/-- The one PENDING group that touches a thing, or none, gives up what is pending of it (R24, R54). -/
theorem pendingCount_withdrawn {groups : List CommitGroup} {g : CommitGroup} (hg : g ∈ groups)
    (hpending : g.state = .pending) {touches : CommitGroup → Bool} {α : Type} {pend : Option α}
    (h : pendingCount groups touches = if pend.isSome then 1 else 0) :
    pendingCount (groups.erase g) touches = if (if touches g then none else pend).isSome then 1 else 0 := by
  rw [pendingCount_erase hg, h]
  cases touches g with
  | false => simp
  | true =>
    simp only [hpending, and_self, if_true, Option.isSome_none, Bool.false_eq_true, if_false]
    split <;> rfl

theorem withdrawOwner_commitInv (r : Record) {s : State} (h : CommitInv s) : CommitInv (withdrawOwner r s).1 := by
  unfold withdrawOwner
  split
  · exact h
  · rename_i g hfind
    have hg : g ∈ s.commits := List.mem_of_find?_eq_some hfind
    have hpending : g.state = .pending := by
      have hfound := List.find?_some hfind
      exact beq_iff_eq.1 (Bool.and_eq_true_iff.1 hfound).1
    obtain ⟨hgroups, hnaming, hcarrying⟩ := (commitInv_iff s).1 h
    have hfewer : GroupsOk s (s.commits.erase g) := GroupsOk.sublist hgroups List.erase_sublist
    refine (commitInv_iff _).2 ⟨hfewer, fun p => ?_, ?_⟩
    · have hcopy : (mapSet s.profiles g.profileSet discardCopy)[p].pend =
          if g.profileSet.getLsbD p.val then none else s.profiles[p].pend := by
        have hmap : (mapSet s.profiles g.profileSet discardCopy)[p] =
            if inSet g.profileSet p then discardCopy s.profiles[p] else s.profiles[p] := Vector.getElem_ofFn p.isLt
        rw [hmap]
        exact apply_ite ProfileCopies.pend _ _ _
      change pendingCount (s.commits.erase g) _ =
        if (mapSet s.profiles g.profileSet discardCopy)[p].pend.isSome then 1 else 0
      rw [hcopy]
      exact pendingCount_withdrawn hg hpending (hnaming p)
    · have hpend : (if g.scheduleFlag then { s.schedule with pend := none } else s.schedule).pend =
          if g.scheduleFlag then none else s.schedule.pend := apply_ite ScheduleUnit.pend _ _ _
      change pendingCount (s.commits.erase g) _ = if
        (if g.scheduleFlag then { s.schedule with pend := none } else s.schedule).pend.isSome then 1 else 0
      rw [hpend]
      exact pendingCount_withdrawn hg hpending hcarrying

/-- The report of a landing takes a LANDED_UNREPORTED group off the list (R52). -/
theorem execCommitLanded_commitInv {s t : State} (hs : CommitInv s) (h : execCommitLanded s = .next t) :
    CommitInv t := by
  rcases execCommitLanded_commits h with rfl | ⟨g, c, hwaits, rfl⟩
  · exact hs
  · have hg : g ∈ s.commits := List.mem_of_find?_eq_some hwaits
    have hlanded : ¬ (g.state = .pending) := by
      have hfound := List.find?_some (p := fun g : CommitGroup => g.state == .landedUnreported) hwaits
      rw [beq_iff_eq.1 hfound]
      nofun
    obtain ⟨hgroups, hnaming, hcarrying⟩ := (commitInv_iff s).1 hs
    have hsame (touches : CommitGroup → Bool) :
        pendingCount (s.commits.erase g) touches = pendingCount s.commits touches := by
      rw [pendingCount_erase hg, if_neg fun hboth => hlanded hboth.1]
      rfl
    have hfewer : GroupsOk s (s.commits.erase g) := GroupsOk.sublist hgroups List.erase_sublist
    exact (commitInv_iff _).2 ⟨hfewer, fun p => (hsame _).trans (hnaming p), (hsame _).trans hcarrying⟩

end Sys2Proof.Laws
end

/-! ### The commit list at a COMMIT and at frame setup -/

section
set_option Elab.async false
namespace Sys2Proof.Laws

open Sys2Proof Sys2Proof.Machine Sys2Proof.Safety

/-! #### COMMIT -/

theorem insertGroup_perm (next : Word) (g : CommitGroup) (l : List CommitGroup) :
    (insertGroup next g l).Perm (g :: l) := by
  induction l with
  | nil => exact .refl _
  | cons x l ih =>
    unfold insertGroup
    split
    · exact .refl _
    · exact (ih.cons x).trans (.swap g x l)

/-- A PENDING group stands in landing order where it is inserted (R40). -/
theorem insertGroup_inOrder {s : State} {g : CommitGroup} {l : List CommitGroup}
    (hl : l.Pairwise (InLandingOrder s)) (hg : g.state = .pending) :
    (insertGroup s.stream.next g l).Pairwise (InLandingOrder s) := by
  rw [insertGroup_eq g hl, List.pairwise_append, List.pairwise_append]
  refine ⟨⟨hl.sublist List.filter_sublist, List.pairwise_singleton _ _, fun x hx y hy hpending => ?_⟩,
    hl.sublist List.filter_sublist, fun x hx y hy hpending => ?_⟩
  · obtain rfl := List.mem_singleton.1 hy
    have hnot : ¬ (x.state = .pending ∧ distance s y < distance s x) := by
      simpa only [Bool.not_eq_true', decide_eq_false_iff_not] using (List.mem_filter.1 hx).2
    exact ⟨hg, Nat.not_lt.1 fun hlt => hnot ⟨hpending, hlt⟩⟩
  · obtain ⟨hpending', hfurther⟩ : y.state = .pending ∧ distance s g < distance s y :=
      of_decide_eq_true (List.mem_filter.1 hy).2
    refine ⟨hpending', ?_⟩
    rcases List.mem_append.1 hx with hbefore | hself
    · have hnot : ¬ (x.state = .pending ∧ distance s g < distance s x) := by
        simpa only [Bool.not_eq_true', decide_eq_false_iff_not] using (List.mem_filter.1 hbefore).2
      have hle : distance s x ≤ distance s g := Nat.not_lt.1 fun hlt => hnot ⟨hpending, hlt⟩
      exact hle.trans hfurther.le
    · obtain rfl := List.mem_singleton.1 hself
      exact hfurther.le

/-- A new PENDING group of a new tag, near enough, joins the list (R40, R44, R46). -/
theorem GroupsOk.insert {s : State} {g : CommitGroup} (h : GroupsOk s s.commits) (htag : ∀ x ∈ s.commits, x.tag ≠ g.tag)
    (htouches : g.profileSet ≠ 0 ∨ g.scheduleFlag = true) (hstate : g.state = .pending) (hlanded : g.landedFrame = none)
    (hnear : distance s g < 2147483648) : GroupsOk s (insertGroup s.stream.next g s.commits) := by
  obtain ⟨htags, hshape, horder, hbound⟩ := h
  have hperm := insertGroup_perm s.stream.next g s.commits
  refine ⟨?_, fun x hx => ?_, insertGroup_inOrder horder hstate, fun x hx hpending => ?_⟩
  · refine (hperm.map CommitGroup.tag).nodup_iff.2 (List.nodup_cons.2 ⟨fun hmem => ?_, htags⟩)
    obtain ⟨x, hx, hsame⟩ := List.mem_map.1 hmem
    exact htag x hx hsame
  · rcases List.mem_cons.1 (hperm.mem_iff.1 hx) with rfl | hold
    · exact ⟨htouches, fun _ => hlanded, fun hlanding => absurd (hstate.symm.trans hlanding) nofun⟩
    · exact hshape x hold
  · rcases List.mem_cons.1 (hperm.mem_iff.1 hx) with rfl | hold
    · split <;> omega
    · exact hbound x hold hpending

/-- The count of PENDING groups that touch a thing of which nothing is pending, or which the new group leaves (R45). -/
theorem pendingCount_insert {s : State} {g : CommitGroup} (hstate : g.state = .pending)
    {touches : CommitGroup → Bool} {α : Type} {pend : Option α} (staged : α)
    (h : pendingCount s.commits touches = if pend.isSome then 1 else 0) (hnone : touches g = true → pend = none) :
    pendingCount (insertGroup s.stream.next g s.commits) touches =
      if (if touches g then some staged else pend).isSome then 1 else 0 := by
  unfold pendingCount at h ⊢
  rw [(insertGroup_perm s.stream.next g s.commits).countP_eq, List.countP_cons, h]
  cases htouches : touches g with
  | false => simp
  | true => simp [hstate, hnone htouches]

/-- A COMMIT that passes its checks names a profile or carries the schedule (R43). -/
theorem commitTouches {s : State} {r : Record} (h : CommitPasses s (commitOperands r)) :
    profileSetOf (commitOperands r).list ≠ 0 ∨ ((commitOperands r).flag == 1) = true := by
  obtain ⟨⟨-, -, -, hlist, -, htouches⟩, -⟩ := h
  rcases htouches with hcount | hflag
  · refine .inl fun hzero => ?_
    have hmem : recordNat r 0x10 1 ∈ (commitOperands r).list := by
      refine List.mem_map.2 ⟨0, List.mem_range.2 ?_, rfl⟩
      change 1 ≤ recordNat r 0x08 1 at hcount
      omega
    have hin := inSet_profileSetOf hlist ⟨recordNat r 0x10 1, hlist _ hmem⟩
    rw [hzero, decide_eq_true hmem] at hin
    simp [inSet] at hin
  · exact .inr (beq_iff_eq.2 hflag)

/-- The landing frame of a COMMIT that passes its checks is less than half a turn ahead (R46). -/
theorem commit_near {s : State} {c : CommitOperands} (h : CommitPasses s c) :
    (landingFrame s c - s.stream.next).toNat < 2147483648 := by
  obtain ⟨⟨-, hmode, -⟩, -, -, -, hlate, -⟩ := h
  unfold landingFrame
  split
  · rw [BitVec.sub_self]
    decide
  · exact hlate (by omega)

theorem acceptCommit_commitInv {s : State} {r : Record} (h : CommitInv s) (hpasses : CommitPasses s (commitOperands r)) :
    CommitInv (acceptCommit s (commitOperands r)).1 := by
  have htouches := commitTouches hpasses
  have hnear := commit_near hpasses
  obtain ⟨⟨-, -, -, hlist, -⟩, htag, -, ⟨hprofiles, hschedule⟩, -⟩ := hpasses
  obtain ⟨hgroups, hnaming, hcarrying⟩ := (commitInv_iff s).1 h
  unfold acceptCommit
  generalize commitOperands r = c at *
  have hinserted := hgroups.insert (g := ⟨c.tag, profileSetOf c.list, c.flag == 1, landingFrame s c, .pending, none⟩)
    htag htouches rfl rfl hnear
  refine (commitInv_iff _).2 ⟨hinserted, fun p => ?_, ?_⟩
  · have hcopy : (mapSet s.profiles (profileSetOf c.list) snapshotCopy)[p].pend =
        if inSet (profileSetOf c.list) p then some s.profiles[p].staged else s.profiles[p].pend := by
      have hmap : (mapSet s.profiles (profileSetOf c.list) snapshotCopy)[p] =
          if inSet (profileSetOf c.list) p then snapshotCopy s.profiles[p] else s.profiles[p] :=
        Vector.getElem_ofFn p.isLt
      rw [hmap]
      exact apply_ite ProfileCopies.pend _ _ _
    change pendingCount (insertGroup s.stream.next _ s.commits) _ =
      if (mapSet s.profiles (profileSetOf c.list) snapshotCopy)[p].pend.isSome then 1 else 0
    rw [hcopy]
    refine pendingCount_insert rfl _ (hnaming p) fun hin => ?_
    have hmem : p.val ∈ c.list := of_decide_eq_true ((inSet_profileSetOf hlist p).symm.trans hin)
    have hprofile : profileOf p.val = p := Fin.ext (Nat.mod_eq_of_lt p.isLt)
    have hpend := hprofiles p.val hmem
    rwa [congrArg (fun q : Fin 4 => s.profiles[q].pend) hprofile] at hpend
  · have hpend : (if c.flag = 1 then { s.schedule with pend := some s.schedule.staged } else s.schedule).pend =
        if (c.flag == 1) = true then some s.schedule.staged else s.schedule.pend := by
      rw [apply_ite ScheduleUnit.pend]
      exact if_congr beq_iff_eq.symm rfl rfl
    change pendingCount (insertGroup s.stream.next _ s.commits) _ = if
      (if c.flag = 1 then { s.schedule with pend := some s.schedule.staged } else s.schedule).pend.isSome then 1 else 0
    rw [hpend]
    exact pendingCount_insert rfl _ hcarrying fun hflag => hschedule (beq_iff_eq.1 hflag)

/-- A landing at once leaves the list and what is pending (R49). -/
theorem landAtOnce_commitInv {s : State} (c : CommitOperands) (h : CommitInv s) : CommitInv (landAtOnce s c).1 := by
  refine commitInv_of_same h rfl rfl (Prod.ext (funext fun p => ?_) ?_) (.inr rfl)
  · have hmap : (mapSet s.profiles (profileSetOf c.list) landStagedCopy)[p] =
        if inSet (profileSetOf c.list) p then landStagedCopy s.profiles[p] else s.profiles[p] :=
      Vector.getElem_ofFn p.isLt
    change (mapSet s.profiles (profileSetOf c.list) landStagedCopy)[p].pend = s.profiles[p].pend
    rw [hmap]
    split <;> rfl
  · change (if c.flag = 1 then activateSchedule s.schedule s.schedule.staged else s.schedule).pend = s.schedule.pend
    split <;> rfl

theorem commitOwner_commitInv (r : Record) {s : State} (h : CommitInv s) : CommitInv (commitOwner r s).1 := by
  unfold commitOwner
  dsimp only
  split
  · exact h
  · rename_i hfault
    split
    · exact landAtOnce_commitInv _ h
    · exact acceptCommit_commitInv h (commitPasses_of_no_fault hfault)

/-! #### Frame setup -/

/-- With the next number one more, a landing frame that is ahead is one nearer (R7, R40). -/
theorem distance_step {landing next : Word} (h : landing ≠ next) :
    (landing - (next + 1#32)).toNat + 1 = (landing - next).toNat := by
  bv_omega

/-- A group that is PENDING after the landings was so before, and not due (R50). -/
theorem landedGroup_pending {s : State} {g : CommitGroup} (h : (landedGroup s g).state = .pending) :
    landedGroup s g = g ∧ g.state = .pending ∧ g.landingFrame ≠ s.stream.next := by
  unfold landedGroup at h ⊢
  by_cases hdue : DueNext s g
  · rw [if_pos hdue] at h
    cases h
  · rw [if_neg hdue] at h ⊢
    exact ⟨rfl, h, fun hframe => hdue ⟨h, hframe⟩⟩

theorem landedGroup_keeps (s : State) (g : CommitGroup) : (landedGroup s g).tag = g.tag ∧
    (landedGroup s g).profileSet = g.profileSet ∧ (landedGroup s g).scheduleFlag = g.scheduleFlag := by
  unfold landedGroup
  split <;> exact ⟨rfl, rfl, rfl⟩

/-- The list after the landings of a setup, the next number one more and a frame set up (R7, R50). -/
theorem groupsOk_landed {s t : State} (h : GroupsOk s s.commits) (hempty : s.stream.setUp = none)
    (hnext : t.stream.next = s.stream.next + 1#32) : GroupsOk t (s.commits.map (landedGroup s)) := by
  obtain ⟨htags, hshape, horder, hnear⟩ := h
  have hdistance {g : CommitGroup} (hg : g.landingFrame ≠ s.stream.next) : distance t g + 1 = distance s g := by
    rw [distance, hnext]
    exact distance_step hg
  refine ⟨?_, ?_, ?_, ?_⟩
  · rw [List.map_map]
    exact (List.map_congr_left fun g _ => (landedGroup_keeps s g).1) ▸ htags
  · intro x hx
    obtain ⟨g, hg, rfl⟩ := List.mem_map.1 hx
    obtain ⟨htouches, hpending, hlanded⟩ := hshape g hg
    unfold landedGroup
    split
    · rename_i hdue
      exact ⟨htouches, nofun, fun _ => congrArg some hdue.2.symm⟩
    · exact ⟨htouches, hpending, hlanded⟩
  · refine horder.map _ fun g x hgx hpending => ?_
    obtain ⟨hsame, hpending', hframe⟩ := landedGroup_pending hpending
    obtain ⟨hx, hle⟩ := hgx hpending'
    have hstep := hdistance hframe
    have hframe' : x.landingFrame ≠ s.stream.next := by
      intro hdue
      have hzero : distance s x = 0 := by rw [distance, hdue, BitVec.sub_self]; rfl
      omega
    have hkept : landedGroup s x = x := if_neg fun hdue => hframe' hdue.2
    have hstep' := hdistance hframe'
    rw [hsame, hkept]
    exact ⟨hx, by omega⟩
  · intro x hx hpending
    obtain ⟨g, hg, rfl⟩ := List.mem_map.1 hx
    obtain ⟨hsame, hpending', hframe⟩ := landedGroup_pending hpending
    have hbound := hnear g hg hpending'
    have hstep := hdistance hframe
    rw [hempty] at hbound
    rw [hsame]
    split <;> simp only [Option.isSome_none, Bool.false_eq_true, if_false] at hbound <;> omega

/-- Of the groups that touch a thing none stays PENDING when one of them is due, and otherwise all do (R41, R50). -/
theorem pendingCount_landed {s : State} {touches : CommitGroup → Bool}
    (hkept : ∀ g, touches (landedGroup s g) = touches g) {α : Type} {pend : Option α}
    (h : pendingCount s.commits touches = if pend.isSome then 1 else 0) :
    pendingCount (s.commits.map (landedGroup s)) touches =
      if (if ∃ g ∈ s.commits, DueNext s g ∧ touches g = true then none else pend).isSome then 1 else 0 := by
  unfold pendingCount at h
  have hafter : pendingCount (s.commits.map (landedGroup s)) touches =
      (s.commits.filter fun g => !decide (DueNext s g)).countP fun g => g.state == .pending && touches g := by
    rw [pendingCount, List.countP_map, List.countP_filter]
    refine List.countP_congr fun g _ => ?_
    change ((landedGroup s g).state == .pending && touches (landedGroup s g)) = true ↔ _
    rw [hkept]
    unfold landedGroup
    by_cases hdue : DueNext s g
    · rw [if_pos hdue, decide_eq_true hdue]
      simp
    · rw [if_neg hdue, decide_eq_false hdue]
      simp
  have hsplit := List.countP_eq_countP_filter_add s.commits (fun g => g.state == .pending && touches g)
    fun g => decide (DueNext s g)
  rw [hafter]
  by_cases hdue : ∃ g ∈ s.commits, DueNext s g ∧ touches g = true
  · rw [if_pos hdue]
    obtain ⟨g, hg, hnext, htouches⟩ := hdue
    have hsome : 0 < (s.commits.filter fun g => decide (DueNext s g)).countP fun g => g.state == .pending && touches g :=
      List.countP_pos_iff.2 ⟨g, List.mem_filter.2 ⟨hg, decide_eq_true hnext⟩, by simp [hnext.1, htouches]⟩
    have hone : (s.commits.countP fun g => g.state == .pending && touches g) ≤ 1 := by
      rw [h]
      split <;> omega
    simp only [Option.isSome_none, Bool.false_eq_true, if_false]
    omega
  · rw [if_neg hdue, ← h]
    have hnone : ((s.commits.filter fun g => decide (DueNext s g)).countP fun g => g.state == .pending && touches g) = 0 :=
      List.countP_eq_zero.2 fun g hg htouches => hdue
        ⟨g, (List.mem_filter.1 hg).1, of_decide_eq_true (List.mem_filter.1 hg).2, (Bool.and_eq_true_iff.1 htouches).2⟩
    omega

theorem landedCopies_pend (s : State) (p : Fin 4) : (landedCopies s p).pend =
    if ∃ g ∈ s.commits, DueNext s g ∧ g.profileSet.getLsbD p.val = true then none else s.profiles[p].pend :=
  apply_ite ProfileCopies.pend _ _ _

theorem steppedSchedule_pend (u : ScheduleUnit) : (steppedSchedule u).pend = u.pend := by
  unfold steppedSchedule
  split <;> rfl

theorem landedSchedule_pend (s : State) (u : ScheduleUnit) : (landedSchedule s u).pend =
    if ∃ g ∈ s.commits, DueNext s g ∧ g.scheduleFlag = true then none else u.pend := by
  unfold landedSchedule
  split
  · cases hpend : u.pend with
    | none => exact hpend
    | some e => rfl
  · rfl

theorem frameSetup_commitInv {s : State} (h : CommitInv s) (hempty : s.stream.setUp = none) :
    CommitInv (frameSetup s) := by
  obtain ⟨hgroups, hnaming, hcarrying⟩ := (commitInv_iff s).1 h
  obtain ⟨hprofiles, hcommits, hschedule, hnext, -⟩ := frameSetup_fields s
  have hlanded := groupsOk_landed (t := frameSetup s) hgroups hempty hnext
  refine (commitInv_iff _).2 ⟨by rw [hcommits]; exact hlanded, fun p => ?_, ?_⟩
  · have hcopy : (frameSetup s).profiles[p] = landedCopies s p := by
      rw [hprofiles]
      exact Vector.getElem_ofFn p.isLt
    rw [pendingNaming, hcommits, hcopy, landedCopies_pend]
    exact pendingCount_landed (fun g => by rw [(landedGroup_keeps s g).2.1]) (hnaming p)
  · rw [pendingCarrying, hcommits, hschedule, steppedSchedule_pend, landedSchedule_pend]
    exact pendingCount_landed (fun g => (landedGroup_keeps s g).2.2) hcarrying

theorem SetsUp.commitInv {s t : State} (h : SetsUp s t) (hs : CommitInv s) : CommitInv t := by
  obtain ⟨hempty, u, hu, ht, hslots⟩ := h
  have hempty' : u.stream.setUp = none := (show u.stream.setUp = s.stream.setUp from hu.samePart .setUp).trans hempty
  exact ht.commitInv (frameSetup_commitInv (hu.commitInv hs hu.slotsFrom) hempty') hslots

end Sys2Proof.Laws
end

/-! ### The commit list over every command, and what every step keeps -/

section
set_option Elab.async false
namespace Sys2Proof.Laws

open Sys2Proof Sys2Proof.Machine Sys2Proof.Safety

/-- The next number follows the frame in the set-up slot (R7). -/
abbrev NextFollows (s : State) : Prop := ∀ f, s.stream.setUp = some f → s.stream.next = f.sequence + 1#32

/-! #### STOP -/

theorem stopWaiting_commitInv {s : State} (h : CommitInv s) (hseq : NextFollows s) : CommitInv (stopWaiting s) :=
  commitInv_of_same (cancelSetUp_commitInv h hseq) rfl rfl rfl (.inr rfl)

theorem beginDraining_commitInv {s : State} (h : CommitInv s) (hseq : NextFollows s) : CommitInv (beginDraining s) :=
  commitInv_of_same (cancelSetUp_commitInv h hseq) rfl rfl rfl (.inr rfl)

theorem stopEndImmediateOwner_commitInv (r : Record) {s : State} (h : CommitInv s) (hseq : NextFollows s) :
    CommitInv (stopEndImmediateOwner r s).1 := by
  unfold stopEndImmediateOwner
  split
  · exact h
  · split
    · exact stopWaiting_commitInv h hseq
    · exact h
    · exact h

theorem execStopEnd_commitInv {s t : State} (hs : CommitInv s) (hseq : NextFollows s) (h : execStopEnd s = .next t) :
    CommitInv t := by
  unfold execStopEnd at h
  split at h
  · rcases runLong_cases s (fun r => ofKind kindStop r && stopMannerEnd r) stopEndLongOwner with
      ⟨-, he⟩ | ⟨r, rest, -, -, -, he⟩ <;> obtain rfl := Host.Outcome.next.inj (he.symm.trans h)
    · exact hs
    · exact beginDraining_commitInv (s := advanceHead s rest) hs hseq
  · rcases runImmediate_cases s (fun r => ofKind kindStop r && !stopMannerAbort r) stopEndImmediateOwner with
      ⟨-, he⟩ | ⟨r, rest, -, -, -, he⟩ <;> obtain rfl := Host.Outcome.next.inj (he.symm.trans h)
    · exact hs
    · exact stopEndImmediateOwner_commitInv r (s := advanceHead s rest) hs hseq

/-- The end of a run by ABORT: a drop report halts the device, or the set-up frame is cancelled (R16, R170). -/
theorem abortRun_commitInv {s : State} (h : CommitInv s) (hseq : NextFollows s) : CommitInv (abortRun s) := by
  unfold abortRun
  split
  · exact h
  · dsimp only
    have hmarked : ChangesOnly beforeAbortParts s { completeStopEnd s with
        stream := { (completeStopEnd s).stream with frameMark := false }, row := none } :=
      (completeStopEnd_changes s).then (ceaseMark_changes _)
    generalize ({ completeStopEnd s with
        stream := { (completeStopEnd s).stream with frameMark := false }, row := none } : State) = u at hmarked
    rcases abortCurrent_cases u with hkept | hhalt
    · have hended : ChangesOnly (.coder :: .records :: beforeAbortParts) s (abortCurrent u) := hmarked.then hkept
      generalize abortCurrent u = v at hended
      have hv : CommitInv v := hended.commitInv h hended.slotsFrom
      have hnext : v.stream.next = s.stream.next := hended.samePart .next
      have hsetUp : v.stream.setUp = s.stream.setUp := hended.samePart .setUp
      split
      · have hfreed : CommitInv { v with stream := { v.stream with current := none } } :=
          commitInv_of_same hv rfl rfl rfl (.inr rfl)
        have hcancelled := cancelSetUp_commitInv hfreed fun f hf => hnext.trans (hseq f (hsetUp.symm.trans hf))
        exact commitInv_of_same hcancelled rfl rfl rfl (.inr rfl)
      · exact hv
    · rw [hhalt, enterHalted_isEnabled, if_neg Bool.false_ne_true]
      have hhalts : HaltsAt beforeAbortParts s (enterHalted u .dropOverflow 0) :=
        ⟨u, _, _, fatalCause_dropOverflow, hmarked, rfl⟩
      exact hhalts.commitInv h

theorem execStopAbort_commitInv {s t : State} (hs : CommitInv s) (hseq : NextFollows s)
    (h : execStopAbort s = .next t) : CommitInv t := by
  unfold execStopAbort at h
  split at h <;> obtain rfl := Host.Outcome.next.inj h
  · exact hs
  · rename_i r taken htaken
    obtain ⟨rest, -, -, -, rfl⟩ := (takeImmediate_eq_some_iff s _ r taken).1 htaken
    exact abortRun_commitInv (s := answerImmediate r (useFree (advanceHead s rest)) _) hs hseq

/-! #### Every step -/

theorem exec_commitInv {c : Instr} {s t : State} (hinv : Inv s) (h : exec c s = .next t) : CommitInv t := by
  by_cases hreset : isReset c = true
  · exact (justReset_of_exec hinv hreset h).1.commitInv
  · have hreset : isReset c = false := Bool.eq_false_iff.2 hreset
    obtain ⟨hs, hseq⟩ : CommitInv s ∧ NextFollows s := by
      obtain ⟨-, -, ⟨-, ⟨hseq, -⟩, -⟩, hcommits, -⟩ := hinv
      exact ⟨hcommits, hseq⟩
    have hchanges := exec_changes hreset h
    have hslots := exec_slotsFrom hinv hreset h
    cases c with
    | powerOnReset straps => cases hreset
    | reset => cases hreset
    | commit =>
      exact runImmediate_keeps (P := CommitInv) hs (fun r _ => commitOwner_commitInv r) (fun _ => id)
        (fun _ _ => id) h
    | withdraw =>
      exact runImmediate_keeps (P := CommitInv) hs (fun r _ => withdrawOwner_commitInv r) (fun _ => id)
        (fun _ _ => id) h
    | commitLanded => exact execCommitLanded_commitInv hs h
    | stopEnd => exact execStopEnd_commitInv hs hseq h
    | stopAbort => exact execStopAbort_commitInv hs hseq h
    | start =>
      rcases execStart_setsUp hinv h with hmade | ⟨hother, hfrom⟩
      · exact hmade.commitInv hs
      · exact hother.commitInv hs hfrom
    | rowEnd =>
      rcases execRowEnd_setsUp hinv h with hmade | ⟨hother, hfrom⟩
      · exact hmade.commitInv hs
      · exact hother.commitInv hs hfrom
    | _ => exact hchanges.commitInv hs (hslots nofun nofun)

/-- Settles O54: each of the four by its exec lemma, and none of what they speak of changes at a tick. -/
theorem stepsKeepCapacitiesProfilesAndCommits : Obligations.StepsKeepCapacitiesProfilesAndCommits := by
  intro s t hinv hstep
  rcases step_cases hstep with ⟨c, rest, h⟩ | ⟨-, rfl⟩
  · have hinv' := inv_pending hinv rest
    exact ⟨exec_capacityInv hinv' h, exec_profileInv hinv' h, exec_commitInv hinv' h, exec_scheduleInv hinv' h⟩
  · obtain ⟨hcapacity, hprofiles, -, hcommits, hschedule, -⟩ := hinv
    exact ⟨hcapacity, hprofiles, hcommits, hschedule⟩

end Sys2Proof.Laws
end
